-- ==== Sys2Proof/Word.lean ====
section
/-! DEFINITION. The plain quantities of the OCG-3160: bytes, card tokens, station numbers, timers,
and the arithmetic of counts that saturate (00_scope.md, "Numbers and ranges"). -/

namespace Sys2Proof

/-- One byte on the host link or on the reader bus. -/
abbrev Byte := BitVec 8

/-- An 8-byte card token, first byte as read from the card in the high bits (R14, Table 9-2). -/
abbrev Token := BitVec 64

/-- A station number, 0 to 15; the reader of a station has the same number as bus address. -/
abbrev StationId := Fin 16

/-- A timer: stopped (`none`), or running with the time left in steps of 0.1 ms. -/
abbrev Timer := Option Nat

/-- The sixteen stations in ascending number, the order in which a retry takes them (R65). -/
def allStations : List StationId := [0, 1, 2, 3, 4, 5, 6, 7, 8, 9, 10, 11, 12, 13, 14, 15]

/-- `a + b`, left at `bound` where it would rise above it ("saturate", 00_scope.md). -/
def satAdd (bound a b : Nat) : Nat := min (a + b) bound

/-- A setting brought into its range ("clamped", 00_scope.md). -/
def clamp (low high x : Nat) : Nat := max low (min x high)

end Sys2Proof
end

