-- ==== Sys2Proof/Syntax.lean ====
section
/-! DEFINITION. The commands of the part: one constructor of `Instr` for each row of
spec/opcode_table.json, with the operands its rule names. Operands of host commands are the numbers
as they stand in the message (R188, R196 to R198): a choice is its number, so that a number naming no
value can be refused by the command's own checks. -/

namespace Sys2Proof

/-- The seven input lines of a station port (Table 5-1). -/
inductive InputLine where
  | ready | feed | exit | jam | classL | classC | classD
deriving DecidableEq, Repr

/-- The four filtered lines of a station port (Table 5-1). -/
inductive FilteredLine where
  | ready | feed | exit | jam
deriving DecidableEq, Repr

/-- Arguments of LOAD ACCOUNT (R198): bits 0, 1, 3, 5, 7 and 13 of the mask supply balance, credit
limit, payer, period cap, schedule and the period figures. -/
structure LoadForm where
  number : Nat
  kind : Nat
  state : Nat
  mask : BitVec 16
  balance : Int
  creditLimit : Int
  payer : Nat
  periodCap : Int
  schedule : Nat
  meter : Nat
  periodCharges : Int
  classCounts : Vector Nat 8
deriving DecidableEq, Repr

/-- Arguments of UPDATE ACCOUNT (R198): bits 1, 3, 5 and 7 of the mask supply credit limit, payer,
new cap and schedule; bit 14 is removal of the cap and bit 15 a kind. -/
structure UpdateForm where
  number : Nat
  mask : BitVec 16
  creditLimit : Int
  periodCap : Int
  schedule : Nat
  payer : Nat
  kind : Nat
deriving DecidableEq, Repr

/-- The two prices of a cell, in points (Table 2-1). -/
structure CellPrice where
  front : Nat
  back : Nat
deriving DecidableEq, Repr

/-- The eight prices of a tariff, by cell (Table 0-3, Table 2-1). -/
structure Prices where
  sm : CellPrice
  sc : CellPrice
  lm : CellPrice
  lc : CellPrice
deriving DecidableEq, Repr

/-- Arguments of WRITE TARIFF after the table letter (R33, R198). -/
structure TariffForm where
  prices : Prices
  startThreshold : Int
  jobMinimum : Int
  holdQuantum : Int
deriving DecidableEq, Repr

/-- Arguments of WRITE SCHEDULE after the schedule number (R38, R198): bits 0, 1 and 2 of the mask say
which thresholds are present. -/
structure ScheduleForm where
  mask : BitVec 8
  t1 : Nat
  t2 : Nat
  t3 : Nat
  d0 : Nat
  d1 : Nat
  d2 : Nat
  d3 : Nat
deriving DecidableEq, Repr

/-- The eight global settings, as SET GLOBALS carries them (R191, Table 9-4). -/
structure GlobalsForm where
  idleTimeout : Nat
  drainTimeout : Nat
  jamTimeout : Nat
  authTimeout : Nat
  preAuthAmount : Int
  walkupSchedule : Nat
  pollPeriod : Nat
  answerLimit : Nat
deriving DecidableEq, Repr

/-- The 13-byte configuration of CONFIGURE STATION (R102, R197). Bit k of the polarity mask is the
k-th line of Table 5-1, set for ACTIVE_LOW; bits 0 and 1 of the edge mask are FEED and EXIT, set for
TRAILING (R198). -/
structure ConfigForm where
  polarityMask : BitVec 8
  edgeMask : BitVec 8
  filterSteps : Nat
  divisor : Nat
  countMode : Nat
  classSource : Nat
  fixedClass : Nat
  permitMode : Nat
  tdSteps : Nat
  walkupAllowed : Nat
  sessionStyle : Nat
deriving DecidableEq, Repr

/-- The commands: the rows of spec/opcode_table.json, in the table's order. -/
inductive Instr where
  /-- R193: RESETn is driven low, or power is applied. -/
  | deviceReset
  /-- R193: RESETn rises. -/
  | resetRelease
  /-- R181: a fall of SELn. -/
  | selectPeriodStart
  /-- R183, R182: a rise of SELn; `mosi` is every whole byte clocked in the period, in order. -/
  | selectPeriodEnd (mosi : List Byte)
  /-- R18 -/
  | loadAccount (form : LoadForm)
  /-- R20 -/
  | updateAccount (form : UpdateForm)
  /-- R21 -/
  | credit (number : Nat) (amount : Int)
  /-- R22 -/
  | debit (number : Nat) (amount : Int)
  /-- R23 -/
  | block (number : Nat)
  /-- R24 -/
  | unblock (number : Nat)
  /-- R25 -/
  | retireAccount (number : Nat)
  /-- R27; number 0 names ALL (R192). -/
  | closePeriod (number : Nat)
  /-- R28 -/
  | readAccount (number : Nat)
  /-- R29 -/
  | listAccounts (above : Nat)
  /-- R16 -/
  | bindToken (token : Token) (number : Nat)
  /-- R17 -/
  | unbindToken (token : Token)
  /-- R15 -/
  | findToken (token : Token)
  /-- R33 -/
  | writeTariff (letter : Nat) (form : TariffForm)
  /-- R35 -/
  | readTariff (letter : Nat)
  /-- R38 -/
  | writeSchedule (number : Nat) (form : ScheduleForm)
  /-- R39 -/
  | readSchedule (number : Nat)
  /-- R191; `none` is the form of length 0. -/
  | setGlobals (settings : Option GlobalsForm)
  /-- R102 -/
  | configureStation (station : Nat) (form : ConfigForm)
  /-- R91 -/
  | enableStation (station : Nat)
  /-- R92 -/
  | disableStation (station : Nat)
  /-- R93 -/
  | setStationTariff (station letter : Nat)
  /-- R95 -/
  | readStation (station : Nat)
  /-- R139 -/
  | readStationAlarms (station : Nat)
  /-- R88 -/
  | openJob (station number : Nat)
  /-- R89 -/
  | endJob (station : Nat)
  /-- R129 -/
  | clearJam (station : Nat)
  /-- R136, R137 -/
  | resetStation (station : Nat)
  /-- R135 -/
  | returnToService (station : Nat)
  /-- R148 -/
  | configureReader (address setting : Nat)
  /-- R160 -/
  | readReader (address : Nat)
  /-- R151 -/
  | presetReaderCounters (address hdrCorrected hdrBad crcBad noAnswer : Nat)
  /-- R157 -/
  | sendShopMessage (index : Nat)
  /-- R158 -/
  | resetReaderBus
  /-- R169 -/
  | takeAuthRequest
  /-- R170; `granted` is absent in the 3-byte form (log 19). -/
  | authResult (reference outcome : Nat) (granted : Option Int)
  /-- R190 -/
  | statusSummary
  /-- R65: a retry of held stations, for one billing account. -/
  | retryOfHeldStations (account : Nat)
  /-- R99: the pin of an input line goes to the electrical level `high`. -/
  | lineLevelChange (station : StationId) (line : InputLine) (high : Bool)
  /-- R99: the filter timer of a line runs out. -/
  | filterTimerExpiry (station : StationId) (line : FilteredLine)
  /-- R114 -/
  | permitDelayExpiry (station : StationId)
  /-- R72 -/
  | idleTimerExpiry (station : StationId)
  /-- R122 -/
  | drainTimerExpiry (station : StationId)
  /-- R132 -/
  | jamTimeout (station : StationId)
  /-- R174: the authorisation timer of the PENDING record with this number. -/
  | authTimerExpiry (number : Nat)
  /-- R141 -/
  | pollPeriodStart
  /-- R141 -/
  | periodTimerExpiry
  /-- R157, R143 -/
  | broadcastTransferEnd
  /-- R142 -/
  | slotStart
  /-- R156: whether the DISPLAY frame was acknowledged to its last byte. -/
  | displayTransferEnd (delivered : Bool)
  /-- R143: whether the POLL frame was acknowledged to its end. -/
  | pollTransferEnd (acknowledged : Bool)
  /-- R144 -/
  | answerLimitExpiry
  /-- R145, R146: the bytes of an answer read to its end. -/
  | answerReceived (frame : List Byte)
  /-- R144: the reader lets the clock go after its answer was abandoned. -/
  | clockReleased
deriving DecidableEq, Repr

end Sys2Proof
end

