-- ==== Sys2Proof/WellFormed.lean ====
section
/-! DEFINITION. Which commands can be written at the part's pins: every operand of a host command fits
the field that carries it (Table 9-2, R197, R198), and an answer frame has a length a reader can send. -/

namespace Sys2Proof

/-- `n` fits an unsigned field of `bytes` bytes. -/
def fitsUnsigned (bytes n : Nat) : Bool := decide (n < 256 ^ bytes)

/-- `x` fits the 4-byte two's complement field of a cents figure (Table 9-2). -/
def fitsCents (x : Int) : Bool := decide (-2147483648 ≤ x) && decide (x < 2147483648)

/-- Every field of LOAD ACCOUNT fits its place in the 52 bytes of R198. -/
def LoadForm.fits (f : LoadForm) : Bool :=
  fitsUnsigned 2 f.number && fitsUnsigned 1 f.kind && fitsUnsigned 1 f.state && fitsCents f.balance &&
    fitsCents f.creditLimit && fitsUnsigned 2 f.payer && fitsCents f.periodCap &&
    fitsUnsigned 1 f.schedule && fitsUnsigned 3 f.meter && fitsCents f.periodCharges &&
    f.classCounts.toList.all (fitsUnsigned 3)

/-- Every field of UPDATE ACCOUNT fits its place in the 16 bytes of R198. -/
def UpdateForm.fits (f : UpdateForm) : Bool :=
  fitsUnsigned 2 f.number && fitsCents f.creditLimit && fitsCents f.periodCap &&
    fitsUnsigned 1 f.schedule && fitsUnsigned 2 f.payer && fitsUnsigned 1 f.kind

/-- Both prices of a cell fit their 2-byte fields. -/
def CellPrice.fits (p : CellPrice) : Bool := fitsUnsigned 2 p.front && fitsUnsigned 2 p.back

/-- Every field of WRITE TARIFF fits its place in the 29 bytes of R198. -/
def TariffForm.fits (f : TariffForm) : Bool :=
  f.prices.sm.fits && f.prices.sc.fits && f.prices.lm.fits && f.prices.lc.fits &&
    fitsCents f.startThreshold && fitsCents f.jobMinimum && fitsCents f.holdQuantum

/-- Every field of WRITE SCHEDULE fits its place in the 19 bytes of R198. -/
def ScheduleForm.fits (f : ScheduleForm) : Bool :=
  fitsUnsigned 3 f.t1 && fitsUnsigned 3 f.t2 && fitsUnsigned 3 f.t3 && fitsUnsigned 2 f.d0 &&
    fitsUnsigned 2 f.d1 && fitsUnsigned 2 f.d2 && fitsUnsigned 2 f.d3

/-- Every setting fits its place in the 16 bytes of R191. -/
def GlobalsForm.fits (f : GlobalsForm) : Bool :=
  fitsUnsigned 2 f.idleTimeout && fitsUnsigned 2 f.drainTimeout && fitsUnsigned 2 f.jamTimeout &&
    fitsUnsigned 2 f.authTimeout && fitsCents f.preAuthAmount && fitsUnsigned 1 f.walkupSchedule &&
    fitsUnsigned 2 f.pollPeriod && fitsUnsigned 1 f.answerLimit

/-- Every setting fits its place in the 13 bytes of R197. -/
def ConfigForm.fits (f : ConfigForm) : Bool :=
  fitsUnsigned 2 f.filterSteps && fitsUnsigned 1 f.divisor && fitsUnsigned 1 f.countMode &&
    fitsUnsigned 1 f.classSource && fitsUnsigned 1 f.fixedClass && fitsUnsigned 1 f.permitMode &&
    fitsUnsigned 2 f.tdSteps && fitsUnsigned 1 f.walkupAllowed && fitsUnsigned 1 f.sessionStyle

/-- The command can be written at the part's pins. -/
def WellFormed (i : Instr) : Bool :=
  match i with
  | .deviceReset => true
  | .resetRelease => true
  | .selectPeriodStart => true
  | .selectPeriodEnd _ => true
  | .loadAccount f => f.fits
  | .updateAccount f => f.fits
  | .credit n a => fitsUnsigned 2 n && fitsCents a
  | .debit n a => fitsUnsigned 2 n && fitsCents a
  | .block n => fitsUnsigned 2 n
  | .unblock n => fitsUnsigned 2 n
  | .retireAccount n => fitsUnsigned 2 n
  | .closePeriod n => fitsUnsigned 2 n
  | .readAccount n => fitsUnsigned 2 n
  | .listAccounts n => fitsUnsigned 2 n
  | .bindToken _ n => fitsUnsigned 2 n
  | .unbindToken _ => true
  | .findToken _ => true
  | .writeTariff l f => fitsUnsigned 1 l && f.fits
  | .readTariff l => fitsUnsigned 1 l
  | .writeSchedule n f => fitsUnsigned 1 n && f.fits
  | .readSchedule n => fitsUnsigned 1 n
  | .setGlobals g => g.all GlobalsForm.fits
  | .configureStation st f => fitsUnsigned 1 st && f.fits
  | .enableStation st => fitsUnsigned 1 st
  | .disableStation st => fitsUnsigned 1 st
  | .setStationTariff st l => fitsUnsigned 1 st && fitsUnsigned 1 l
  | .readStation st => fitsUnsigned 1 st
  | .readStationAlarms st => fitsUnsigned 1 st
  | .openJob st n => fitsUnsigned 1 st && fitsUnsigned 2 n
  | .endJob st => fitsUnsigned 1 st
  | .clearJam st => fitsUnsigned 1 st
  | .resetStation st => fitsUnsigned 1 st
  | .returnToService st => fitsUnsigned 1 st
  | .configureReader a x => fitsUnsigned 1 a && fitsUnsigned 1 x
  | .readReader a => fitsUnsigned 1 a
  | .presetReaderCounters a w x y z =>
    fitsUnsigned 1 a && fitsUnsigned 1 w && fitsUnsigned 1 x && fitsUnsigned 1 y && fitsUnsigned 1 z
  | .sendShopMessage x => fitsUnsigned 1 x
  | .resetReaderBus => true
  | .takeAuthRequest => true
  | .authResult r o g => fitsUnsigned 2 r && fitsUnsigned 1 o && g.all fitsCents
  | .statusSummary => true
  | .retryOfHeldStations n => fitsUnsigned 2 n
  | .lineLevelChange _ _ _ => true
  | .filterTimerExpiry _ _ => true
  | .permitDelayExpiry _ => true
  | .idleTimerExpiry _ => true
  | .drainTimerExpiry _ => true
  | .jamTimeout _ => true
  | .authTimerExpiry n => decide (60000 ≤ n) && decide (n ≤ 60999)
  | .pollPeriodStart => true
  | .periodTimerExpiry => true
  | .broadcastTransferEnd => true
  | .slotStart => true
  | .displayTransferEnd _ => true
  | .pollTransferEnd _ => true
  | .answerLimitExpiry => true
  | .answerReceived frame => decide (5 ≤ frame.length) && decide (frame.length ≤ 36)
  | .clockReleased => true

end Sys2Proof
end

