-- ==== Sys2Proof/Decode.lean ====
section
/-! DEFINITION. The command message of the host link, read and written: the byte order of R188, the
CRC of R194, the codes of Table 9-3 and the argument layouts of R188, R191, R197 and R198; and
`decodeTableWord`, which answers `none` because no row of spec/opcode_table.json gives bits (log 30). -/

namespace Sys2Proof

/-! ### Byte order -/

/-- `n` in `k` bytes, high byte first (R188). -/
def be : Nat → Nat → List Byte
  | 0, _ => []
  | k + 1, n => be k (n / 256) ++ [BitVec.ofNat 8 n]

/-- The unsigned number that bytes spell, high byte first (R188). -/
def beNat (bytes : List Byte) : Nat := bytes.foldl (fun acc b => acc * 256 + b.toNat) 0

/-- A cents figure in 4 bytes of two's complement (Table 9-2), the nearest the field can carry. -/
def beCents (x : Int) : List Byte :=
  be 4 ((max (-2147483648) (min x 2147483647)) % 4294967296).toNat

/-- The cents figure that 4 bytes of two's complement spell (Table 9-2). -/
def centsOf (bytes : List Byte) : Int :=
  if beNat bytes < 2147483648 then (beNat bytes : Int) else (beNat bytes : Int) - 4294967296

/-- The `len` bytes from place `at_`. -/
def slice (bytes : List Byte) (at_ len : Nat) : List Byte := (bytes.drop at_).take len

/-- The unsigned field of `len` bytes at a place. -/
def numberAt (bytes : List Byte) (at_ len : Nat) : Nat := beNat (slice bytes at_ len)

/-- The 4-byte cents field at a place. -/
def centsAt (bytes : List Byte) (at_ : Nat) : Int := centsOf (slice bytes at_ 4)

/-! ### CRC (R194) -/

/-- One step of the CRC register: polynomial x^16 + x^12 + x^5 + 1. -/
def crcBit (r : BitVec 16) : BitVec 16 := if r.msb then (r <<< 1) ^^^ 0x1021#16 else r <<< 1

/-- One byte through the CRC register, most significant bit first. -/
def crcByte (r : BitVec 16) (b : Byte) : BitVec 16 :=
  crcBit (crcBit (crcBit (crcBit (crcBit (crcBit (crcBit (crcBit (r ^^^ (b.zeroExtend 16 <<< 8)))))))))

/-- The CRC-16 of a message: register preset to all ones, no final inversion (R194). -/
def crc16 (bytes : List Byte) : BitVec 16 := bytes.foldl crcByte 0xFFFF#16

/-- The CRC as it is sent, high byte first (R194). -/
def crcBytes (bytes : List Byte) : List Byte := be 2 (crc16 bytes).toNat

/-! ### Arguments -/

/-- LOAD ACCOUNT's 52 bytes (R198). -/
def readLoadForm (a : List Byte) : LoadForm :=
  { number := numberAt a 0 2, kind := numberAt a 2 1, state := numberAt a 3 1
    mask := BitVec.ofNat 16 (numberAt a 4 2), balance := centsAt a 6, creditLimit := centsAt a 10
    payer := numberAt a 14 2, periodCap := centsAt a 16, schedule := numberAt a 20 1
    meter := numberAt a 21 3, periodCharges := centsAt a 24
    classCounts := #v[numberAt a 28 3, numberAt a 31 3, numberAt a 34 3, numberAt a 37 3,
      numberAt a 40 3, numberAt a 43 3, numberAt a 46 3, numberAt a 49 3] }

/-- UPDATE ACCOUNT's 16 bytes (R198). -/
def readUpdateForm (a : List Byte) : UpdateForm :=
  { number := numberAt a 0 2, mask := BitVec.ofNat 16 (numberAt a 2 2), creditLimit := centsAt a 4
    periodCap := centsAt a 8, schedule := numberAt a 12 1, payer := numberAt a 13 2
    kind := numberAt a 15 1 }

/-- WRITE TARIFF's bytes after the letter (R198). -/
def readTariffForm (a : List Byte) : TariffForm :=
  { prices :=
      { sm := ⟨numberAt a 1 2, numberAt a 3 2⟩, sc := ⟨numberAt a 5 2, numberAt a 7 2⟩
        lm := ⟨numberAt a 9 2, numberAt a 11 2⟩, lc := ⟨numberAt a 13 2, numberAt a 15 2⟩ }
    startThreshold := centsAt a 17, jobMinimum := centsAt a 21, holdQuantum := centsAt a 25 }

/-- WRITE SCHEDULE's bytes after the number (R198). -/
def readScheduleForm (a : List Byte) : ScheduleForm :=
  { mask := BitVec.ofNat 8 (numberAt a 1 1), t1 := numberAt a 2 3, t2 := numberAt a 5 3
    t3 := numberAt a 8 3, d0 := numberAt a 11 2, d1 := numberAt a 13 2, d2 := numberAt a 15 2
    d3 := numberAt a 17 2 }

/-- SET GLOBALS' 16 bytes (R191, Table 9-4). -/
def readGlobalsForm (a : List Byte) : GlobalsForm :=
  { idleTimeout := numberAt a 0 2, drainTimeout := numberAt a 2 2, jamTimeout := numberAt a 4 2
    authTimeout := numberAt a 6 2, preAuthAmount := centsAt a 8, walkupSchedule := numberAt a 12 1
    pollPeriod := numberAt a 13 2, answerLimit := numberAt a 15 1 }

/-- CONFIGURE STATION's 13 bytes after the station number (R197). -/
def readConfigForm (a : List Byte) : ConfigForm :=
  { polarityMask := BitVec.ofNat 8 (numberAt a 1 1), edgeMask := BitVec.ofNat 8 (numberAt a 2 1)
    filterSteps := numberAt a 3 2, divisor := numberAt a 5 1, countMode := numberAt a 6 1
    classSource := numberAt a 7 1, fixedClass := numberAt a 8 1, permitMode := numberAt a 9 1
    tdSteps := numberAt a 10 2, walkupAllowed := numberAt a 12 1, sessionStyle := numberAt a 13 1 }

/-- The token in 8 bytes at a place (Table 9-2). -/
def tokenAt (a : List Byte) (at_ : Nat) : Token := BitVec.ofNat 64 (numberAt a at_ 8)

/-- What a code and its arguments spell (steps 4 and 5 of R182). -/
inductive CommandReading where
  /-- The code names no command of Table 9-3. -/
  | unknownCode
  /-- The argument length is not one that the command takes (R188). -/
  | wrongLength
  /-- The message spells this command. -/
  | command (i : Instr)
deriving DecidableEq, Repr

/-- A command that takes exactly `n` bytes of arguments (R188). -/
def fixedLength (a : List Byte) (n : Nat) (i : Instr) : CommandReading :=
  if a.length = n then .command i else .wrongLength

/-- The command a code of Table 9-3 and its arguments spell. DEDUCED (log 33): CREDIT and DEBIT carry
the amount and then the account number, the order in which R21 and R22 name them. -/
def decodeCommand (code : Nat) (a : List Byte) : CommandReading :=
  match code with
  | 0x10 => fixedLength a 52 (.loadAccount (readLoadForm a))
  | 0x11 => fixedLength a 16 (.updateAccount (readUpdateForm a))
  | 0x12 => fixedLength a 6 (.credit (numberAt a 4 2) (centsAt a 0))
  | 0x13 => fixedLength a 6 (.debit (numberAt a 4 2) (centsAt a 0))
  | 0x14 => fixedLength a 2 (.block (numberAt a 0 2))
  | 0x15 => fixedLength a 2 (.unblock (numberAt a 0 2))
  | 0x16 => fixedLength a 2 (.retireAccount (numberAt a 0 2))
  | 0x17 => fixedLength a 2 (.closePeriod (numberAt a 0 2))
  | 0x18 => fixedLength a 2 (.readAccount (numberAt a 0 2))
  | 0x19 => fixedLength a 2 (.listAccounts (numberAt a 0 2))
  | 0x20 => fixedLength a 10 (.bindToken (tokenAt a 0) (numberAt a 8 2))
  | 0x21 => fixedLength a 8 (.unbindToken (tokenAt a 0))
  | 0x22 => fixedLength a 8 (.findToken (tokenAt a 0))
  | 0x30 => fixedLength a 29 (.writeTariff (numberAt a 0 1) (readTariffForm a))
  | 0x31 => fixedLength a 1 (.readTariff (numberAt a 0 1))
  | 0x32 => fixedLength a 19 (.writeSchedule (numberAt a 0 1) (readScheduleForm a))
  | 0x33 => fixedLength a 1 (.readSchedule (numberAt a 0 1))
  | 0x34 =>
    if a.length = 0 then .command (.setGlobals none)
    else fixedLength a 16 (.setGlobals (some (readGlobalsForm a)))
  | 0x40 => fixedLength a 14 (.configureStation (numberAt a 0 1) (readConfigForm a))
  | 0x41 => fixedLength a 1 (.enableStation (numberAt a 0 1))
  | 0x42 => fixedLength a 1 (.disableStation (numberAt a 0 1))
  | 0x43 => fixedLength a 2 (.setStationTariff (numberAt a 0 1) (numberAt a 1 1))
  | 0x44 => fixedLength a 1 (.readStation (numberAt a 0 1))
  | 0x45 => fixedLength a 1 (.readStationAlarms (numberAt a 0 1))
  | 0x46 => fixedLength a 3 (.openJob (numberAt a 0 1) (numberAt a 1 2))
  | 0x47 => fixedLength a 1 (.endJob (numberAt a 0 1))
  | 0x48 => fixedLength a 1 (.clearJam (numberAt a 0 1))
  | 0x49 => fixedLength a 1 (.resetStation (numberAt a 0 1))
  | 0x4A => fixedLength a 1 (.returnToService (numberAt a 0 1))
  | 0x50 => fixedLength a 2 (.configureReader (numberAt a 0 1) (numberAt a 1 1))
  | 0x51 => fixedLength a 1 (.readReader (numberAt a 0 1))
  | 0x52 =>
    fixedLength a 5 (.presetReaderCounters (numberAt a 0 1) (numberAt a 1 1) (numberAt a 2 1)
      (numberAt a 3 1) (numberAt a 4 1))
  | 0x53 => fixedLength a 1 (.sendShopMessage (numberAt a 0 1))
  | 0x54 => fixedLength a 0 .resetReaderBus
  | 0x60 => fixedLength a 0 .takeAuthRequest
  | 0x61 =>
    if a.length = 3 then .command (.authResult (numberAt a 0 2) (numberAt a 2 1) none)
    else fixedLength a 7 (.authResult (numberAt a 0 2) (numberAt a 2 1) (some (centsAt a 3)))
  | 0x70 => fixedLength a 0 .statusSummary
  | _ => .unknownCode

/-! ### The same tables, written -/

/-- The bytes of the eight prices, front before back, in cell order (R198). -/
def pricesBytes (p : Prices) : List Byte :=
  be 2 p.sm.front ++ be 2 p.sm.back ++ be 2 p.sc.front ++ be 2 p.sc.back ++ be 2 p.lm.front ++
    be 2 p.lm.back ++ be 2 p.lc.front ++ be 2 p.lc.back

/-- LOAD ACCOUNT's 52 bytes (R198). -/
def loadFormBytes (f : LoadForm) : List Byte :=
  be 2 f.number ++ be 1 f.kind ++ be 1 f.state ++ be 2 f.mask.toNat ++ beCents f.balance ++
    beCents f.creditLimit ++ be 2 f.payer ++ beCents f.periodCap ++ be 1 f.schedule ++ be 3 f.meter ++
    beCents f.periodCharges ++ f.classCounts.toList.flatMap (be 3)

/-- UPDATE ACCOUNT's 16 bytes (R198). -/
def updateFormBytes (f : UpdateForm) : List Byte :=
  be 2 f.number ++ be 2 f.mask.toNat ++ beCents f.creditLimit ++ beCents f.periodCap ++
    be 1 f.schedule ++ be 2 f.payer ++ be 1 f.kind

/-- WRITE TARIFF's 29 bytes (R198). -/
def tariffFormBytes (letter : Nat) (f : TariffForm) : List Byte :=
  be 1 letter ++ pricesBytes f.prices ++ beCents f.startThreshold ++ beCents f.jobMinimum ++
    beCents f.holdQuantum

/-- WRITE SCHEDULE's 19 bytes (R198). -/
def scheduleFormBytes (number : Nat) (f : ScheduleForm) : List Byte :=
  be 1 number ++ be 1 f.mask.toNat ++ be 3 f.t1 ++ be 3 f.t2 ++ be 3 f.t3 ++ be 2 f.d0 ++ be 2 f.d1 ++
    be 2 f.d2 ++ be 2 f.d3

/-- SET GLOBALS' 16 bytes (R191). -/
def globalsFormBytes (f : GlobalsForm) : List Byte :=
  be 2 f.idleTimeout ++ be 2 f.drainTimeout ++ be 2 f.jamTimeout ++ be 2 f.authTimeout ++
    beCents f.preAuthAmount ++ be 1 f.walkupSchedule ++ be 2 f.pollPeriod ++ be 1 f.answerLimit

/-- CONFIGURE STATION's 13 bytes after the station number (R197). -/
def configFormBytes (f : ConfigForm) : List Byte :=
  be 1 f.polarityMask.toNat ++ be 1 f.edgeMask.toNat ++ be 2 f.filterSteps ++ be 1 f.divisor ++
    be 1 f.countMode ++ be 1 f.classSource ++ be 1 f.fixedClass ++ be 1 f.permitMode ++
    be 2 f.tdSteps ++ be 1 f.walkupAllowed ++ be 1 f.sessionStyle

/-- The code of Table 9-3 and the arguments of a host command; `none` for an event, which no message
carries. -/
def encodeCommand (i : Instr) : Option (Nat × List Byte) :=
  match i with
  | .loadAccount f => some (0x10, loadFormBytes f)
  | .updateAccount f => some (0x11, updateFormBytes f)
  | .credit n a => some (0x12, beCents a ++ be 2 n)
  | .debit n a => some (0x13, beCents a ++ be 2 n)
  | .block n => some (0x14, be 2 n)
  | .unblock n => some (0x15, be 2 n)
  | .retireAccount n => some (0x16, be 2 n)
  | .closePeriod n => some (0x17, be 2 n)
  | .readAccount n => some (0x18, be 2 n)
  | .listAccounts n => some (0x19, be 2 n)
  | .bindToken t n => some (0x20, be 8 t.toNat ++ be 2 n)
  | .unbindToken t => some (0x21, be 8 t.toNat)
  | .findToken t => some (0x22, be 8 t.toNat)
  | .writeTariff l f => some (0x30, tariffFormBytes l f)
  | .readTariff l => some (0x31, be 1 l)
  | .writeSchedule n f => some (0x32, scheduleFormBytes n f)
  | .readSchedule n => some (0x33, be 1 n)
  | .setGlobals none => some (0x34, [])
  | .setGlobals (some g) => some (0x34, globalsFormBytes g)
  | .configureStation st f => some (0x40, be 1 st ++ configFormBytes f)
  | .enableStation st => some (0x41, be 1 st)
  | .disableStation st => some (0x42, be 1 st)
  | .setStationTariff st l => some (0x43, be 1 st ++ be 1 l)
  | .readStation st => some (0x44, be 1 st)
  | .readStationAlarms st => some (0x45, be 1 st)
  | .openJob st n => some (0x46, be 1 st ++ be 2 n)
  | .endJob st => some (0x47, be 1 st)
  | .clearJam st => some (0x48, be 1 st)
  | .resetStation st => some (0x49, be 1 st)
  | .returnToService st => some (0x4A, be 1 st)
  | .configureReader a x => some (0x50, be 1 a ++ be 1 x)
  | .readReader a => some (0x51, be 1 a)
  | .presetReaderCounters a w x y z => some (0x52, be 1 a ++ be 1 w ++ be 1 x ++ be 1 y ++ be 1 z)
  | .sendShopMessage x => some (0x53, be 1 x)
  | .resetReaderBus => some (0x54, [])
  | .takeAuthRequest => some (0x60, [])
  | .authResult r o none => some (0x61, be 2 r ++ be 1 o)
  | .authResult r o (some g) => some (0x61, be 2 r ++ be 1 o ++ beCents g)
  | .statusSummary => some (0x70, [])
  | .deviceReset => none
  | .resetRelease => none
  | .selectPeriodStart => none
  | .selectPeriodEnd _ => none
  | .retryOfHeldStations _ => none
  | .lineLevelChange _ _ _ => none
  | .filterTimerExpiry _ _ => none
  | .permitDelayExpiry _ => none
  | .idleTimerExpiry _ => none
  | .drainTimerExpiry _ => none
  | .jamTimeout _ => none
  | .authTimerExpiry _ => none
  | .pollPeriodStart => none
  | .periodTimerExpiry => none
  | .broadcastTransferEnd => none
  | .slotStart => none
  | .displayTransferEnd _ => none
  | .pollTransferEnd _ => none
  | .answerLimitExpiry => none
  | .answerReceived _ => none
  | .clockReleased => none

/-- The bytes of a command message: code, argument length, arguments, CRC (Table 9-5). -/
def messageBytes (code : Nat) (a : List Byte) : List Byte :=
  be 1 code ++ be 1 a.length ++ a ++ crcBytes (be 1 code ++ be 1 a.length ++ a)

/-- The command that a word spells by the bits of spec/opcode_table.json. No row of that table gives
bits, so no word spells a command (log 30). -/
def decodeTableWord (_nbits _w : Nat) : Option Instr := none

end Sys2Proof
end

