-- ==== Sys2Proof/Config.lean ====
section
/-! DEFINITION. The figures the manual fixes once for the part: capacities, ranges and bounds.
The manual leaves no value of an operation open, so there is no free value here. -/

namespace Sys2Proof.Config

/-- Account records the ACT holds at most (R1). -/
def maxAccounts : Nat := 1024
/-- Entries the TIX holds at most (R14). -/
def maxTokens : Nat := 2048
/-- Tokens of one registered account at most (R12). -/
def maxTokensPerAccount : Nat := 4
/-- TRANSIENT records at most (R162, R165). -/
def maxTransients : Nat := 32
/-- Sheets in path and disputed together at one station, at most (R118). -/
def maxSheetsInPath : Nat := 8

/-- Largest number of a registered account (R2). -/
def lastRegistered : Nat := 59999
/-- First number of a TRANSIENT account (R2). -/
def firstTransient : Nat := 60000
/-- Last number of a TRANSIENT account (R2). -/
def lastTransient : Nat := 60999
/-- Largest auth reference (R164). -/
def lastReference : Nat := 65535

/-- Largest balance that CREDIT and LOAD ACCOUNT allow (R5, R18). -/
def balanceTop : Int := 999999999
/-- Least balance that DEBIT and LOAD ACCOUNT allow (R5, R18). -/
def balanceBottom : Int := -99999999
/-- Where a balance saturates at settlement (R5, R74). -/
def balanceFloor : Int := -999999999
/-- Largest credit limit and period cap (Table 1-3). -/
def limitTop : Int := 10000000
/-- Largest amount of one CREDIT or DEBIT (R21, R22). -/
def transferTop : Int := 100000000
/-- Bound of the period charges (R11) and of an amount on a display (R96). -/
def chargesTop : Nat := 999999999
/-- Bound of the meter and of each class count of an account (R10, R11). -/
def meterTop : Nat := 16777215
/-- Bound of the sheet counts of a job (R52). -/
def sheetCountTop : Nat := 4294967295
/-- Bound of the 16-bit counts (R51, R110, R111). -/
def countTop : Nat := 65535
/-- The job ceiling, in cents (R55, R60). -/
def jobCeiling : Nat := 1000000
/-- Largest grant AUTH RESULT may carry (R170). -/
def grantTop : Int := 1000000
/-- Milli-points in one cent (Table 0-2). -/
def milliPointsPerCent : Nat := 100000
/-- Largest threshold of a schedule (R37). -/
def thresholdTop : Nat := 16777214
/-- Largest discount, in per-mille (R37). -/
def discountTop : Nat := 900
/-- Bound of a reader's error counters (R149). -/
def errorCounterTop : Nat := 255

/-- Steps of 0.1 ms in one millisecond. -/
def stepsPerMs : Nat := 10
/-- Steps of 0.1 ms in one second. -/
def stepsPerSecond : Nat := 10000
/-- Steps of 0.1 ms in one minute. -/
def stepsPerMinute : Nat := 600000

end Sys2Proof.Config
end

