-- ==== Sys2Proof/Machine/State.lean ====
section
/-! DEFINITION. The state of the part as plain data: every record, table, counter, timer, flag and pin
the spec names, each with its value after device reset, and the queue of commands that wait. -/

namespace Sys2Proof.Machine

/-! ### Accounts (Chapter 1) -/

/-- R2 -/
inductive AccountKind where
  | prepaid | credit | member | transient
deriving DecidableEq, Repr

/-- R3 (registered accounts: active, blocked, closing) and R4 (TRANSIENT: pending, opened, settled).
`opened` is the state the spec calls OPEN. -/
inductive AccountState where
  | active | blocked | closing | pending | opened | settled
deriving DecidableEq, Repr

/-- R13: the request state of a PENDING record. -/
inductive RequestState where
  | waiting | taken
deriving DecidableEq, Repr

/-- The walk-up fields of a TRANSIENT record (R13, R162, Table 8-4), with the station whose walk-up it
is (R169) and its authorisation timer. -/
structure Walkup where
  authRef : Nat
  requested : Nat
  granted : Option Nat
  requestState : Option RequestState
  finalCharge : Option Nat
  authTimer : Timer
  station : StationId
deriving DecidableEq, Repr

/-- An account record (Table 1-3). A money figure absent for the kind stands at 0; payer, period cap
and walk-up fields are absent where the kind does not carry them. -/
structure Account where
  number : Nat
  kind : AccountKind
  state : AccountState
  balance : Int
  creditLimit : Nat
  held : Nat
  payer : Option Nat
  memberHeld : Nat
  periodCap : Option Nat
  memberCount : Nat
  schedule : Fin 4
  meter : Nat
  meterSaturated : Bool
  periodCharges : Nat
  classCounts : Vector Nat 8
  tokens : List Token
  openJobs : Nat
  walkup : Option Walkup
deriving DecidableEq, Repr

/-- An entry of the token index (R14). -/
structure TokenEntry where
  token : Token
  account : Nat
deriving DecidableEq, Repr

/-! ### Tariffs and schedules (Chapter 2) -/

/-- A tariff table (R31, Table 2-1) with its reserve in milli-points (R32); cleared in all fields while
it is undefined. -/
structure Tariff where
  isDefined : Bool
  prices : Prices
  startThreshold : Nat
  jobMinimum : Nat
  holdQuantum : Nat
  reserve : Nat
deriving DecidableEq, Repr

/-- A discount schedule (R37). -/
structure Schedule where
  t1 : Option Nat
  t2 : Option Nat
  t3 : Option Nat
  d0 : Nat
  d1 : Nat
  d2 : Nat
  d3 : Nat
deriving DecidableEq, Repr

/-- A tariff letter, A being 0 (Table 9-2). -/
abbrev TariffLetter := Fin 4

/-- The price snapshot of a job (R40, Table 2-4). -/
structure Snapshot where
  letter : TariffLetter
  scheduleNumber : Fin 4
  prices : Prices
  reserve : Nat
  holdQuantum : Nat
  jobMinimum : Nat
  schedule : Schedule
deriving DecidableEq, Repr

/-- The sheet class: size, colour and sides (Table 2-5). -/
structure SheetClass where
  large : Bool
  colour : Bool
  duplex : Bool
deriving DecidableEq, Repr

/-- A priced sheet (R41), as the path queue and the disputed list hold it (R118, R119). -/
structure Sheet where
  seqNo : Nat
  cls : SheetClass
  firstOrdinal : Nat
  impressions : Nat
  amount : Nat
deriving DecidableEq, Repr

/-! ### Jobs (Chapter 3) -/

/-- R51 -/
inductive JobKind where
  | account | card
deriving DecidableEq, Repr

/-- R51 -/
inductive OpenedBy where
  | reader | host
deriving DecidableEq, Repr

/-- The end causes, in the order of Table 3-3. -/
inductive EndCause where
  | endKey | cardTap | cardRemoved | idleTimeout | hostEnd | accountBlocked | jamTimeout | stationReset
deriving DecidableEq, Repr

/-- The job record of a station (Table 3-1). -/
structure Job where
  user : Nat
  billing : Nat
  kind : JobKind
  openedBy : OpenedBy
  authRef : Option Nat
  snapshot : Snapshot
  hold : Nat
  accrued : Nat
  nextSeq : Nat
  pricedSheets : Nat
  billed : Vector Nat 8
  billedImpressions : Nat
  voidedSheets : Nat
  voidedImpressions : Nat
  jams : Nat
  overruns : Nat
  unpricedFeeds : Nat
  strayExits : Nat
  endRequest : Option EndCause
  idleTimer : Timer
deriving DecidableEq, Repr

/-- The last-job record of a station (R53). -/
structure LastJob where
  user : Nat
  billing : Nat
  kind : JobKind
  openedBy : OpenedBy
  authRef : Option Nat
  endCause : Option EndCause
  billed : Vector Nat 8
  billedImpressions : Nat
  voidedSheets : Nat
  voidedImpressions : Nat
  jams : Nat
  overruns : Nat
  unpricedFeeds : Nat
  strayExits : Nat
  hold : Nat
  charge : Nat
  minimumApplied : Bool
  balanceAfter : Int
deriving DecidableEq, Repr

/-! ### Stations (Chapters 4, 5 and 6) -/

/-- The station states, in the order of Table 4-1. -/
inductive StationState where
  | disabled | idle | opening | running | held | closing | jammed | outOfService
deriving DecidableEq, Repr

/-- R98 -/
inductive Polarity where
  | activeHigh | activeLow
deriving DecidableEq, Repr

/-- R100 -/
inductive CountingEdge where
  | leading | trailing
deriving DecidableEq, Repr

/-- R104 -/
inductive CountMode where
  | tracked | feedOnly | exitOnly
deriving DecidableEq, Repr

/-- R105 -/
inductive ClassSource where
  | lines | fixed
deriving DecidableEq, Repr

/-- R112 -/
inductive PermitMode where
  | level | interlocked | partialMode
deriving DecidableEq, Repr

/-- R80 -/
inductive SessionStyle where
  | tap | inserted
deriving DecidableEq, Repr

/-- One value for each of the seven input lines of a station port (Table 5-1). -/
structure PerInput (α : Type) where
  ready : α
  feed : α
  exit : α
  jam : α
  classL : α
  classC : α
  classD : α
deriving DecidableEq, Repr

/-- One value for each of the four filtered lines of a station port (Table 5-1). -/
structure PerFiltered (α : Type) where
  ready : α
  feed : α
  exit : α
  jam : α
deriving DecidableEq, Repr

/-- The station configuration (Table 5-2). It holds the session style of the session record too: the
two are one setting (R80). The filter is in steps of 0.1 ms, Td in steps of 10 ms (R102). -/
structure StationConfig where
  permitPolarity : Polarity
  polarity : PerInput Polarity
  feedEdge : CountingEdge
  exitEdge : CountingEdge
  filterSteps : Nat
  divisor : Nat
  countMode : CountMode
  classSource : ClassSource
  fixedClass : SheetClass
  permitMode : PermitMode
  tdSteps : Nat
  walkupAllowed : Bool
  style : SessionStyle
deriving DecidableEq, Repr

/-- R123 -/
inductive JamCause where
  | jamLine | pathOverflow | drainTimeout
deriving DecidableEq, Repr

/-- The station alarm flags (R138, Table 6-1). -/
structure StationAlarms where
  jamEntered : Bool
  outOfService : Bool
  unauthorisedFeed : Bool
  strayExit : Bool
  pathOverflow : Bool
  overrun : Bool
deriving DecidableEq, Repr

/-- Everything the SPC of one station holds, with the JBC's job record and last-job record of the
station. `pins` are the electrical levels of the input lines, true for high (R97, R98); `filtered` is
true for ACTIVE (R97); `permit` is true while PERMIT is asserted (R112). -/
structure Station where
  state : StationState
  config : StationConfig
  tariff : TariffLetter
  sessionToken : Option Token
  pins : PerInput Bool
  filtered : PerFiltered Bool
  filterTimers : PerFiltered Timer
  feedCounter : Nat
  exitCounter : Nat
  permit : Bool
  permitDelay : Timer
  unauthorisedFeeds : Nat
  strayExits : Nat
  job : Option Job
  lastJob : Option LastJob
  path : List Sheet
  disputed : List Sheet
  drainTimer : Timer
  jamCause : Option JamCause
  jamTimer : Timer
  alarms : StationAlarms
deriving DecidableEq, Repr

/-! ### Readers and the reader bus (Chapter 7) -/

/-- R140 -/
inductive LinkState where
  | inService | lost
deriving DecidableEq, Repr

/-- A display message (R96, Table 4-4): the code with the amount in cents or the count it carries, in
the order of the table. -/
inductive Display where
  | welcome (amount : Nat)
  | charge (amount : Nat)
  | stoppedNoCredit (amount : Nat)
  | jam (count : Nat)
  | jamCleared (count : Nat)
  | declined
  | noResponse
  | unknownCard
  | accountBlocked
  | stationBusy
  | cardInUse
  | walkupUnavailable
  | authorising
  | goodbye (amount : Nat)
  | outOfService
deriving DecidableEq, Repr

/-- A reader record (R140, Table 7-1, Table 7-6). -/
structure Reader where
  polled : Bool
  link : LinkState
  consecutive : Nat
  hdrCorrected : Nat
  hdrBad : Nat
  crcBad : Nat
  noAnswer : Nat
  strictHeader : Bool
  display : Option Display
  displayReplaced : Bool
  linkLost : Bool
  counterSaturated : Bool
deriving DecidableEq, Repr

/-- What the reader bus is doing (R141 to R144, R156). `atRest`: no transfer, the slots of the present
period have ended. `betweenSlots`: no reader's slot runs, and the next is to begin. `displaying` carries
the copy of the message that is being sent, `reading` the answer limit in ms that the reading started
with. -/
inductive BusPhase where
  | atRest
  | broadcasting (index : Nat)
  | betweenSlots
  | displaying (reader : StationId) (message : Display)
  | polling (reader : StationId)
  | reading (reader : StationId) (limit : Nat)
deriving DecidableEq, Repr

/-- The bus itself: the transfer in progress, the readers of the poll list whose slots have not begun,
the period timer (R141) and the broadcast slot (R157). `clockHeld`: an answer was abandoned at the
answer limit and its reader has not let the clock go yet, so the stop condition of R144 is still to
come and no transfer can begin (R143; log 27). -/
structure Bus where
  phase : BusPhase
  clockHeld : Bool
  toServe : List StationId
  periodTimer : Timer
  broadcast : Option Nat
deriving DecidableEq, Repr

/-! ### Walk-up unit, host link, settings (Chapters 8 and 9) -/

/-- The rotors and the WAITING list of the WAU (R162 to R164, R168). -/
structure WalkupUnit where
  numberRotor : Nat
  referenceRotor : Nat
  waiting : List Nat
deriving DecidableEq, Repr

/-- The status codes of Table 9-1, in its order. -/
inductive Status where
  | ok | clamped | deferred | badFrame | unknownCommand | invalid | notFound | exists_ | full | busy
  | refusedState | limit | noRequest | approvedUnused
deriving DecidableEq, Repr

/-- A response: status and result bytes (R187, Table 9-6). -/
structure Response where
  status : Status
  results : List Byte
deriving DecidableEq, Repr

/-- A select period in progress (R181): the response message it shifts out, if one was waiting at its
start; whether that message's flags byte shows COLLISION (R185); and whether that response still
stands in the response buffer (R186). -/
structure SelectPeriod where
  shifting : Option (List Byte)
  showsCollision : Bool
  live : Bool
deriving DecidableEq, Repr

/-- What the judging of a message has led to (R182): a refusal, or a command taken. -/
inductive Judged where
  | refusal (status : Status)
  | command (i : Instr)
deriving DecidableEq, Repr

/-- The Host Link Interface (R181 to R186). `judged` is the refusal or the command of a message that has
been judged and whose response is not placed yet; RDY is low while there is one (R184). `misoDriven` is true while the part
drives MISO and false while MISO is at high impedance (R181, R193). `misoOut` is the model's own: the
bytes the host clocked out in the last select period (log 12). -/
structure Link where
  judged : Option Judged
  response : Option Response
  collision : Bool
  select : Option SelectPeriod
  rdy : Bool
  attn : Bool
  misoDriven : Bool
  misoOut : List Byte
deriving DecidableEq, Repr

/-- The eight global settings (R191, Table 9-4), in the units of the table. -/
structure Globals where
  idleTimeout : Nat
  drainTimeout : Nat
  jamTimeout : Nat
  authTimeout : Nat
  preAuthAmount : Nat
  walkupSchedule : Fin 4
  pollPeriod : Nat
  answerLimit : Nat
deriving DecidableEq, Repr

/-! ### The whole -/

/-- The state of the part. `pending` is the queue of commands that wait, first in first out;
`resetLow` says that RESETn is held low (R193); `accounts` stands in ascending number (R1); `retryOwed`
lists the billing accounts whose retry of held stations is still to be made after the command that
asked for it was answered (R66, R184); `subMs` is the place of the 0.1 ms steps within the 1 ms time
base (log 4). -/
structure State where
  pending : List Instr
  resetLow : Bool
  link : Link
  globals : Globals
  accounts : List Account
  tokens : List TokenEntry
  tariffs : Vector Tariff 4
  schedules : Vector Schedule 4
  stations : Vector Station 16
  retryOwed : List Nat
  readers : Vector Reader 16
  bus : Bus
  wau : WalkupUnit
  subMs : Nat
deriving DecidableEq, Repr

/-- Why the part stops. It never does: what it cannot carry out it answers by a status code (R187),
counts, or leaves without effect, so there is no reason to name. -/
inductive Fault where
deriving DecidableEq, Repr

/-- Why a command has no meaning in the model. -/
inductive Refusal where
  /-- Raised by `exec` alone, for a command the model gives no meaning; safe, since nothing is claimed
  of such a command. No arm of `exec` raises it today. -/
  | notModelled (mnemonic : String)
deriving DecidableEq, Repr

/-! ### After device reset -/

/-- An undefined tariff table: the flag clear and every field 0 (R31, R36). -/
def Tariff.undefined : Tariff :=
  { isDefined := false, prices := ⟨⟨0, 0⟩, ⟨0, 0⟩, ⟨0, 0⟩, ⟨0, 0⟩⟩, startThreshold := 0, jobMinimum := 0
    holdQuantum := 0, reserve := 0 }

/-- A schedule after device reset: no thresholds, D0 at 0 (R39). -/
def Schedule.empty : Schedule :=
  { t1 := none, t2 := none, t3 := none, d0 := 0, d1 := 0, d2 := 0, d3 := 0 }

/-- The station configuration after device reset (Table 5-2). -/
def StationConfig.afterReset : StationConfig :=
  { permitPolarity := .activeHigh
    polarity := ⟨.activeHigh, .activeHigh, .activeHigh, .activeHigh, .activeHigh, .activeHigh, .activeHigh⟩
    feedEdge := .leading, exitEdge := .leading, filterSteps := 20, divisor := 1, countMode := .tracked
    classSource := .lines, fixedClass := ⟨false, false, false⟩, permitMode := .interlocked, tdSteps := 5
    walkupAllowed := false, style := .tap }

/-- A station after device reset with these levels on its input pins: DISABLED (R79), the session
record of R80, and each filtered line in the state its raw level has, all polarities being ACTIVE_HIGH
(R97). -/
def Station.afterReset (pins : PerInput Bool) : Station :=
  { state := .disabled, config := .afterReset, tariff := 0, sessionToken := none, pins := pins
    filtered := ⟨pins.ready, pins.feed, pins.exit, pins.jam⟩, filterTimers := ⟨none, none, none, none⟩
    feedCounter := 0, exitCounter := 0, permit := false, permitDelay := none, unauthorisedFeeds := 0
    strayExits := 0, job := none, lastJob := none, path := [], disputed := [], drainTimer := none
    jamCause := none, jamTimer := none, alarms := ⟨false, false, false, false, false, false⟩ }

/-- A reader record after device reset (Table 7-1, R161). -/
def Reader.afterReset : Reader :=
  { polled := false, link := .lost, consecutive := 0, hdrCorrected := 0, hdrBad := 0, crcBad := 0
    noAnswer := 0, strictHeader := true, display := none, displayReplaced := false, linkLost := false
    counterSaturated := false }

/-- The global settings after device reset (Table 9-4). -/
def Globals.afterReset : Globals :=
  { idleTimeout := 120, drainTimeout := 8, jamTimeout := 10, authTimeout := 20, preAuthAmount := 2000
    walkupSchedule := 0, pollPeriod := 50, answerLimit := 10 }

/-- All input pins low. DESIGN CHOICE (log 1): the levels are the copiers', and the spec gives none. -/
def PerInput.allLow : PerInput Bool := ⟨false, false, false, false, false, false, false⟩

/-- The part right after device reset has completed (R193, R30, R36, R39, R78, R79, R97, R138, R161,
R162): RDY high, ATTN released, MISO at high impedance, the tables empty, the first poll period due. -/
def State.reset : State :=
  { pending := [], resetLow := false
    link := { judged := none, response := none, collision := false, select := none, rdy := true
              attn := false, misoDriven := false, misoOut := [] }
    globals := .afterReset, accounts := [], tokens := []
    tariffs := Vector.replicate 4 .undefined, schedules := Vector.replicate 4 .empty
    stations := Vector.replicate 16 (.afterReset .allLow), retryOwed := []
    readers := Vector.replicate 16 .afterReset
    bus := { phase := .atRest, clockHeld := false, toServe := [], periodTimer := none, broadcast := none }
    wau := { numberRotor := 60999, referenceRotor := 0, waiting := [] }
    subMs := 0 }

end Sys2Proof.Machine
end

