-- ==== Sys2Proof/Machine/Ops.lean ====
section
/-! DEFINITION. The named operations over the state: stations, readers, the account table and the token
index (Chapter 1), the pending display slots (R96, R155), and timers. -/

namespace Sys2Proof.Machine

/-! ### Vectors of sixteen and of eight -/

/-- One function of the number and the entry over all sixteen places. -/
def mapSixteen {α β : Type} (f : StationId → α → β) (v : Vector α 16) : Vector β 16 :=
  #v[f 0 v[0], f 1 v[1], f 2 v[2], f 3 v[3], f 4 v[4], f 5 v[5], f 6 v[6], f 7 v[7], f 8 v[8], f 9 v[9],
    f 10 v[10], f 11 v[11], f 12 v[12], f 13 v[13], f 14 v[14], f 15 v[15]]

/-- Place by place over the eight class counts. -/
def zipEight (f : Nat → Nat → Nat) (u v : Vector Nat 8) : Vector Nat 8 :=
  #v[f u[0] v[0], f u[1] v[1], f u[2] v[2], f u[3] v[3], f u[4] v[4], f u[5] v[5], f u[6] v[6], f u[7] v[7]]

/-- Eight counts at 0. -/
def zeroCounts : Vector Nat 8 := #v[0, 0, 0, 0, 0, 0, 0, 0]

/-- The place of a sheet class among the eight counts: 4 × LARGE + 2 × COLOUR + DUPLEX (Table 9-2). -/
def SheetClass.index (c : SheetClass) : Fin 8 :=
  match c.large, c.colour, c.duplex with
  | false, false, false => 0
  | false, false, true => 1
  | false, true, false => 2
  | false, true, true => 3
  | true, false, false => 4
  | true, false, true => 5
  | true, true, false => 6
  | true, true, true => 7

/-- Impressions of a sheet of this class: one side or two (Table 2-5). -/
def SheetClass.impressions (c : SheetClass) : Nat := if c.duplex then 2 else 1

/-! ### Stations and readers -/

/-- The station with this number. -/
def State.station (s : State) (i : StationId) : Station := s.stations[i]

/-- `s` with station `i` replaced. -/
def State.setStation (s : State) (i : StationId) (st : Station) : State :=
  { s with stations := s.stations.set i st }

/-- `s` with `f` applied to station `i`. -/
def State.modifyStation (s : State) (i : StationId) (f : Station → Station) : State :=
  s.setStation i (f (s.station i))

/-- `s` with `f` applied to the job record of station `i`, if it is present. -/
def State.modifyJob (s : State) (i : StationId) (f : Job → Job) : State :=
  s.modifyStation i fun st => { st with job := st.job.map f }

/-- `s` with `f` applied to the alarm flags of station `i`. -/
def State.modifyAlarms (s : State) (i : StationId) (f : StationAlarms → StationAlarms) : State :=
  s.modifyStation i fun st => { st with alarms := f st.alarms }

/-- The reader record of this bus address. -/
def State.reader (s : State) (i : StationId) : Reader := s.readers[i]

/-- `s` with `f` applied to reader `i`. -/
def State.modifyReader (s : State) (i : StationId) (f : Reader → Reader) : State :=
  { s with readers := s.readers.set i (f (s.reader i)) }

/-! ### The account table (R1) -/

/-- The record with this number, if it is in the table. -/
def State.account (s : State) (n : Nat) : Option Account := s.accounts.find? fun a => a.number == n

/-- `s` with `f` applied to the record with this number. -/
def State.modifyAccount (s : State) (n : Nat) (f : Account → Account) : State :=
  { s with accounts := s.accounts.map fun a => if a.number = n then f a else a }

/-- A record put in its place of a table in ascending number, one record to a number (R1). -/
def insertAccount (a : Account) : List Account → List Account
  | [] => [a]
  | b :: rest =>
    if a.number < b.number then a :: b :: rest
    else if b.number < a.number then b :: insertAccount a rest
    else a :: rest

/-- `s` with a new record in the table. -/
def State.addAccount (s : State) (a : Account) : State :=
  { s with accounts := insertAccount a s.accounts }

/-- The number of the account a job of this user is billed to: the payer of a MEMBER, otherwise the
account itself (00_scope.md, "billing account"; R51). -/
def Account.billingNumber (a : Account) : Nat := a.payer.getD a.number

/-- Balance + credit limit − held (R8; the credit limit of PREPAID and TRANSIENT stands at 0). -/
def Account.ownAvailable (a : Account) : Int := a.balance + (a.creditLimit : Int) - (a.held : Int)

/-- The available amount of an account (R8): a MEMBER's is its payer's, bounded by what is left of its
period cap when it has one. -/
def State.available (s : State) (a : Account) : Int :=
  match a.payer with
  | none => a.ownAvailable
  | some p =>
    let payers := ((s.account p).map Account.ownAvailable).getD 0
    match a.periodCap with
    | none => payers
    | some cap => min payers ((cap : Int) - (a.periodCharges : Int) - (a.memberHeld : Int))

/-- R3, R4: the account is BLOCKED or CLOSING. -/
def Account.isBarred (a : Account) : Bool := a.state == .blocked || a.state == .closing

/-- One member more for the payer `p` (R7). -/
def State.addMember (s : State) (p : Nat) : State :=
  s.modifyAccount p fun b => { b with memberCount := b.memberCount + 1 }

/-- One member less for the payer `p` (R7). -/
def State.dropMember (s : State) (p : Nat) : State :=
  s.modifyAccount p fun b => { b with memberCount := b.memberCount - 1 }

/-- These tokens out of the index (R26, R76). -/
def State.dropTokens (s : State) (ts : List Token) : State :=
  { s with tokens := s.tokens.filter fun e => !ts.contains e.token }

/-- The record with this number out of the table (R26). -/
def State.dropAccount (s : State) (n : Nat) : State :=
  { s with accounts := s.accounts.filter fun b => b.number != n }

/-- The member count of the payer of `a`, if it has one, lowered (R26 step 2). -/
def State.leavePayer (s : State) (a : Account) : State :=
  match a.payer with
  | none => s
  | some p => s.dropMember p

/-- Removal of a record (R26): its tokens leave the index, a MEMBER's payer counts one member less, and
the record leaves the table. -/
def State.removeAccount (s : State) (n : Nat) : State :=
  match s.account n with
  | none => s
  | some a => ((s.dropTokens a.tokens).leavePayer a).dropAccount n

/-- The TRANSIENT records present, in every state (R165). -/
def State.transientCount (s : State) : Nat := (s.accounts.filter fun a => a.kind == .transient).length

/-! ### The token index (R14) -/

/-- The account a token is bound to. -/
def State.tokenAccount (s : State) (t : Token) : Option Nat :=
  (s.tokens.find? fun e => e.token == t).map TokenEntry.account

/-- `s` with a token entered in the index and appended to the token list of its account (R16). -/
def State.bindToken (s : State) (t : Token) (n : Nat) : State :=
  let s1 : State := { s with tokens := s.tokens ++ [{ token := t, account := n }] }
  s1.modifyAccount n fun a => { a with tokens := a.tokens ++ [t] }

/-- `s` with a token out of the index and out of the token list of account `n` (R17). -/
def State.unbindToken (s : State) (t : Token) (n : Nat) : State :=
  let s1 : State := { s with tokens := s.tokens.filter fun e => e.token != t }
  s1.modifyAccount n fun a => { a with tokens := a.tokens.filter fun u => u != t }

/-- The walk-up unit's own figures replaced (R162, R168). -/
def State.setWalkupUnit (s : State) (w : WalkupUnit) : State := { s with wau := w }

/-! ### Displays (R96, R155) -/

/-- An amount above 999,999,999 is carried as 999,999,999 (R96). -/
def Display.capped (d : Display) : Display :=
  match d with
  | .welcome a => .welcome (min a Config.chargesTop)
  | .charge a => .charge (min a Config.chargesTop)
  | .stoppedNoCredit a => .stoppedNoCredit (min a Config.chargesTop)
  | .goodbye a => .goodbye (min a Config.chargesTop)
  | other => other

/-- A DISPLAY frame to this reader is on the bus. -/
def Bus.displaysTo (b : Bus) (i : StationId) : Bool :=
  match b.phase with
  | .displaying r _ => r == i
  | _ => false

/-- The station produces a display message: it takes the place of the one in the reader's slot, and
the display replaced flag is set while a DISPLAY frame to that reader is on the bus (R155; log 15). -/
def State.placeDisplay (s : State) (i : StationId) (d : Display) : State :=
  s.modifyReader i fun r =>
    { r with display := some d.capped, displayReplaced := r.displayReplaced || s.bus.displaysTo i }

/-! ### Durations -/

/-- A running idle timer's full duration, as now set (R71). -/
def Globals.idleSteps (g : Globals) : Nat := g.idleTimeout * Config.stepsPerSecond
/-- The drain timeout as now set (R122). -/
def Globals.drainSteps (g : Globals) : Nat := g.drainTimeout * Config.stepsPerSecond
/-- The jam timeout as now set (R123). -/
def Globals.jamSteps (g : Globals) : Nat := g.jamTimeout * Config.stepsPerMinute
/-- The authorisation timeout as now set (R167). -/
def Globals.authSteps (g : Globals) : Nat := g.authTimeout * Config.stepsPerSecond
/-- The poll period as now set (R141). -/
def Globals.pollSteps (g : Globals) : Nat := g.pollPeriod * Config.stepsPerMs

/-- The time left as it is reported, in ms: 0 when stopped, at least 1 when running (R197; log 4). -/
def timerLeftMs (t : Timer) : Nat :=
  match t with
  | none => 0
  | some left => max 1 ((left + (Config.stepsPerMs - 1)) / Config.stepsPerMs)

/-- Restart of a job's idle timer, in RUNNING and HELD (R71). -/
def State.restartIdle (s : State) (i : StationId) : State :=
  match (s.station i).state with
  | .running => s.modifyJob i fun j => { j with idleTimer := some s.globals.idleSteps }
  | .held => s.modifyJob i fun j => { j with idleTimer := some s.globals.idleSteps }
  | _ => s

end Sys2Proof.Machine
end

