-- ==== Sys2Proof/Machine/Flags.lean ====
section
/-! DEFINITION. The flags and the output pins: the station alarms and reader alarms with the conditions
that keep them (R138, R139, R159, R160), the causes of ATTN (R189), the permit condition (R112), RDY
(R184, R193), MISO (R181, R193), and `State.drive`, which drives the pins anew at the end of every
event. -/

namespace Sys2Proof.Machine

/-- Some station alarm flag is set (R138). -/
def StationAlarms.any (a : StationAlarms) : Bool :=
  a.jamEntered || a.outOfService || a.unauthorisedFeed || a.strayExit || a.pathOverflow || a.overrun

/-- The flags a READ STATION ALARMS leaves standing: those whose keeping condition holds (Table 6-1,
R139). -/
def StationAlarms.kept (a : StationAlarms) (state : StationState) : StationAlarms :=
  { jamEntered := a.jamEntered && state == .jammed
    outOfService := a.outOfService && state == .outOfService
    unauthorisedFeed := false, strayExit := false, pathOverflow := false, overrun := false }

/-- Some alarm flag of the reader is set (R159). -/
def Reader.anyAlarm (r : Reader) : Bool := r.linkLost || r.counterSaturated

/-- The reader after a READ READER: COUNTER_SATURATED clear, LINK_LOST kept while the reader is LOST
(Table 7-6, R160). -/
def Reader.alarmsRead (r : Reader) : Reader :=
  { r with linkLost := r.linkLost && r.link == .lost, counterSaturated := false }

/-- A SETTLED transient record (R179). -/
def Account.isSettled (a : Account) : Bool := a.kind == .transient && a.state == .settled

/-- One of the four causes of ATTN stands (R189). -/
def State.attnCause (s : State) : Bool :=
  !s.wau.waiting.isEmpty || s.accounts.any Account.isSettled ||
    allStations.any (fun i => (s.station i).alarms.any) || allStations.any (fun i => (s.reader i).anyAlarm)

/-- The permit condition of the station's permit mode (Table 5-5). -/
def Station.permitCondition (st : Station) : Bool :=
  st.state == .running &&
    match st.config.permitMode with
    | .level => true
    | .interlocked => st.filtered.ready && st.permitDelay.isNone
    | .partialMode => st.permitDelay.isNone

/-- The output pins driven anew from the state, in the same event as any change of a term (R112, R184,
R189): MISO is driven while a select period runs and at high impedance while SELn is high (R181). While
RESETn is low RDY is low, ATTN and every PERMIT are released, and MISO is at high impedance (R193). -/
def State.drive (s : State) : State :=
  { s with
    link := { s.link with rdy := !s.resetLow && s.link.judged.isNone
                          attn := !s.resetLow && s.attnCause
                          misoDriven := !s.resetLow && s.link.select.isSome }
    stations := mapSixteen (fun _ st => { st with permit := !s.resetLow && st.permitCondition }) s.stations }

/-- The electrical level of the PERMIT pin, true for high (R98). -/
def Station.permitPinHigh (st : Station) : Bool :=
  match st.config.permitPolarity with
  | .activeHigh => st.permit
  | .activeLow => !st.permit

/-- How every event at the blocks ends: while RESETn is low nothing has happened (R193; log 11),
otherwise the state it led to, with the pins driven. -/
def State.event (s after : State) : Host.Outcome State Fault Refusal :=
  .next (if s.resetLow then s else after.drive)

end Sys2Proof.Machine
end

