-- ==== Sys2Proof/Machine/Pricing.lean ====
section
/-! DEFINITION. The Price Unit (Chapter 2): the reserve of a tariff, the tier of an impression, the
price of a sheet and its ordinals, the withdrawal of a void, and the charge of a job. -/

namespace Sys2Proof.Machine

/-! ### Money and milli-points -/

/-- Milli-points to cents, half a cent rounded up (R49). -/
def toCents (milliPoints : Nat) : Nat := (milliPoints + 50000) / Config.milliPointsPerCent

/-- Milli-points to cents, rounded up (R32, R60, R63). -/
def ceilCents (milliPoints : Nat) : Nat :=
  (milliPoints + (Config.milliPointsPerCent - 1)) / Config.milliPointsPerCent

/-! ### Tariffs -/

/-- Front plus back price of a cell, in points. -/
def cellTotal (p : CellPrice) : Nat := p.front + p.back

/-- The reserve of a set of prices: the largest sum of front and back over the four cells, in
milli-points (R32). -/
def reserveOf (p : Prices) : Nat := 
  max (max (cellTotal p.sm) (cellTotal p.sc)) (max (cellTotal p.lm) (cellTotal p.lc)) * 1000

/-- The prices of the cell a sheet class falls in (Table 0-3, Table 2-5). -/
def cellOf (p : Prices) (c : SheetClass) : CellPrice :=
  match c.large, c.colour with
  | false, false => p.sm
  | false, true => p.sc
  | true, false => p.lm
  | true, true => p.lc

/-! ### Tiers (R44) -/

/-- `n` is not above the threshold, or there is none: the tier below it applies. -/
def staysBelow (t : Option Nat) (n : Nat) : Bool :=
  match t with
  | none => true
  | some t => decide (n ≤ t)

/-- The discount of the tier that ordinal `n` falls in, in per-mille (R44). -/
def discountAt (d : Schedule) (n : Nat) : Nat :=
  if staysBelow d.t1 n then d.d0
  else if staysBelow d.t2 n then d.d1
  else if staysBelow d.t3 n then d.d2
  else d.d3

/-- The side amount of an impression: base price × (1,000 less the discount of its tier), in
milli-points (R45). -/
def sideAmount (d : Schedule) (base n : Nat) : Nat := base * (1000 - discountAt d n)

/-! ### The meter (R42, R47, R48) -/

/-- A meter with its saturated flag. -/
structure MeterFigure where
  value : Nat
  saturated : Bool
deriving DecidableEq, Repr

/-- The meter of an account. -/
def Account.meterFigure (a : Account) : MeterFigure := ⟨a.meter, a.meterSaturated⟩

/-- The meter after one impression has taken its ordinal; the ordinal is the value it then has (R42). -/
def MeterFigure.advance (m : MeterFigure) : MeterFigure :=
  if m.saturated then ⟨Config.meterTop, true⟩
  else ⟨min (m.value + 1) Config.meterTop, decide (Config.meterTop ≤ m.value + 1)⟩

/-- The meter after `n` impressions. -/
def MeterFigure.advanceBy : Nat → MeterFigure → MeterFigure
  | 0, m => m
  | n + 1, m => MeterFigure.advanceBy n m.advance

/-- The meter after a void of `n` impressions (R48). -/
def MeterFigure.withdraw (m : MeterFigure) (n : Nat) : MeterFigure :=
  if m.saturated then m else ⟨m.value - n, false⟩

/-- `a` with this meter. -/
def Account.withMeter (a : Account) (m : MeterFigure) : Account :=
  { a with meter := m.value, meterSaturated := m.saturated }

/-- The ordinal of the back impression: the first ordinal plus one, or 16,777,215 when that is the
first ordinal (R41). -/
def backOrdinal (first : Nat) : Nat := if first = Config.meterTop then Config.meterTop else first + 1

/-! ### The price of a sheet (R41 to R46) -/

/-- The sheet amount in milli-points: the front side at the first ordinal, and on a duplex sheet the
back side at the next (R45). -/
def sheetAmount (snap : Snapshot) (c : SheetClass) (first : Nat) : Nat :=
  let cell := cellOf snap.prices c
  sideAmount snap.schedule cell.front first +
    (if c.duplex then sideAmount snap.schedule cell.back (backOrdinal first) else 0)

/-- The meter of the billing account of a job, as it stands. -/
def State.billingMeter (s : State) (j : Job) : MeterFigure :=
  ((s.account j.billing).map Account.meterFigure).getD ⟨0, false⟩

/-- The sheet a pricing request gives for this class: its sequence number, ordinal, impressions and
amount (R41). -/
def State.pricedSheet (s : State) (j : Job) (c : SheetClass) : Sheet :=
  let first := (s.billingMeter j).advance.value
  { seqNo := j.nextSeq, cls := c, firstOrdinal := first, impressions := c.impressions
    amount := sheetAmount j.snapshot c first }

/-- The next sequence number, wrapping from 65,535 to 1 (R52). -/
def nextSequence (n : Nat) : Nat := if n = 65535 then 1 else n + 1

/-! ### The charge of a job (R50) -/

/-- The charge of a job at settlement and whether the job minimum was applied (R50). -/
def settlementCharge (j : Job) : Nat × Bool :=
  if j.billedImpressions = 0 then (0, false)
  else if toCents j.accrued < j.snapshot.jobMinimum then (j.snapshot.jobMinimum, true)
  else (toCents j.accrued, false)

end Sys2Proof.Machine
end

