-- ==== Sys2Proof/Machine/Jobs.lean ====
section
/-! DEFINITION. The Job Controller (Chapter 3): holds, extension and the cover test, opening, end
requests, pricing and billing of a sheet, voids, settlement and the retry of held stations. -/

namespace Sys2Proof.Machine

/-! ### Holds (R56 to R61) -/

/-- The headroom of a job in milli-points: hold × 100,000 less accrued (R59; log 23 for the case
below 0, which R63 excludes). -/
def Job.headroom (j : Job) : Nat := j.hold * Config.milliPointsPerCent - j.accrued

/-- `cents` more on the hold of the job at station `i`, on the held of its billing account and, for a
MEMBER user, on the member held of the user account (R61, R63). -/
def State.raiseHold (s : State) (i : StationId) (j : Job) (cents : Nat) : State :=
  let s1 := s.modifyJob i fun k => { k with hold := k.hold + cents }
  let s2 := s1.modifyAccount j.billing fun a => { a with held := a.held + cents }
  if j.user = j.billing then s2
  else s2.modifyAccount j.user fun a => { a with memberHeld := a.memberHeld + cents }

/-- What an extension needs, in cents (R60). -/
def Job.needed (j : Job) : Nat := ceilCents (j.snapshot.reserve - j.headroom)

/-- What an extension would grant, in cents (R60): a negative available counts as 0, and nothing is
granted above the job ceiling. -/
def State.grantFor (s : State) (j : Job) : Nat :=
  let available := ((s.account j.user).map s.available).getD 0
  min j.snapshot.holdQuantum (min available.toNat (Config.jobCeiling - j.hold))

/-- The cover test on the job of station `i`, an extension tried when it is short: the state after it,
and whether the job is covered (R59 to R61). -/
def State.coverTest (s : State) (i : StationId) : State × Bool :=
  match (s.station i).job with
  | none => (s, false)
  | some j =>
    if j.snapshot.reserve ≤ j.headroom then (s, true)
    else if j.needed ≤ s.grantFor j then (s.raiseHold i j (s.grantFor j), true)
    else (s, false)

/-! ### Moves between RUNNING and HELD (R62, R64) -/

/-- The running charge shown by CHARGE: accrued converted by R49 (R96). -/
def State.placeCharge (s : State) (i : StationId) : State :=
  s.placeDisplay i (.charge (((s.station i).job.map fun j => toCents j.accrued).getD 0))

/-- STOPPED_NO_CREDIT with the headroom converted by R49 (R62). -/
def State.placeStopped (s : State) (i : StationId) : State :=
  s.placeDisplay i (.stoppedNoCredit (((s.station i).job.map fun j => toCents j.headroom).getD 0))

/-- The station enters this state. -/
def State.enter (s : State) (i : StationId) (state : StationState) : State :=
  s.modifyStation i fun st => { st with state := state }

/-- HELD with STOPPED_NO_CREDIT (R62). -/
def State.enterHeld (s : State) (i : StationId) : State := (s.enter i .held).placeStopped i

/-- RUNNING with CHARGE (R64, R130). -/
def State.enterRunning (s : State) (i : StationId) : State := (s.enter i .running).placeCharge i

/-- The cover test after a sheet priced in RUNNING or HELD, and what the station does with its outcome
(R59, R62, R64; R107 step 5). In every other state there is no test (R70). -/
def State.coverAfterPricing (s : State) (i : StationId) : State :=
  match (s.station i).state with
  | .running => if (s.coverTest i).2 then (s.coverTest i).1 else (s.coverTest i).1.enterHeld i
  | .held =>
    if (s.coverTest i).2 then (s.coverTest i).1.enterRunning i else (s.coverTest i).1.placeStopped i
  | _ => s

/-! ### The retry of held stations (R65) -/

/-- One station's turn in a retry for this billing account. -/
def State.retryAt (account : Nat) (s : State) (i : StationId) : State :=
  if (s.station i).state = .held ∧ (s.station i).job.map Job.billing = some account then
    if (s.coverTest i).2 then (s.coverTest i).1.enterRunning i else (s.coverTest i).1
  else s

/-- A retry of held stations for one billing account, in ascending station number (R65). -/
def State.retry (s : State) (account : Nat) : State := allStations.foldl (State.retryAt account) s

/-! ### Pricing, billing and voiding a sheet -/

/-- The forced extension of an overrun, in cents: amount less headroom, rounded up (R63). -/
def Job.overrunCents (j : Job) (amount : Nat) : Nat := ceilCents (amount - j.headroom)

/-- A hold forced up for a sheet of this amount, when it exceeds the headroom, with the overruns count
and the OVERRUN alarm (R63). -/
def State.forceHold (s : State) (i : StationId) (j : Job) (amount : Nat) : State :=
  if j.headroom < amount then
    let s1 := s.raiseHold i j (j.overrunCents amount)
    let s2 := s1.modifyJob i fun k => { k with overruns := satAdd Config.countTop k.overruns 1 }
    s2.modifyAlarms i fun f => { f with overrun := true }
  else s

/-- A sheet of this class priced for the job of station `i` (R41, R42, R46, R52, R63; R107 step 2): the
hold forced up first if need be, the ordinals taken from the billing meter, the amount accrued. -/
def State.priceSheet (s : State) (i : StationId) (j : Job) (c : SheetClass) : State :=
  let sheet := s.pricedSheet j c
  let s1 := s.forceHold i j sheet.amount
  let s2 := s1.modifyAccount j.billing fun a =>
    a.withMeter (a.meterFigure.advanceBy sheet.impressions)
  s2.modifyJob i fun k =>
    { k with
      accrued := k.accrued + sheet.amount
      nextSeq := nextSequence k.nextSeq
      pricedSheets := satAdd Config.sheetCountTop k.pricedSheets 1 }

/-- A sheet counted as billed in the job, and CHARGE shown (R52, R108, R120, R126). -/
def State.billSheet (s : State) (i : StationId) (sheet : Sheet) : State :=
  let s1 := s.modifyJob i fun k =>
    { k with
      billed := k.billed.set sheet.cls.index
        (satAdd Config.sheetCountTop k.billed[sheet.cls.index] 1)
      billedImpressions := satAdd Config.sheetCountTop k.billedImpressions sheet.impressions }
  s1.placeCharge i

/-- A void (R48, R52): the sheet's amount leaves accrued, its impressions leave the billing meter when
it is not saturated, and the job counts it. -/
def State.voidSheet (i : StationId) (s : State) (sheet : Sheet) : State :=
  match (s.station i).job with
  | none => s
  | some j =>
    let s1 := s.modifyAccount j.billing fun a =>
      a.withMeter (a.meterFigure.withdraw sheet.impressions)
    s1.modifyJob i fun k =>
      { k with
        accrued := k.accrued - sheet.amount
        voidedSheets := satAdd Config.sheetCountTop k.voidedSheets 1
        voidedImpressions := satAdd Config.sheetCountTop k.voidedImpressions sheet.impressions }

/-- Every sheet of the disputed list voided, oldest first (R130, R132, R136). -/
def State.voidDisputed (s : State) (i : StationId) : State :=
  let s1 := (s.station i).disputed.foldl (State.voidSheet i) s
  s1.modifyStation i fun st => { st with disputed := [] }

/-- Every sheet of the path queue voided, oldest first (R136). -/
def State.voidPath (s : State) (i : StationId) : State :=
  let s1 := (s.station i).path.foldl (State.voidSheet i) s
  s1.modifyStation i fun st => { st with path := [] }

/-! ### Settlement (R73 to R77) -/

/-- The last-job record of a settled job (R53, R76). -/
def Job.lastRecord (j : Job) (balanceAfter : Int) : LastJob :=
  { user := j.user, billing := j.billing, kind := j.kind, openedBy := j.openedBy, authRef := j.authRef
    endCause := j.endRequest, billed := j.billed, billedImpressions := j.billedImpressions
    voidedSheets := j.voidedSheets, voidedImpressions := j.voidedImpressions, jams := j.jams
    overruns := j.overruns, unpricedFeeds := j.unpricedFeeds, strayExits := j.strayExits
    hold := j.hold, charge := (settlementCharge j).1, minimumApplied := (settlementCharge j).2
    balanceAfter := balanceAfter }

/-- The balance after a settlement charge, saturating at −999,999,999 (R5, R74). -/
def chargedBalance (balance : Int) (charge : Nat) : Int := max Config.balanceFloor (balance - (charge : Int))

/-- The money of a settlement: charge taken, hold released (R74). -/
def State.settleMoney (s : State) (j : Job) : State :=
  let s1 := s.modifyAccount j.billing fun a =>
    { a with balance := chargedBalance a.balance (settlementCharge j).1, held := a.held - j.hold }
  if j.user = j.billing then s1
  else s1.modifyAccount j.user fun a => { a with memberHeld := a.memberHeld - j.hold }

/-- Period figures and job count of one account of a settled job (R75, R11). -/
def Account.settleFigures (j : Job) (a : Account) : Account :=
  { a with
    periodCharges := satAdd Config.chargesTop a.periodCharges (settlementCharge j).1
    classCounts := zipEight (satAdd Config.meterTop) a.classCounts j.billed
    openJobs := a.openJobs - 1 }

/-- The period figures and job counts of a settlement, on the user account and, when it is another, on
the billing account (R75). -/
def State.settlePeriod (s : State) (j : Job) : State :=
  let s1 := s.modifyAccount j.user (Account.settleFigures j)
  if j.user = j.billing then s1 else s1.modifyAccount j.billing (Account.settleFigures j)

/-- A transient user account becomes SETTLED: final charge written, token unbound (R76, R178). -/
def State.settleTransient (s : State) (n : Nat) (a : Account) (charge : Nat) : State :=
  (s.dropTokens a.tokens).modifyAccount n fun b =>
    { b with
      state := .settled, tokens := []
      walkup := b.walkup.map fun w => { w with finalCharge := some charge } }

/-- What settlement does to the record of an account of the job: a CLOSING registered account without
open jobs is removed (R26, R76), a TRANSIENT becomes SETTLED (R76). -/
def State.closeAccount (s : State) (charge n : Nat) : State :=
  match s.account n with
  | none => s
  | some a =>
    if a.kind = .transient then s.settleTransient n a charge
    else if a.state = .closing ∧ a.openJobs = 0 then s.removeAccount n
    else s

/-- The retry that ends a settlement, when the billing account still exists (R76, R77). -/
def State.retryIfPresent (s : State) (account : Nat) : State :=
  if (s.account account).isSome then s.retry account else s

/-- A settlement up to its retry (R74 to R77): money, period figures, last-job record, the accounts
closed, GOODBYE, the station to `dest`. The lists of the station hold no sheet. -/
def State.settleJob (s : State) (i : StationId) (dest : StationState) (j : Job) : State :=
  let charge := (settlementCharge j).1
  let s1 := (s.settleMoney j).settlePeriod j
  let balanceAfter := ((s1.account j.billing).map Account.balance).getD 0
  let s2 := s1.modifyStation i fun st =>
    { st with job := none, lastJob := some (j.lastRecord balanceAfter) }
  let s3 := s2.closeAccount charge j.user
  let s4 := if j.user = j.billing then s3 else s3.closeAccount charge j.billing
  let s5 := s4.placeDisplay i (.goodbye charge)
  s5.modifyStation i fun st => { st with state := dest, sessionToken := none }

/-- The settlement of the job of station `i`, whole, the retry of R77 its end (R73). -/
def State.settle (s : State) (i : StationId) (dest : StationState) : State :=
  match (s.station i).job with
  | none => s
  | some j => (s.settleJob i dest j).retryIfPresent j.billing

/-! ### End requests (R68 to R70) -/

/-- The cause is recorded unless the job holds one already (R68). -/
def State.recordEnd (s : State) (i : StationId) (cause : EndCause) : State :=
  s.modifyJob i fun j => { j with endRequest := some (j.endRequest.getD cause) }

/-- Entry to CLOSING: idle timer stopped; an empty path settles the job at once, a path that holds
sheets starts the drain timer (R70, R122). -/
def State.enterClosing (s : State) (i : StationId) : State :=
  let s1 := (s.enter i .closing).modifyJob i fun j => { j with idleTimer := none }
  if (s1.station i).path.isEmpty then s1.settle i .idle
  else s1.modifyStation i fun st => { st with drainTimer := some s.globals.drainSteps }

/-- An end request at a station with an open job (R68, R69). -/
def State.requestEnd (s : State) (i : StationId) (cause : EndCause) : State :=
  let s1 := s.recordEnd i cause
  match (s.station i).state with
  | .running => s1.enterClosing i
  | .held => s1.enterClosing i
  | _ => s1

/-! ### Opening (R54 to R57) -/

/-- The account a job of this user would be billed to. -/
def State.billingAccount (s : State) (u : Account) : Option Account := s.account u.billingNumber

/-- The record is in the approval path: PENDING with its request TAKEN (check 3 of Table 3-2). -/
def Account.inApproval (u : Account) : Bool :=
  u.kind == .transient && u.state == .pending &&
    (u.walkup.map Walkup.requestState == some (some RequestState.taken))

/-- The tariff table assigned to a station. -/
def State.tariffOf (s : State) (i : StationId) : Tariff := s.tariffs[(s.station i).tariff]

/-- The opening checks of Table 3-2: the number of the first that fails, or none. `walkup` says that
the WAU asks, applying an APPROVED result. -/
def State.openingCheck (s : State) (i : StationId) (u : Account) (walkup : Bool) : Option Nat :=
  if (s.station i).state ≠ (if walkup then StationState.opening else .idle) then some 1
  else if !(s.tariffOf i).isDefined then some 2
  else if !(u.state == .active || (walkup && u.inApproval)) then some 3
  else if (s.billingAccount u).any Account.isBarred then some 4
  else if s.available u < ((s.tariffOf i).startThreshold : Int) then some 5
  else none

/-- The hold placed at opening (R55): the whole granted balance of a TRANSIENT user, otherwise the
smallest of hold quantum, available amount and job ceiling. -/
def State.openingHold (s : State) (i : StationId) (u : Account) : Nat :=
  if u.kind = .transient then u.balance.toNat
  else min (s.tariffOf i).holdQuantum (min (s.available u).toNat Config.jobCeiling)

/-- The number of the schedule a job copies: its billing account's, or for a TRANSIENT user the walk-up
schedule (R9, R40). -/
def State.openingSchedule (s : State) (u : Account) : Fin 4 :=
  if u.kind = .transient then s.globals.walkupSchedule
  else ((s.billingAccount u).map Account.schedule).getD 0

/-- The price snapshot of a job opened now (R40, Table 2-4). -/
def State.openingSnapshot (s : State) (i : StationId) (u : Account) : Snapshot :=
  { letter := (s.station i).tariff, scheduleNumber := s.openingSchedule u
    prices := (s.tariffOf i).prices, reserve := (s.tariffOf i).reserve
    holdQuantum := (s.tariffOf i).holdQuantum, jobMinimum := (s.tariffOf i).jobMinimum
    schedule := s.schedules[s.openingSchedule u] }

/-- The new job record (Table 3-1, R57). -/
def State.newJob (s : State) (i : StationId) (u : Account) (by_ : OpenedBy) : Job :=
  { user := u.number, billing := u.billingNumber
    kind := if u.kind = .transient then .card else .account
    openedBy := by_, authRef := u.walkup.map Walkup.authRef
    snapshot := s.openingSnapshot i u, hold := s.openingHold i u, accrued := 0, nextSeq := 1
    pricedSheets := 0, billed := zeroCounts, billedImpressions := 0, voidedSheets := 0
    voidedImpressions := 0, jams := 0, overruns := 0, unpricedFeeds := 0, strayExits := 0
    endRequest := none, idleTimer := some s.globals.idleSteps }

/-- The hold of a new job on its accounts, with one open job more on each (R57 steps 2 and 3). -/
def State.placeHold (s : State) (j : Job) : State :=
  let s1 := s.modifyAccount j.billing fun a =>
    { a with held := a.held + j.hold, openJobs := a.openJobs + 1 }
  if j.user = j.billing then s1
  else s1.modifyAccount j.user fun a =>
    { a with memberHeld := a.memberHeld + j.hold, openJobs := a.openJobs + 1 }

/-- The opening of a job, once every check has passed (R57). -/
def State.openAt (s : State) (i : StationId) (u : Account) (by_ : OpenedBy) : State :=
  let j := s.newJob i u by_
  let s1 := s.modifyStation i fun st => { st with job := some j, state := .running }
  (s1.placeHold j).placeDisplay i (.welcome (s.available u).toNat)

end Sys2Proof.Machine
end

