-- ==== Sys2Proof/Machine/Paths.lean ====
section
/-! DEFINITION. The sheet path and jam recovery (Chapter 6), and the counting of sheets on the station
lines (Chapter 5, sections 5.1, 5.3 and 5.4): completed feeds and exits by station state, jam entry,
jam clear, jam timeout and station reset. -/

namespace Sys2Proof.Machine

/-! ### Jams -/

/-- A jam entry, from RUNNING, HELD or CLOSING (R125). -/
def State.jamEntry (s : State) (i : StationId) (cause : JamCause) : State :=
  let s1 := s.modifyStation i fun st =>
    { st with
      state := .jammed, jamCause := some cause, drainTimer := none
      disputed := st.disputed ++ st.path, path := []
      alarms := { st.alarms with jamEntered := true }
      jamTimer := some s.globals.jamSteps }
  let s2 := s1.modifyJob i fun j =>
    { j with idleTimer := none, jams := satAdd Config.countTop j.jams 1 }
  s2.placeDisplay i (.jam (s2.station i).disputed.length)

/-- After the voids of a jam clear, a job with no end request: the cover test sends the station to
RUNNING or HELD, and the idle timer starts anew (R130 step 5). -/
def State.resumeAfterJam (s : State) (i : StationId) : State :=
  let s1 := if (s.coverTest i).2 then (s.coverTest i).1.enterRunning i else (s.coverTest i).1.enterHeld i
  s1.restartIdle i

/-- A jam clear (R130). -/
def State.jamClear (s : State) (i : StationId) : State :=
  let n := (s.station i).disputed.length
  let s1 := (s.voidDisputed i).modifyStation i fun st => { st with jamTimer := none, jamCause := none }
  let s2 := s1.placeDisplay i (.jamCleared n)
  if ((s2.station i).job.map Job.endRequest).getD none = none then s2.resumeAfterJam i
  else s2.enterClosing i

/-- The jam timeout (R132). -/
def State.jamTimedOut (s : State) (i : StationId) : State :=
  let s1 := (s.voidDisputed i).modifyStation i fun st => { st with jamTimer := none, jamCause := none }
  let s2 := (s1.recordEnd i .jamTimeout).settle i .outOfService
  let s3 := s2.modifyAlarms i fun f => { f with outOfService := true }
  s3.placeDisplay i .outOfService

/-- RESET STATION at a station with an open job (R136). -/
def State.resetJob (s : State) (i : StationId) : State :=
  let s1 := s.modifyStation i fun st => { st with drainTimer := none, jamTimer := none, jamCause := none }
  (((s1.voidDisputed i).voidPath i).recordEnd i .stationReset).settle i .idle

/-! ### The class of a sheet (R105) -/

/-- The raw level of an input: active or not, the pin read through its polarity (R97, R98). -/
def rawLevel (polarity : Polarity) (high : Bool) : Bool :=
  match polarity with
  | .activeHigh => high
  | .activeLow => !high

/-- The class of the sheet in hand, from the station's class source (R105). -/
def Station.sheetClass (st : Station) : SheetClass :=
  match st.config.classSource with
  | .fixed => st.config.fixedClass
  | .lines =>
    { large := rawLevel st.config.polarity.classL st.pins.classL
      colour := rawLevel st.config.polarity.classC st.pins.classC
      duplex := rawLevel st.config.polarity.classD st.pins.classD }

/-! ### Completed feeds (R106, R107) -/

/-- A completed feed under INTERLOCKED or PARTIAL starts or restarts the permit delay (R114). With Td 0
it expires at the next step of the 1 ms time base. -/
def State.startPermitDelay (s : State) (i : StationId) : State :=
  match (s.station i).config.permitMode with
  | .level => s
  | _ =>
    s.modifyStation i fun st =>
      { st with
        permitDelay := some
          (if st.config.tdSteps = 0 then Config.stepsPerMs - s.subMs
           else st.config.tdSteps * 10 * Config.stepsPerMs) }

/-- An unauthorised feed (R110). -/
def State.unauthorisedFeed (s : State) (i : StationId) : State :=
  s.modifyStation i fun st =>
    { st with
      unauthorisedFeeds := satAdd Config.countTop st.unauthorisedFeeds 1
      alarms := { st.alarms with unauthorisedFeed := true } }

/-- An unpriced feed, counted in the job (R127, R121). -/
def State.unpricedFeed (s : State) (i : StationId) : State :=
  s.modifyJob i fun j => { j with unpricedFeeds := satAdd Config.countTop j.unpricedFeeds 1 }

/-- A path overflow (R121). -/
def State.pathOverflow (s : State) (i : StationId) : State :=
  let s1 := (s.unpricedFeed i).modifyAlarms i fun f => { f with pathOverflow := true }
  s1.jamEntry i .pathOverflow

/-- A priced sheet put at the tail of the path queue in TRACKED mode, and billed at once in the other
modes (R107 step 3, R108). -/
def State.queueOrBill (s : State) (i : StationId) (sheet : Sheet) : State :=
  match (s.station i).config.countMode with
  | .tracked => s.modifyStation i fun st => { st with path := st.path ++ [sheet] }
  | _ => s.billSheet i sheet

/-- A pricing request, in RUNNING, HELD or CLOSING (R107). -/
def State.pricingRequest (s : State) (i : StationId) : State :=
  match (s.station i).job with
  | none => s
  | some j =>
    let c := (s.station i).sheetClass
    let sheet := s.pricedSheet j c
    let s1 := (s.priceSheet i j c).queueOrBill i sheet
    (s1.restartIdle i).coverAfterPricing i

/-- In TRACKED mode the lists of the station already hold 8 sheets (R106, R121). -/
def Station.pathIsFull (st : Station) : Bool :=
  st.config.countMode == .tracked && decide (Config.maxSheetsInPath ≤ st.path.length + st.disputed.length)

/-- A completed feed in a state with an open job that is not JAMMED (Table 5-4). -/
def State.feedWithJob (s : State) (i : StationId) : State :=
  if (s.station i).pathIsFull then s.pathOverflow i else s.pricingRequest i

/-- A completed feed, by station state (R106, Table 5-4). -/
def State.completedFeed (s : State) (i : StationId) : State :=
  let s1 := s.startPermitDelay i
  match (s.station i).state with
  | .disabled => s1.unauthorisedFeed i
  | .idle => s1.unauthorisedFeed i
  | .opening => s1.unauthorisedFeed i
  | .outOfService => s1.unauthorisedFeed i
  | .running => s1.feedWithJob i
  | .held => s1.feedWithJob i
  | .closing => s1.feedWithJob i
  | .jammed => s1.unpricedFeed i

/-! ### Completed exits (R109, R111, R120, R126) -/

/-- A stray exit counted in the job (R111). -/
def State.strayExitOfJob (s : State) (i : StationId) : State :=
  let s1 := s.modifyJob i fun j => { j with strayExits := satAdd Config.countTop j.strayExits 1 }
  s1.modifyAlarms i fun f => { f with strayExit := true }

/-- A stray exit counted at the station (R111). -/
def State.strayExitOfStation (s : State) (i : StationId) : State :=
  s.modifyStation i fun st =>
    { st with
      strayExits := satAdd Config.countTop st.strayExits 1
      alarms := { st.alarms with strayExit := true } }

/-- The head of the path queue billed, or a stray exit of the job when the queue is empty (R109, R120). -/
def State.exitFromPath (s : State) (i : StationId) : State :=
  match (s.station i).path with
  | [] => s.strayExitOfJob i
  | sheet :: rest => (s.modifyStation i fun st => { st with path := rest }).billSheet i sheet

/-- An exit in CLOSING: the one that empties the path stops the drain timer and settles the job (R120,
R122). -/
def State.exitInClosing (s : State) (i : StationId) : State :=
  let s1 := s.exitFromPath i
  if (s.station i).path.length = 1 then
    (s1.modifyStation i fun st => { st with drainTimer := none }).settle i .idle
  else s1

/-- An exit during a jam: the head of the disputed list billed, or a stray exit of the job (R126). -/
def State.exitFromDisputed (s : State) (i : StationId) : State :=
  match (s.station i).disputed with
  | [] => s.strayExitOfJob i
  | sheet :: rest => (s.modifyStation i fun st => { st with disputed := rest }).billSheet i sheet

/-- A completed exit, by station state (R109). -/
def State.completedExit (s : State) (i : StationId) : State :=
  match (s.station i).state with
  | .running => (s.exitFromPath i).restartIdle i
  | .held => (s.exitFromPath i).restartIdle i
  | .closing => s.exitInClosing i
  | .jammed => s.exitFromDisputed i
  | .disabled => s.strayExitOfStation i
  | .idle => s.strayExitOfStation i
  | .opening => s.strayExitOfStation i
  | .outOfService => s.strayExitOfStation i

/-! ### Pulses (R99 to R101, R104) -/

/-- One accepted pulse on a divisor counter: the counter after it, and whether it completed a sheet
(R101). -/
def countPulse (counter divisor : Nat) : Nat × Bool :=
  if divisor ≤ counter + 1 then (0, true) else (counter + 1, false)

/-- An accepted pulse on FEED, which is the pricing line in TRACKED and FEED_ONLY modes and is not
counted in EXIT_ONLY mode (R101, R104). -/
def State.feedPulse (s : State) (i : StationId) : State :=
  let st := s.station i
  let p := countPulse st.feedCounter st.config.divisor
  match st.config.countMode with
  | .exitOnly => s
  | _ =>
    let s1 := s.modifyStation i fun st => { st with feedCounter := p.1 }
    if p.2 then s1.completedFeed i else s1

/-- An accepted pulse on EXIT: the delivery line in TRACKED mode, the pricing line in EXIT_ONLY mode,
not counted in FEED_ONLY mode (R101, R104). -/
def State.exitPulse (s : State) (i : StationId) : State :=
  let st := s.station i
  let p := countPulse st.exitCounter st.config.divisor
  let s1 := s.modifyStation i fun st => { st with exitCounter := p.1 }
  match st.config.countMode with
  | .feedOnly => s
  | .tracked => if p.2 then s1.completedExit i else s1
  | .exitOnly => if p.2 then s1.completedFeed i else s1

/-- The edge that is counted: activation for LEADING, release for TRAILING (R100). -/
def CountingEdge.counts (e : CountingEdge) (activation : Bool) : Bool :=
  match e with
  | .leading => activation
  | .trailing => !activation

/-- An activation of the JAM line (R124). -/
def State.jamActivation (s : State) (i : StationId) : State :=
  match (s.station i).state with
  | .running => s.jamEntry i .jamLine
  | .held => s.jamEntry i .jamLine
  | .closing => s.jamEntry i .jamLine
  | _ => s

/-- A release of the JAM line: it clears a jam whose cause is JAM_LINE (R128). -/
def State.jamRelease (s : State) (i : StationId) : State :=
  if (s.station i).state = .jammed ∧ (s.station i).jamCause = some .jamLine then s.jamClear i else s

/-- What the activation (`active`) or release of a filtered line does beyond its filtered state (R99,
R100, R113, R124, R128). READY acts through the permit condition alone. -/
def State.lineEdge (s : State) (i : StationId) (line : FilteredLine) (active : Bool) : State :=
  match line with
  | .ready => s
  | .feed => if (s.station i).config.feedEdge.counts active then s.feedPulse i else s
  | .exit => if (s.station i).config.exitEdge.counts active then s.exitPulse i else s
  | .jam => if active then s.jamActivation i else s.jamRelease i

/-! ### Lines by name -/

/-- The value of one input line. -/
def PerInput.get {α : Type} (p : PerInput α) (l : InputLine) : α :=
  match l with
  | .ready => p.ready | .feed => p.feed | .exit => p.exit | .jam => p.jam
  | .classL => p.classL | .classC => p.classC | .classD => p.classD

/-- `p` with the value of one input line replaced. -/
def PerInput.put {α : Type} (p : PerInput α) (l : InputLine) (x : α) : PerInput α :=
  match l with
  | .ready => { p with ready := x } | .feed => { p with feed := x } | .exit => { p with exit := x }
  | .jam => { p with jam := x } | .classL => { p with classL := x } | .classC => { p with classC := x }
  | .classD => { p with classD := x }

/-- The value of one filtered line. -/
def PerFiltered.get {α : Type} (p : PerFiltered α) (l : FilteredLine) : α :=
  match l with
  | .ready => p.ready | .feed => p.feed | .exit => p.exit | .jam => p.jam

/-- `p` with the value of one filtered line replaced. -/
def PerFiltered.put {α : Type} (p : PerFiltered α) (l : FilteredLine) (x : α) : PerFiltered α :=
  match l with
  | .ready => { p with ready := x } | .feed => { p with feed := x } | .exit => { p with exit := x }
  | .jam => { p with jam := x }

/-- The input line that a filtered line is. -/
def filteredInput (l : FilteredLine) : InputLine :=
  match l with
  | .ready => .ready | .feed => .feed | .exit => .exit | .jam => .jam

/-- The filtered line that an input line is; the class lines are not filtered (Table 5-1). -/
def inputFiltered (l : InputLine) : Option FilteredLine :=
  match l with
  | .ready => some .ready | .feed => some .feed | .exit => some .exit | .jam => some .jam
  | .classL => none | .classC => none | .classD => none

/-- The raw level of an input line of a station (R97). -/
def Station.raw (st : Station) (l : InputLine) : Bool :=
  rawLevel (st.config.polarity.get l) (st.pins.get l)

/-- The pin of an input line takes a new electrical level: on a filtered line the filter timer starts
when the raw level now differs from the filtered state, and stops when it equals it (R99). -/
def Station.levelChange (st : Station) (l : InputLine) (high : Bool) : Station :=
  let st1 := { st with pins := st.pins.put l high }
  match inputFiltered l with
  | none => st1
  | some f =>
    { st1 with
      filterTimers := st1.filterTimers.put f
        (if st1.raw l = st1.filtered.get f then none else some st1.config.filterSteps) }

/-- The filtered states that the raw levels now have (R97, R103). -/
def Station.filteredAsRaw (st : Station) : PerFiltered Bool :=
  ⟨st.raw .ready, st.raw .feed, st.raw .exit, st.raw .jam⟩

end Sys2Proof.Machine
end

