-- ==== Sys2Proof/Machine/Walkup.lean ====
section
/-! DEFINITION. The Walk-up Authorisation Unit (Chapter 8): the rotors, the creation of a transient
record, its removal, and the application of a result. -/

namespace Sys2Proof.Machine

/-! ### Rotors (R163, R164) -/

/-- The number after `n` on the transient number rotor (R163). -/
def nextTransientNumber (n : Nat) : Nat :=
  if n < Config.firstTransient ∨ Config.lastTransient ≤ n then Config.firstTransient else n + 1

/-- The first of `fuel` numbers from `n` on that `taken` does not hold, or the last one tried. -/
def firstFree (next : Nat → Nat) (taken : Nat → Bool) : Nat → Nat → Nat
  | 0, n => n
  | fuel + 1, n => if taken n then firstFree next taken fuel (next n) else n

/-- The next free transient number above the rotor (R163). -/
def State.freshNumber (s : State) : Nat :=
  firstFree nextTransientNumber (fun n => (s.account n).isSome) 1000 (nextTransientNumber s.wau.numberRotor)

/-- The reference after `n` on the reference rotor (R164). -/
def nextReference (n : Nat) : Nat := if Config.lastReference ≤ n then 1 else n + 1

/-- A PENDING record. -/
def Account.isPending (a : Account) : Bool := a.kind == .transient && a.state == .pending

/-- A PENDING record has this reference. -/
def Account.pendsWith (a : Account) (reference : Nat) : Bool :=
  a.isPending && (a.walkup.map Walkup.authRef == some reference)

/-- The next reference above the rotor that no PENDING record has (R164). -/
def State.freshReference (s : State) : Nat :=
  firstFree nextReference (fun r => s.accounts.any fun a => a.pendsWith r) s.accounts.length
    (nextReference s.wau.referenceRotor)

/-! ### The request (R165, R166) -/

/-- The WAU's checks on a walk-up request (R165). -/
def State.walkupAllowed (s : State) (i : StationId) : Bool :=
  (s.tariffOf i).isDefined && decide (s.transientCount < Config.maxTransients) &&
    decide (s.accounts.length < Config.maxAccounts) && decide (s.tokens.length < Config.maxTokens)

/-- The record a walk-up request creates (R166 steps 1 and 4). -/
def State.newTransient (s : State) (i : StationId) : Account :=
  { number := s.freshNumber, kind := .transient, state := .pending, balance := 0, creditLimit := 0
    held := 0, payer := none, memberHeld := 0, periodCap := none, memberCount := 0, schedule := 0
    meter := 0, meterSaturated := false, periodCharges := 0, classCounts := zeroCounts, tokens := []
    openJobs := 0
    walkup := some
      { authRef := s.freshReference, requested := s.globals.preAuthAmount, granted := none
        requestState := some .waiting, finalCharge := none, authTimer := some s.globals.authSteps
        station := i } }

/-- The creation of a transient record and the start of its walk-up (R166). -/
def State.startWalkup (s : State) (i : StationId) (t : Token) : State :=
  let a := s.newTransient i
  let s1 := (s.addAccount a).bindToken t a.number
  let s2 := s1.setWalkupUnit
    { numberRotor := a.number, referenceRotor := s.freshReference, waiting := s.wau.waiting ++ [a.number] }
  let s3 := s2.modifyStation i fun st => { st with state := .opening, sessionToken := some t }
  s3.placeDisplay i .authorising

/-- A walk-up request of an IDLE station for this token (R84, R165, R166). -/
def State.requestWalkup (s : State) (i : StationId) (t : Token) : State :=
  if s.walkupAllowed i then s.startWalkup i t else s.placeDisplay i .walkupUnavailable

/-! ### Endings without a job (R173) -/

/-- The removal of a PENDING record, its station returned to IDLE with the display of the ending
(R173, Table 8-1). -/
def State.endWalkup (s : State) (a : Account) (i : StationId) (d : Display) : State :=
  let s1 := s.setWalkupUnit { s.wau with waiting := s.wau.waiting.filter fun n => n != a.number }
  let s2 := s1.removeAccount a.number
  let s3 := s2.modifyStation i fun st => { st with state := .idle, sessionToken := none }
  s3.placeDisplay i d

/-- The PENDING record of the walk-up of station `i`. -/
def State.walkupOf (s : State) (i : StationId) : Option Account :=
  s.accounts.find? fun a => a.isPending && (a.walkup.map Walkup.station == some i)

/-- A cancel at an OPENING station (R175). -/
def State.cancelWalkup (s : State) (i : StationId) : State :=
  match s.walkupOf i with
  | none => s
  | some a => s.endWalkup a i (.goodbye 0)

/-! ### An approved result (R172) -/

/-- The record with the grant as its granted field and its balance (R172 step 2). -/
def Account.withGrant (a : Account) (grant : Nat) : Account :=
  { a with balance := (grant : Int), walkup := a.walkup.map fun w => { w with granted := some grant } }

/-- The record once its job is open (R172 step 6): OPEN, no request state, its timer stopped. -/
def Account.asOpened (a : Account) : Account :=
  { a with
    state := .opened
    walkup := a.walkup.map fun w => { w with requestState := none, authTimer := none } }

/-- The end of an approval that opened a job: the record OPEN and the job of R57 at its station. -/
def State.openWalkup (s : State) (i : StationId) (a : Account) : State :=
  (s.openAt i a .reader).modifyAccount a.number Account.asOpened

end Sys2Proof.Machine
end

