-- ==== Sys2Proof/Machine/Sessions.lean ====
section
/-! DEFINITION. Reader events at the station (Chapter 4, sections 4.2 and 4.3): a card at an idle
station, a card during a session, card removal, and keys. -/

namespace Sys2Proof.Machine

/-- The kind of a card (R81). -/
inductive CardKind where
  | shop | bank
deriving DecidableEq, Repr

/-- The keys of a reader (R87). -/
inductive Key where
  | endKey | cancel
deriving DecidableEq, Repr

/-- A reader event (section 4.3). -/
inductive ReaderEvent where
  | card (token : Token) (kind : CardKind) (style : SessionStyle)
  | cardOut
  | key (k : Key)
deriving DecidableEq, Repr

/-! ### A card at an idle station (R82 to R84) -/

/-- The display of a CARD refused by an opening check (Table 3-2, R83). -/
def refusalDisplay (check : Nat) : Display :=
  match check with
  | 1 => .stationBusy
  | 2 => .outOfService
  | 3 => .accountBlocked
  | 4 => .accountBlocked
  | _ => .declined

/-- A card of a registered account at an IDLE station (R83). -/
def State.cardOpens (s : State) (i : StationId) (t : Token) (u : Account) : State :=
  match s.openingCheck i u false with
  | some check => s.placeDisplay i (refusalDisplay check)
  | none => (s.openAt i u .reader).modifyStation i fun st => { st with sessionToken := some t }

/-- A card whose token is not in the index, at an IDLE station (R82). -/
def State.unknownCard (s : State) (i : StationId) (t : Token) (kind : CardKind) : State :=
  match kind, (s.station i).config.walkupAllowed with
  | .bank, true => s.requestWalkup i t
  | _, _ => s.placeDisplay i .unknownCard

/-- A card whose token is bound to account `u`, at an IDLE station (R82). -/
def State.knownCard (s : State) (i : StationId) (t : Token) (u : Account) : State :=
  if u.kind = .transient then s.placeDisplay i .cardInUse else s.cardOpens i t u

/-- A CARD event of matching style at an IDLE station (R82; log 23 for a token bound to no record). -/
def State.cardAtIdle (s : State) (i : StationId) (t : Token) (kind : CardKind) : State :=
  match s.tokenAccount t with
  | none => s.unknownCard i t kind
  | some n =>
    match s.account n with
    | none => s.placeDisplay i .unknownCard
    | some u => s.knownCard i t u

/-! ### A card during a session (R85) -/

/-- The session's own card in RUNNING or HELD (R85). -/
def State.ownCardRunning (s : State) (i : StationId) (t : Token) : State :=
  match (s.station i).config.style with
  | .inserted => s
  | .tap =>
    if (s.tokenAccount t).isSome then s.requestEnd i .cardTap else s.placeDisplay i .stationBusy

/-- The session's own card, by station state (R85). -/
def State.ownCard (s : State) (i : StationId) (t : Token) : State :=
  match (s.station i).state with
  | .opening => s.placeDisplay i .authorising
  | .running => s.ownCardRunning i t
  | .held => s.ownCardRunning i t
  | .jammed => s.placeDisplay i (.jam (s.station i).disputed.length)
  | _ => s

/-- A CARD event of matching style at a station with a session (R85). -/
def State.cardInSession (s : State) (i : StationId) (t : Token) : State :=
  if (s.station i).sessionToken = some t then s.ownCard i t else s.placeDisplay i .stationBusy

/-- A CARD event taken by the station (R81, R82, R85, R134). -/
def State.cardEvent (s : State) (i : StationId) (t : Token) (kind : CardKind) (style : SessionStyle) :
    State :=
  let st := s.station i
  if st.state = .outOfService then s.placeDisplay i .outOfService
  else if style ≠ st.config.style then s.placeDisplay i .unknownCard
  else if st.state = .idle then s.cardAtIdle i t kind
  else s.cardInSession i t

/-! ### Card removal (R86) and keys (R87) -/

/-- The card of the session is withdrawn: an end request CARD_REMOVED when there is a session token. -/
def State.sessionCardOut (s : State) (i : StationId) : State :=
  if (s.station i).sessionToken.isSome then s.requestEnd i .cardRemoved else s

/-- A CARD_OUT event taken by the station (R86). -/
def State.cardOutEvent (s : State) (i : StationId) : State :=
  match (s.station i).config.style with
  | .tap => s
  | .inserted =>
    match (s.station i).state with
    | .opening => s.cancelWalkup i
    | .running => s.sessionCardOut i
    | .held => s.sessionCardOut i
    | .jammed => s.sessionCardOut i
    | _ => s

/-- A KEY event taken by the station (R87). -/
def State.keyEvent (s : State) (i : StationId) (k : Key) : State :=
  match (s.station i).state, k with
  | .opening, _ => s.cancelWalkup i
  | .running, .endKey => s.requestEnd i .endKey
  | .held, .endKey => s.requestEnd i .endKey
  | .jammed, .endKey => s.requestEnd i .endKey
  | _, _ => s

/-- A reader event handed to the station: discarded in DISABLED, otherwise taken, with the idle timer
restarted in RUNNING and HELD (R81). -/
def State.readerEvent (s : State) (i : StationId) (e : ReaderEvent) : State :=
  if (s.station i).state = .disabled then s
  else
    let s1 := s.restartIdle i
    match e with
    | .card t kind style => s1.cardEvent i t kind style
    | .cardOut => s1.cardOutEvent i
    | .key k => s1.keyEvent i k

end Sys2Proof.Machine
end

