-- ==== Sys2Proof/Machine/ReaderFrames.lean ====
section
/-! DEFINITION. Frames of the reader bus (R143, R145 to R147, R194, R195): the header check, the judging
of an answer, and the frames the part sends. -/

namespace Sys2Proof.Machine

/-! ### The header check byte (R195) -/

/-- The code positions that the sixteen header bits take, from bit 7 of byte 0 on (R195). -/
def codePositions : List Nat := [3, 5, 6, 7, 9, 10, 11, 12, 13, 14, 15, 17, 18, 19, 20, 21]

/-- Header bit `k`, counted from 0 at bit 7 of byte 0, with its code position. -/
def numberedBits (header : BitVec 16) : List (Nat × Bool) :=
  codePositions.zipIdx.map fun p => (p.1, header.getLsbD (15 - p.2))

/-- The exclusive-or of a list of bits. -/
def parity (bits : List Bool) : Bool := bits.foldl xor false

/-- Check bit `k`: the exclusive-or of the header bits whose code position has bit `k` set (R195). -/
def checkBit (header : BitVec 16) (k : Nat) : Bool :=
  parity ((numberedBits header).map fun p => p.1.testBit k && p.2)

/-- The exclusive-or of all sixteen header bits. -/
def headerParity (header : BitVec 16) : Bool := parity ((numberedBits header).map Prod.snd)

/-- The number whose bits 0 to 4 are these. -/
def ofFive (b0 b1 b2 b3 b4 : Bool) : Nat :=
  b0.toNat + 2 * b1.toNat + 4 * b2.toNat + 8 * b3.toNat + 16 * b4.toNat

/-- The header check byte of a header: check bits in bits 0 to 4, the overall parity in bit 5, bits 6
and 7 at 0 (R195). -/
def headerCheckByte (header : BitVec 16) : Byte :=
  let c := fun k => checkBit header k
  let p := parity [headerParity header, c 0, c 1, c 2, c 3, c 4]
  BitVec.ofNat 8 (ofFive (c 0) (c 1) (c 2) (c 3) (c 4) + 32 * p.toNat)

/-- The syndrome: each received check bit compared with its recomputed value (R195). -/
def syndrome (header : BitVec 16) (check : Byte) : Nat :=
  let d := fun k => xor (check.getLsbD k) (checkBit header k)
  ofFive (d 0) (d 1) (d 2) (d 3) (d 4)

/-- The overall parity is good: bit 5 equals the exclusive-or of the received header bits and the five
received check bits (R195). -/
def parityGood (header : BitVec 16) (check : Byte) : Bool :=
  check.getLsbD 5 ==
    parity [headerParity header, check.getLsbD 0, check.getLsbD 1, check.getLsbD 2, check.getLsbD 3,
      check.getLsbD 4]

/-- The finding of the header check stage (R145). -/
inductive Finding where
  | clean | corrected | uncorrectable
deriving DecidableEq, Repr

/-- The header with the bit at this code position inverted; a check position leaves it (R195). -/
def flipAt (header : BitVec 16) (position : Nat) : BitVec 16 :=
  match codePositions.findIdx? (· == position) with
  | none => header
  | some k => header ^^^ (1#16 <<< (15 - k))

/-- The header check: the finding, and the header to go on with (R145, R195). -/
def headerCheck (header : BitVec 16) (check : Byte) : Finding × BitVec 16 :=
  let syn := syndrome header check
  if parityGood header check then (if syn = 0 then (.clean, header) else (.uncorrectable, header))
  else if syn = 0 then (.corrected, header)
  else if syn ≤ 21 then (.corrected, flipAt header syn)
  else (.uncorrectable, header)

/-! ### Fields of a header (R195) -/

/-- The two header bytes as one word, byte 0 high. -/
def headerOf (frame : List Byte) : BitVec 16 := BitVec.ofNat 16 (numberAt frame 0 2)

/-- Bits 7 to 3 of header byte 0. -/
def headerAddress (h : BitVec 16) : Nat := h.toNat / 2048
/-- Bits 2 to 0 of header byte 0. -/
def headerType (h : BitVec 16) : Nat := h.toNat / 256 % 8
/-- Bits 4 to 0 of header byte 1. -/
def headerLength (h : BitVec 16) : Nat := h.toNat % 32
/-- Bits 7 to 5 of header byte 1. -/
def headerSpare (h : BitVec 16) : Nat := h.toNat / 32 % 8

/-! ### Judging an answer (R145 to R147) -/

/-- How many payload bytes are read before the CRC (R145). -/
def payloadLength (finding : Finding) (h : BitVec 16) : Nat :=
  match finding with
  | .uncorrectable => min (headerLength h) 16
  | _ => headerLength h

/-- The payload length of a reader's frame type (Table 7-3); `none` when no reader sends the type. -/
def readerPayload (type : Nat) : Option Nat :=
  match type with
  | 4 => some 0
  | 5 => some 10
  | 6 => some 0
  | 7 => some 1
  | _ => none

/-- A header fault of the content check (R147, R195). -/
def headerFault (polled : StationId) (h : BitVec 16) : Bool :=
  headerAddress h != polled.val || readerPayload (headerType h) != some (headerLength h) ||
    headerSpare h != 0

/-- The event a payload carries for its type, when the type's payload is well made (R147, R195): `none`
is a payload fault. An IDLE answer, and a type or length that no reader sends, carry no event and no
payload fault. -/
def payloadEvent (h : BitVec 16) (payload : List Byte) : Option (Option ReaderEvent) :=
  match headerType h, headerLength h with
  | 5, 10 =>
    let token := tokenAt payload 0
    match token == 0#64, numberAt payload 8 1, numberAt payload 9 1 with
    | false, 0, 0 => some (some (.card token .shop .tap))
    | false, 0, 1 => some (some (.card token .shop .inserted))
    | false, 1, 0 => some (some (.card token .bank .tap))
    | false, 1, 1 => some (some (.card token .bank .inserted))
    | _, _, _ => none
  | 6, _ => some (some .cardOut)
  | 7, 1 =>
    match numberAt payload 0 1 with
    | 0 => some (some (.key .endKey))
    | 1 => some (some (.key .cancel))
    | _ => none
  | _, _ => some none

/-- The four error counters (R149). -/
inductive ErrorCounter where
  | hdrCorrected | hdrBad | crcBad | noAnswer
deriving DecidableEq, Repr

/-- What an answer is judged to be: GOOD or BAD, the faults found in the order of the stages, and the
event of a GOOD answer (R145 to R149). -/
structure Judgement where
  good : Bool
  faults : List ErrorCounter
  event : Option ReaderEvent
deriving DecidableEq, Repr

/-- The fault that a header finding counts (Table 7-4). -/
def findingFaults (f : Finding) : List ErrorCounter :=
  match f with
  | .clean => []
  | .corrected => [.hdrCorrected]
  | .uncorrectable => [.hdrBad]

/-- The content check of an answer whose header and CRC stages are passed (R147). The two kinds of
fault are looked for each by itself (log 16). -/
def contentCheck (polled : StationId) (h : BitVec 16) (payload : List Byte) (found : List ErrorCounter) :
    Judgement :=
  let hf := headerFault polled h
  let pe := payloadEvent h payload
  { good := !hf && pe.isSome
    faults := found ++ (if hf then [.hdrBad] else []) ++ (if pe.isNone then [.crcBad] else [])
    event := if hf then none else pe.getD none }

/-- The bytes of an answer, made up with FF to the length the RBC reads: a released data line reads
high (log 14). -/
def padded (frame : List Byte) (n : Nat) : List Byte := frame ++ List.replicate (n - frame.length) 0xFF#8

/-- The judging of an answer read to its end (R145, R146). -/
def judgeAnswer (polled : StationId) (strict : Bool) (frame : List Byte) : Judgement :=
  let hc := headerCheck (headerOf (padded frame 3)) (BitVec.ofNat 8 (numberAt (padded frame 3) 2 1))
  let n := payloadLength hc.1 hc.2
  let bytes := padded frame (5 + n)
  let payload := slice bytes 3 n
  let found := findingFaults hc.1
  if hc.1 = .uncorrectable ∧ strict then { good := false, faults := found, event := none }
  else if crc16 (be 2 hc.2.toNat ++ payload) = BitVec.ofNat 16 (numberAt bytes (3 + n) 2) then
    contentCheck polled hc.2 payload found
  else { good := false, faults := found ++ [.crcBad], event := none }

/-! ### The frames the part sends (R195, Table 7-3) -/

/-- A frame: header, header check byte, payload, CRC over header and payload (R194, R195). -/
def makeFrame (address type : Nat) (payload : List Byte) : List Byte :=
  let header := address * 2048 + type * 256 + payload.length
  be 2 header ++ [headerCheckByte (BitVec.ofNat 16 header)] ++ payload ++ crcBytes (be 2 header ++ payload)

/-- Code, amount and count of a display message, the code numbered in the order of Table 4-4; amount
and count 0 where the code carries none (Table 7-3, R195). -/
def displayFields (d : Display) : Nat × Nat × Nat :=
  match d with
  | .welcome a => (0, a, 0)
  | .charge a => (1, a, 0)
  | .stoppedNoCredit a => (2, a, 0)
  | .jam c => (3, 0, c)
  | .jamCleared c => (4, 0, c)
  | .declined => (5, 0, 0)
  | .noResponse => (6, 0, 0)
  | .unknownCard => (7, 0, 0)
  | .accountBlocked => (8, 0, 0)
  | .stationBusy => (9, 0, 0)
  | .cardInUse => (10, 0, 0)
  | .walkupUnavailable => (11, 0, 0)
  | .authorising => (12, 0, 0)
  | .goodbye a => (13, a, 0)
  | .outOfService => (14, 0, 0)

/-- The DISPLAY payload: code, amount and count in 1, 4 and 1 bytes (R195). -/
def displayPayload (d : Display) : List Byte :=
  be 1 (displayFields d).1 ++ be 4 (displayFields d).2.1 ++ be 1 (displayFields d).2.2

/-- The frame that the part has on the bus, if it is sending one (R143, Table 7-3). -/
def busFrame (p : BusPhase) : Option (List Byte) :=
  match p with
  | .polling r => some (makeFrame r.val 1 [])
  | .displaying r d => some (makeFrame r.val 2 (displayPayload d))
  | .broadcasting index => some (makeFrame 31 3 (be 1 index))
  | _ => none

end Sys2Proof.Machine
end

