-- ==== Sys2Proof/Machine/ReaderBus.lean ====
section
/-! DEFINITION. The Reader Bus Controller (Chapter 7): error counters, link state, poll periods, slots
and bus reset. -/

namespace Sys2Proof.Machine

/-! ### Error counters (R149, R150) -/

/-- One fault counted on a counter: the counter saturates at 255, and a fault counted on a counter
already there sets COUNTER_SATURATED (R149, R150). -/
def Reader.countOn (r : Reader) (c : ErrorCounter) : Reader :=
  let up := fun n => satAdd Config.errorCounterTop n 1
  let alarm := fun n => r.counterSaturated || decide (Config.errorCounterTop ≤ n)
  match c with
  | .hdrCorrected => { r with hdrCorrected := up r.hdrCorrected, counterSaturated := alarm r.hdrCorrected }
  | .hdrBad => { r with hdrBad := up r.hdrBad, counterSaturated := alarm r.hdrBad }
  | .crcBad => { r with crcBad := up r.crcBad, counterSaturated := alarm r.crcBad }
  | .noAnswer => { r with noAnswer := up r.noAnswer, counterSaturated := alarm r.noAnswer }

/-- A fault found by a judgement: under LOST only NO_ANSWER is counted (R149). -/
def Reader.countFault (r : Reader) (c : ErrorCounter) : Reader :=
  if r.link = .inService ∨ c = .noAnswer then r.countOn c else r

/-- Every fault of a judgement counted, in order (R149). -/
def Reader.countFaults (r : Reader) (cs : List ErrorCounter) : Reader := cs.foldl Reader.countFault r

/-! ### Link state (R152) -/

/-- The outcome of an answer applied to the link state (R152): `good` says whether it was GOOD. -/
def Reader.applyOutcome (r : Reader) (good : Bool) : Reader :=
  match r.link, good with
  | .inService, true => { r with consecutive := 0 }
  | .inService, false =>
    if r.consecutive < 2 then { r with consecutive := r.consecutive + 1 }
    else { r with link := .lost, consecutive := 0, linkLost := true }
  | .lost, false => { r with consecutive := 0 }
  | .lost, true =>
    if r.consecutive < 2 then { r with consecutive := r.consecutive + 1 }
    else { r with link := .inService, consecutive := 0 }

/-- An outcome with its faults applied to a reader record: the faults counted under the link state as
it stood, then the link state (R149, R152). -/
def Reader.judged (r : Reader) (good : Bool) (faults : List ErrorCounter) : Reader :=
  (r.countFaults faults).applyOutcome good

/-! ### Poll periods (R141, R154) -/

/-- The readers whose stations are in any state other than DISABLED, in ascending address (R141). -/
def State.pollList (s : State) : List StationId :=
  allStations.filter fun i => (s.station i).state != .disabled

/-- A reader leaves the poll list (R154). -/
def Reader.leaveList (r : Reader) : Reader :=
  { r with polled := false, link := .lost, consecutive := 0, display := none, displayReplaced := false }

/-- A reader at a period start, `listed` saying whether it stands in the new list (R141, R154). -/
def Reader.atPeriodStart (r : Reader) (listed : Bool) : Reader :=
  match listed, r.polled with
  | true, _ => { r with polled := true }
  | false, true => r.leaveList
  | false, false => r

/-- The phase after a transfer or slot: the next slot, or rest when no reader is left to serve (R141). -/
def restOrNext (toServe : List StationId) : BusPhase :=
  if toServe.isEmpty then .atRest else .betweenSlots

/-- A poll period starts (R141). -/
def State.startPeriod (s : State) : State :=
  let list := s.pollList
  { s with
    readers := mapSixteen (fun i r => r.atPeriodStart (list.contains i)) s.readers
    bus :=
      { phase := match s.bus.broadcast with
          | some index => .broadcasting index
          | none => restOrNext list
        clockHeld := s.bus.clockHeld
        toServe := list, periodTimer := some s.globals.pollSteps, broadcast := none } }

/-- A period start is due: the last slot has ended and the period timer has run out (R141). After
device reset the first is due at once (R161). -/
def State.periodDue (s : State) : Bool := s.bus.phase == .atRest && s.bus.periodTimer.isNone

/-- A period start that is due is taken (R141). -/
def State.startPeriodIfDue (s : State) : State := if s.periodDue then s.startPeriod else s

/-! ### Slots (R142) -/

/-- The slot of the reader being served ends (R141, R142). -/
def State.endSlot (s : State) : State :=
  { s with bus := { s.bus with phase := restOrNext s.bus.toServe } }

/-- The first transfer of a reader's slot: a DISPLAY, whose message is copied and whose replaced flag
is cleared, when the reader is IN_SERVICE and a message waits; otherwise the POLL (R142, R156). -/
def State.beginSlot (s : State) (r : StationId) (rest : List StationId) : State :=
  match (s.reader r).link, (s.reader r).display with
  | .inService, some d =>
    { s.modifyReader r fun x => { x with displayReplaced := false } with
      bus := { s.bus with phase := .displaying r d, toServe := rest } }
  | _, _ => { s with bus := { s.bus with phase := .polling r, toServe := rest } }

/-- The next reader's slot begins, unless the reader of the last one still holds the clock (R142; log
27). -/
def State.nextSlot (s : State) : State :=
  match s.bus.phase, s.bus.toServe, s.bus.clockHeld with
  | .betweenSlots, r :: rest, false => s.beginSlot r rest
  | _, _, _ => s

/-- The slot after the end of a DISPLAY transfer: emptied when it was delivered and not replaced
meanwhile (R156). -/
def Reader.afterDisplay (r : Reader) (delivered : Bool) : Reader :=
  if delivered && !r.displayReplaced then { r with display := none } else r

/-- The outcome NO_ANSWER for a reader (R143, R144, R149, R152). -/
def State.noAnswer (s : State) (r : StationId) : State :=
  s.modifyReader r fun x => x.judged false [.noAnswer]

/-- An answer judged, its outcome applied, and its event handed to the station when the answer is GOOD
and the reader is now IN_SERVICE (R146, R153). -/
def State.takeAnswer (s : State) (r : StationId) (frame : List Byte) : State :=
  let j := judgeAnswer r (s.reader r).strictHeader frame
  let s1 := s.modifyReader r fun x => x.judged j.good j.faults
  match j.good, j.event, (s1.reader r).link with
  | true, some e, .inService => s1.readerEvent r e
  | _, _, _ => s1

/-! ### Bus reset (R158) -/

/-- Every reader LOST with count 0 and no pending display (R158 steps 2 and 3). -/
def Reader.busReset (r : Reader) : Reader :=
  { r with link := .lost, consecutive := 0, display := none, displayReplaced := false }

/-- RESET READER BUS (R158): the transfer ended with its stop condition and without outcome, also where a
reader holds the clock (log 27), every link LOST, the slots emptied, and a new period started at once. -/
def State.resetBus (s : State) : State :=
  let s1 : State :=
    { s with
      readers := mapSixteen (fun _ r => r.busReset) s.readers
      bus := { s.bus with phase := .atRest, clockHeld := false, toServe := [], broadcast := none } }
  s1.startPeriod

end Sys2Proof.Machine
end

