-- ==== Sys2Proof/Machine/Operands.lean ====
section
/-! DEFINITION. Operand forms of host commands: station numbers, choices by their number (R188,
Table 9-2), the forms of R198 as fields present or absent, and the checks that call a value malformed. -/

namespace Sys2Proof.Machine

/-! ### Numbers that name a thing -/

/-- A station or reader address, 0 to 15 (Chapter 4, section 4.4; R148). -/
def stationOf (n : Nat) : Option StationId := if h : n < 16 then some ⟨n, h⟩ else none

/-- A tariff letter or a schedule number, 0 to 3 (Table 9-2). -/
def fourOf (n : Nat) : Option (Fin 4) := if h : n < 4 then some ⟨n, h⟩ else none

/-- An account kind (Table 1-3, Table 9-7). -/
def kindOf (n : Nat) : Option AccountKind :=
  match n with
  | 0 => some .prepaid
  | 1 => some .credit
  | 2 => some .member
  | 3 => some .transient
  | _ => none

/-- The state LOAD ACCOUNT may supply: ACTIVE or BLOCKED (R18). -/
def loadStateOf (n : Nat) : Option AccountState :=
  match n with
  | 0 => some .active
  | 1 => some .blocked
  | _ => none

/-- A bit of a polarity mask (R198). -/
def polarityOf (bit : Bool) : Polarity := if bit then .activeLow else .activeHigh
/-- A bit of the edge mask (R198). -/
def edgeOf (bit : Bool) : CountingEdge := if bit then .trailing else .leading

/-- A count mode (Table 5-2). -/
def countModeOf (n : Nat) : Option CountMode :=
  match n with
  | 0 => some .tracked
  | 1 => some .feedOnly
  | 2 => some .exitOnly
  | _ => none

/-- A class source (Table 5-2). -/
def classSourceOf (n : Nat) : Option ClassSource :=
  match n with
  | 0 => some .lines
  | 1 => some .fixed
  | _ => none

/-- A sheet class byte: 4 × LARGE + 2 × COLOUR + DUPLEX (Table 9-2). -/
def sheetClassOf (n : Nat) : Option SheetClass :=
  if n < 8 then some ⟨n.testBit 2, n.testBit 1, n.testBit 0⟩ else none

/-- A permit mode (Table 5-2). -/
def permitModeOf (n : Nat) : Option PermitMode :=
  match n with
  | 0 => some .level
  | 1 => some .interlocked
  | 2 => some .partialMode
  | _ => none

/-- A yes or no: 1 for yes (Table 9-2; log 21). -/
def yesNoOf (n : Nat) : Option Bool :=
  match n with
  | 0 => some false
  | 1 => some true
  | _ => none

/-- A session style (Table 5-2). -/
def styleOf (n : Nat) : Option SessionStyle :=
  match n with
  | 0 => some .tap
  | 1 => some .inserted
  | _ => none

/-- The strict-header setting, ON 0 and OFF 1 (Table 7-1, Table 9-2; log 21). -/
def strictOf (n : Nat) : Option Bool :=
  match n with
  | 0 => some true
  | 1 => some false
  | _ => none

/-! ### Money fields -/

/-- A cents figure within 0 to `top`. -/
def centsWithin (top x : Int) : Bool := decide (0 ≤ x) && decide (x ≤ top)

/-- A field supplied by its mask bit. -/
def supplied {α : Type} (mask : BitVec 16) (bit : Nat) (x : α) : Option α :=
  if mask.getLsbD bit then some x else none

/-! ### Prices, schedules, configurations -/

/-- A price within 0 to 65,535 points (Table 2-1). -/
def priceInRange (p : CellPrice) : Bool := decide (p.front ≤ 65535) && decide (p.back ≤ 65535)

/-- `a` is below `b` where both are present (R38 check 4). -/
def risesTo (a b : Option Nat) : Bool :=
  match a, b with
  | some x, some y => decide (x < y)
  | _, _ => true

/-- A schedule as R37 has it: thresholds in range, a leading run and strictly rising; discounts of the
tiers present in range and never falling; the others 0. -/
def Schedule.wellFormed (d : Schedule) : Bool :=
  let inRange := fun (t : Option Nat) => t.all fun x => decide (1 ≤ x) && decide (x ≤ Config.thresholdTop)
  inRange d.t1 && inRange d.t2 && inRange d.t3 && (d.t2.isNone || d.t1.isSome) &&
    (d.t3.isNone || d.t2.isSome) && risesTo d.t1 d.t2 && risesTo d.t2 d.t3 &&
    decide (d.d0 ≤ Config.discountTop) && decide (d.d1 ≤ Config.discountTop) &&
    decide (d.d2 ≤ Config.discountTop) && decide (d.d3 ≤ Config.discountTop) &&
    (d.t1.isNone || decide (d.d0 ≤ d.d1)) && (d.t2.isNone || decide (d.d1 ≤ d.d2)) &&
    (d.t3.isNone || decide (d.d2 ≤ d.d3)) && (d.t1.isSome || d.d1 == 0) && (d.t2.isSome || d.d2 == 0) &&
    (d.t3.isSome || d.d3 == 0)

/-- The polarities of the input lines from the mask: bit k is the k-th line of Table 5-1 (R198). -/
def polaritiesOf (mask : BitVec 8) : PerInput Polarity :=
  { ready := polarityOf (mask.getLsbD 1), feed := polarityOf (mask.getLsbD 2)
    exit := polarityOf (mask.getLsbD 3), jam := polarityOf (mask.getLsbD 4)
    classL := polarityOf (mask.getLsbD 5), classC := polarityOf (mask.getLsbD 6)
    classD := polarityOf (mask.getLsbD 7) }

/-- Check 3 of R102 passes: INTERLOCKED and PARTIAL are not allowed with EXIT_ONLY. -/
def StationConfig.modesAgree (c : StationConfig) : Bool :=
  c.permitMode == .level || c.countMode != .exitOnly

/-- A station with this configuration in force, its port re-armed (R103). -/
def Station.configured (st : Station) (c : StationConfig) : Station :=
  let st1 := { st with config := c }
  { st1 with
    filtered := st1.filteredAsRaw, filterTimers := ⟨none, none, none, none⟩, feedCounter := 0
    exitCounter := 0, permitDelay := none }

end Sys2Proof.Machine

namespace Sys2Proof

open Sys2Proof.Machine

/-! ### LOAD ACCOUNT (R18, R198) -/

/-- A bit of LOAD ACCOUNT's mask other than 0, 1, 3, 5, 7 and 13 is set (R198). -/
def LoadForm.hasReservedBits (f : LoadForm) : Bool := (f.mask &&& 0xDF54#16) != 0#16

/-- The balance supplied (mask bit 0). -/
def LoadForm.balance? (f : LoadForm) : Option Int := supplied f.mask 0 f.balance
/-- The credit limit supplied (mask bit 1). -/
def LoadForm.limit? (f : LoadForm) : Option Int := supplied f.mask 1 f.creditLimit
/-- The payer supplied (mask bit 3). -/
def LoadForm.payer? (f : LoadForm) : Option Nat := supplied f.mask 3 f.payer
/-- The period cap supplied (mask bit 5). -/
def LoadForm.cap? (f : LoadForm) : Option Int := supplied f.mask 5 f.periodCap
/-- The schedule supplied (mask bit 7). -/
def LoadForm.schedule? (f : LoadForm) : Option Nat := supplied f.mask 7 f.schedule
/-- The period figures are supplied (mask bit 13). -/
def LoadForm.hasFigures (f : LoadForm) : Bool := f.mask.getLsbD 13

/-- Every value supplied lies within its range (R18 check 1). -/
def LoadForm.inRange (f : LoadForm) : Bool :=
  decide (1 ≤ f.number) && decide (f.number ≤ Config.lastRegistered) &&
    (f.balance?.all fun x => decide (Config.balanceBottom ≤ x) && decide (x ≤ Config.balanceTop)) &&
    f.limit?.all (centsWithin Config.limitTop) &&
    (f.payer?.all fun p => decide (1 ≤ p) && decide (p ≤ Config.lastRegistered)) &&
    f.cap?.all (centsWithin Config.limitTop) && (f.schedule?.all fun x => decide (x < 4)) &&
    (!f.hasFigures ||
      (decide (f.meter ≤ Config.meterTop) && centsWithin (Config.chargesTop : Int) f.periodCharges &&
        f.classCounts.toList.all fun c => decide (c ≤ Config.meterTop)))

/-- The fields required by the kind are supplied and no field absent for it is; a MEMBER supplies no
meter other than 0 (R18 check 1). -/
def LoadForm.suitsKind (f : LoadForm) (kind : AccountKind) : Bool :=
  match kind with
  | .prepaid =>
    f.balance?.isSome && f.limit?.isNone && f.payer?.isNone && f.cap?.isNone && f.schedule?.isSome
  | .credit =>
    f.balance?.isSome && f.limit?.isSome && f.payer?.isNone && f.cap?.isNone && f.schedule?.isSome
  | .member =>
    f.balance?.isNone && f.limit?.isNone && f.payer?.isSome && f.schedule?.isNone &&
      (!f.hasFigures || f.meter == 0)
  | .transient => false

/-- The record LOAD ACCOUNT creates from its form (R19). -/
def LoadForm.record (f : LoadForm) (kind : AccountKind) (state : AccountState) : Account :=
  { number := f.number, kind := kind, state := state, balance := f.balance?.getD 0
    creditLimit := (f.limit?.getD 0).toNat, held := 0, payer := f.payer?, memberHeld := 0
    periodCap := f.cap?.map Int.toNat, memberCount := 0
    schedule := (f.schedule?.bind fourOf).getD 0
    meter := if f.hasFigures then f.meter else 0
    meterSaturated := f.hasFigures && f.meter == Config.meterTop
    periodCharges := if f.hasFigures then f.periodCharges.toNat else 0
    classCounts := if f.hasFigures then f.classCounts else zeroCounts
    tokens := [], openJobs := 0, walkup := none }

/-- The record that a well-formed LOAD ACCOUNT would create; `none` when a value is malformed (R18
check 1). -/
def LoadForm.asRecord (f : LoadForm) : Option Account :=
  match kindOf f.kind, loadStateOf f.state with
  | some kind, some state =>
    if !f.hasReservedBits && f.inRange && f.suitsKind kind then some (f.record kind state) else none
  | _, _ => none

/-! ### UPDATE ACCOUNT (R20, R198) -/

/-- A bit of UPDATE ACCOUNT's mask other than 1, 3, 5, 7, 14 and 15 is set (R198). -/
def UpdateForm.hasReservedBits (f : UpdateForm) : Bool := (f.mask &&& 0x3F55#16) != 0#16

/-- The credit limit supplied (mask bit 1). -/
def UpdateForm.limit? (f : UpdateForm) : Option Int := supplied f.mask 1 f.creditLimit
/-- The new payer supplied (mask bit 3). -/
def UpdateForm.payer? (f : UpdateForm) : Option Nat := supplied f.mask 3 f.payer
/-- The new cap supplied (mask bit 5). -/
def UpdateForm.cap? (f : UpdateForm) : Option Int := supplied f.mask 5 f.periodCap
/-- The schedule supplied (mask bit 7). -/
def UpdateForm.schedule? (f : UpdateForm) : Option Nat := supplied f.mask 7 f.schedule
/-- Removal of the cap (mask bit 14). -/
def UpdateForm.removesCap (f : UpdateForm) : Bool := f.mask.getLsbD 14
/-- A kind is supplied (mask bit 15). -/
def UpdateForm.hasKind (f : UpdateForm) : Bool := f.mask.getLsbD 15

/-- The fields supplied are ones this kind carries (R20 check 3). -/
def UpdateForm.suitsKind (f : UpdateForm) (kind : AccountKind) : Bool :=
  (f.limit?.isNone || kind == .credit) && (f.payer?.isNone || kind == .member) &&
    ((f.cap?.isNone && !f.removesCap) || kind == .member) && (f.schedule?.isNone || kind != .member)

/-- Every value supplied lies within its range (R20 check 3). -/
def UpdateForm.inRange (f : UpdateForm) : Bool :=
  f.limit?.all (centsWithin Config.limitTop) &&
    (f.payer?.all fun p => decide (1 ≤ p) && decide (p ≤ Config.lastRegistered)) &&
    f.cap?.all (centsWithin Config.limitTop) && f.schedule?.all fun x => decide (x < 4)

/-- Check 3 of R20 passes for an account of this kind. -/
def UpdateForm.valid (f : UpdateForm) (kind : AccountKind) : Bool :=
  !f.hasReservedBits && !f.hasKind && !(f.cap?.isSome && f.removesCap) && f.suitsKind kind && f.inRange

/-- The record with the supplied fields replaced (R20). -/
def UpdateForm.applyTo (f : UpdateForm) (a : Account) : Account :=
  { a with
    creditLimit := (f.limit?.map Int.toNat).getD a.creditLimit
    periodCap := if f.removesCap then none else (f.cap?.map Int.toNat).orElse fun _ => a.periodCap
    schedule := (f.schedule?.bind fourOf).getD a.schedule
    payer := f.payer?.orElse fun _ => a.payer }

/-- The update raised the credit limit, or raised or removed the cap of this account (R20, R66). -/
def UpdateForm.raises (f : UpdateForm) (a : Account) : Bool :=
  (f.limit?.any fun x => decide ((a.creditLimit : Int) < x)) ||
    (a.periodCap.any fun old => f.removesCap || f.cap?.any fun x => decide ((old : Int) < x))

/-! ### WRITE TARIFF and WRITE SCHEDULE (R33, R38) -/

/-- Checks 2 to 5 of WRITE TARIFF (R33). -/
def TariffForm.valid (f : TariffForm) : Bool :=
  priceInRange f.prices.sm && priceInRange f.prices.sc && priceInRange f.prices.lm &&
    priceInRange f.prices.lc && centsWithin 100000 f.startThreshold && centsWithin 10000 f.jobMinimum &&
    decide (100 ≤ f.holdQuantum) && decide (f.holdQuantum ≤ 100000) &&
    decide ((ceilCents (reserveOf f.prices) : Int) ≤ f.startThreshold) &&
    decide (f.jobMinimum ≤ f.startThreshold) && decide (f.startThreshold ≤ f.holdQuantum)

/-- The table that WRITE TARIFF writes (R34). -/
def TariffForm.table (f : TariffForm) : Tariff :=
  { isDefined := true, prices := f.prices, startThreshold := f.startThreshold.toNat
    jobMinimum := f.jobMinimum.toNat, holdQuantum := f.holdQuantum.toNat, reserve := reserveOf f.prices }

/-- A threshold of the form, present by its mask bit (R198). -/
def ScheduleForm.threshold (f : ScheduleForm) (bit : Nat) (t : Nat) : Option Nat :=
  if f.mask.getLsbD bit then some t else none

/-- The schedule that WRITE SCHEDULE writes: discounts of tiers that do not exist are 0 (R37, R38). -/
def ScheduleForm.table (f : ScheduleForm) : Schedule :=
  { t1 := f.threshold 0 f.t1, t2 := f.threshold 1 f.t2, t3 := f.threshold 2 f.t3, d0 := f.d0
    d1 := if f.mask.getLsbD 0 then f.d1 else 0
    d2 := if f.mask.getLsbD 1 then f.d2 else 0
    d3 := if f.mask.getLsbD 2 then f.d3 else 0 }

/-- The checks of WRITE SCHEDULE after the first, with no reserved mask bit set (R38, R188). -/
def ScheduleForm.valid (f : ScheduleForm) : Bool := (f.mask &&& 0xF8#8) == 0#8 && f.table.wellFormed

/-! ### SET GLOBALS (R191) -/

/-- The settings as taken: clamped, except the walk-up schedule, which is refused outside 0 to 3. -/
def GlobalsForm.taken (f : GlobalsForm) : Option Globals :=
  match fourOf f.walkupSchedule with
  | none => none
  | some w =>
    some
      { idleTimeout := clamp 10 1800 f.idleTimeout, drainTimeout := clamp 2 60 f.drainTimeout
        jamTimeout := clamp 1 60 f.jamTimeout, authTimeout := clamp 5 60 f.authTimeout
        preAuthAmount := clamp 100 50000 f.preAuthAmount.toNat, walkupSchedule := w
        pollPeriod := clamp 20 250 f.pollPeriod, answerLimit := clamp 1 25 f.answerLimit }

/-! ### CONFIGURE STATION (R102) -/

/-- The configuration a form names, numeric settings clamped; `none` when a choice names no value (R102
check 2). DESIGN CHOICE (log 34): bits 2 to 7 of the edge mask, which R198 gives no meaning and does not
call reserved, are refused as reserved bits are by R188. -/
def ConfigForm.named (f : ConfigForm) : Option StationConfig :=
  match countModeOf f.countMode, classSourceOf f.classSource, sheetClassOf f.fixedClass,
    permitModeOf f.permitMode, yesNoOf f.walkupAllowed, styleOf f.sessionStyle with
  | some cm, some cs, some fc, some pm, some wa, some ss =>
    if (f.edgeMask &&& 0xFC#8) = 0#8 then
      some
        { permitPolarity := polarityOf (f.polarityMask.getLsbD 0), polarity := polaritiesOf f.polarityMask
          feedEdge := edgeOf (f.edgeMask.getLsbD 0), exitEdge := edgeOf (f.edgeMask.getLsbD 1)
          filterSteps := clamp 5 255 f.filterSteps, divisor := clamp 1 8 f.divisor, countMode := cm
          classSource := cs, fixedClass := fc, permitMode := pm, tdSteps := min f.tdSteps 255
          walkupAllowed := wa, style := ss }
    else none
  | _, _, _, _, _, _ => none

end Sys2Proof
end

