-- ==== Sys2Proof/Machine/Layouts.lean ====
section
/-! DEFINITION. Result bytes of the host commands: the encodings of Table 9-2 and the layouts of R196 to
R198 (Tables 9-7 to 9-9). A figure larger than its field is reported as the largest the field carries. -/

namespace Sys2Proof.Machine

/-! ### Quantities (Table 9-2) -/

/-- A count in `k` bytes, at most the largest the field carries (R188). -/
def count (k n : Nat) : List Byte := be k (min n (256 ^ k - 1))

/-- A flag, presence, or yes or no: 1 when set (Table 9-2). -/
def flag (b : Bool) : List Byte := be 1 b.toNat

/-- A token (Table 9-2). -/
def tokenBytes (t : Token) : List Byte := be 8 t.toNat

/-- A number made of eight bits, bit 0 first. -/
def maskOf (bits : List Bool) : Nat := bits.foldr (fun b acc => b.toNat + 2 * acc) 0

/-! ### Choices -/

/-- Table 9-7. -/
def AccountKind.code (k : AccountKind) : Nat :=
  match k with
  | .prepaid => 0 | .credit => 1 | .member => 2 | .transient => 3

/-- Table 9-7. -/
def AccountState.code (s : AccountState) : Nat :=
  match s with
  | .active => 0 | .blocked => 1 | .closing => 2 | .pending => 3 | .opened => 4 | .settled => 5

/-- Table 9-7. -/
def RequestState.code (s : RequestState) : Nat :=
  match s with
  | .waiting => 0 | .taken => 1

/-- The order of Table 4-1, from DISABLED 0 (R190). -/
def StationState.code (s : StationState) : Nat :=
  match s with
  | .disabled => 0 | .idle => 1 | .opening => 2 | .running => 3 | .held => 4 | .closing => 5
  | .jammed => 6 | .outOfService => 7

/-- The place of an end cause in Table 3-3, from 0 (Table 9-2). -/
def EndCause.place (c : EndCause) : Nat :=
  match c with
  | .endKey => 0 | .cardTap => 1 | .cardRemoved => 2 | .idleTimeout => 3 | .hostEnd => 4
  | .accountBlocked => 5 | .jamTimeout => 6 | .stationReset => 7

/-- An end request in the job record: absent 0, then the causes in the order of Table 3-3 (Table 9-8). -/
def endRequestCode (c : Option EndCause) : Nat :=
  match c with
  | none => 0
  | some c => c.place + 1

/-- Table 5-2. -/
def CountMode.code (m : CountMode) : Nat :=
  match m with
  | .tracked => 0 | .feedOnly => 1 | .exitOnly => 2

/-- Table 5-2. -/
def ClassSource.code (c : ClassSource) : Nat :=
  match c with
  | .lines => 0 | .fixed => 1

/-- Table 5-2. -/
def PermitMode.code (m : PermitMode) : Nat :=
  match m with
  | .level => 0 | .interlocked => 1 | .partialMode => 2

/-- Table 5-2. -/
def SessionStyle.code (s : SessionStyle) : Nat :=
  match s with
  | .tap => 0 | .inserted => 1

/-- Absent 0, then JAM_LINE, PATH_OVERFLOW, DRAIN_TIMEOUT (R197). -/
def jamCauseCode (c : Option JamCause) : Nat :=
  match c with
  | none => 0
  | some .jamLine => 1
  | some .pathOverflow => 2
  | some .drainTimeout => 3

/-- Table 9-8. -/
def JobKind.code (k : JobKind) : Nat :=
  match k with
  | .account => 0 | .card => 1

/-- Table 9-8. -/
def OpenedBy.code (o : OpenedBy) : Nat :=
  match o with
  | .reader => 0 | .host => 1

/-- Table 7-1. -/
def LinkState.code (l : LinkState) : Nat :=
  match l with
  | .inService => 0 | .lost => 1

/-- The status codes of Table 9-1. -/
def Status.code (s : Status) : Nat :=
  match s with
  | .ok => 0x00 | .clamped => 0x01 | .deferred => 0x02 | .badFrame => 0x03 | .unknownCommand => 0x04
  | .invalid => 0x05 | .notFound => 0x06 | .exists_ => 0x07 | .full => 0x08 | .busy => 0x09
  | .refusedState => 0x0A | .limit => 0x0B | .noRequest => 0x0C | .approvedUnused => 0x0D

/-! ### READ ACCOUNT (R196, Table 9-7) -/

/-- The presence bits of an account record, bit 0 first (Table 9-7). -/
def Account.presence (a : Account) : List Bool :=
  let own := a.kind != .member
  let member := a.kind == .member
  let named := a.kind == .prepaid || a.kind == .credit
  [own, a.kind == .credit, own, member, member, member && a.periodCap.isSome, named, named,
    a.walkup.isSome, a.walkup.isSome, (a.walkup.bind Walkup.granted).isSome,
    (a.walkup.bind Walkup.requestState).isSome, (a.walkup.bind Walkup.finalCharge).isSome]

/-- A field sent as 0 where it is absent (R196). -/
def absentAs0 {α : Type} (o : Option α) (f : α → Nat) : Nat := (o.map f).getD 0

/-- The cents of a figure that a record may hold or not, 0 where it is absent. -/
def presentCents (present : Bool) (x : Int) : List Byte := beCents (if present then x else 0)

/-- The token list in 32 bytes, unused places 0 (Table 9-7). -/
def tokenListBytes (ts : List Token) : List Byte := ((ts ++ List.replicate 4 0#64).take 4).flatMap tokenBytes

/-- The walk-up fields (Table 9-7), absent ones as 0. -/
def walkupBytes (w : Option Walkup) : List Byte :=
  count 2 (absentAs0 w Walkup.authRef) ++ beCents (absentAs0 w Walkup.requested) ++
    beCents (absentAs0 (w.bind Walkup.granted) id) ++
    count 1 (absentAs0 (w.bind Walkup.requestState) RequestState.code) ++
    beCents (absentAs0 (w.bind Walkup.finalCharge) id)

/-- The account record with the available amount, in 116 bytes (R196, Table 9-7). -/
def State.accountBytes (s : State) (a : Account) : List Byte :=
  let own := a.kind != .member
  let member := a.kind == .member
  let named := a.kind == .prepaid || a.kind == .credit
  count 2 a.number ++ count 1 a.kind.code ++ count 1 a.state.code ++ count 2 (maskOf a.presence) ++
    presentCents own a.balance ++ presentCents (a.kind == .credit) a.creditLimit ++ presentCents own a.held ++
    count 2 (a.payer.getD 0) ++ presentCents member a.memberHeld ++ beCents (absentAs0 a.periodCap id) ++
    count 2 (if named then a.memberCount else 0) ++ count 1 (if named then a.schedule.val else 0) ++
    count 3 a.meter ++ flag a.meterSaturated ++ beCents a.periodCharges ++
    a.classCounts.toList.flatMap (count 3) ++ count 1 a.tokens.length ++ tokenListBytes a.tokens ++
    count 1 a.openJobs ++ walkupBytes a.walkup ++ beCents (s.available a)

/-! ### Tariffs, schedules, globals (R191, R198) -/

/-- The eight prices, front before back, in cell order SM, SC, LM, LC (R198). -/
def pricesResult (p : Prices) : List Byte :=
  count 2 p.sm.front ++ count 2 p.sm.back ++ count 2 p.sc.front ++ count 2 p.sc.back ++
    count 2 p.lm.front ++ count 2 p.lm.back ++ count 2 p.lc.front ++ count 2 p.lc.back

/-- A reserve in milli-points and in cents (R33, R198). -/
def reserveBytes (reserve : Nat) : List Byte := count 6 reserve ++ beCents (ceilCents reserve)

/-- READ TARIFF's results (R35, R198). -/
def tariffBytes (t : Tariff) : List Byte :=
  flag t.isDefined ++ pricesResult t.prices ++ beCents t.startThreshold ++ beCents t.jobMinimum ++
    beCents t.holdQuantum ++ reserveBytes t.reserve

/-- Threshold presence mask, thresholds and discounts (R198, Table 9-8). -/
def scheduleBytes (d : Schedule) : List Byte :=
  count 1 (maskOf [d.t1.isSome, d.t2.isSome, d.t3.isSome]) ++ count 3 (d.t1.getD 0) ++
    count 3 (d.t2.getD 0) ++ count 3 (d.t3.getD 0) ++ count 2 d.d0 ++ count 2 d.d1 ++ count 2 d.d2 ++
    count 2 d.d3

/-- The eight settings in 16 bytes (R191). -/
def globalsBytes (g : Globals) : List Byte :=
  count 2 g.idleTimeout ++ count 2 g.drainTimeout ++ count 2 g.jamTimeout ++ count 2 g.authTimeout ++
    beCents g.preAuthAmount ++ count 1 g.walkupSchedule.val ++ count 2 g.pollPeriod ++ count 1 g.answerLimit

/-! ### Stations (R197) -/

/-- The configuration in 13 bytes, in the order of Table 5-2 (R197). -/
def configBytes (c : StationConfig) : List Byte :=
  let low := fun (p : Polarity) => p == .activeLow
  count 1 (maskOf [low c.permitPolarity, low c.polarity.ready, low c.polarity.feed, low c.polarity.exit,
    low c.polarity.jam, low c.polarity.classL, low c.polarity.classC, low c.polarity.classD]) ++
    count 1 (maskOf [c.feedEdge == .trailing, c.exitEdge == .trailing]) ++ count 2 c.filterSteps ++
    count 1 c.divisor ++ count 1 c.countMode.code ++ count 1 c.classSource.code ++
    count 1 c.fixedClass.index.val ++ count 1 c.permitMode.code ++ count 2 c.tdSteps ++
    flag c.walkupAllowed ++ count 1 c.style.code

/-- A mask of input lines, bit 0 at 0 (R198). -/
def inputMask (ready feed exit jam l c d : Bool) : List Byte :=
  count 1 (maskOf [false, ready, feed, exit, jam, l, c, d])

/-- The station port after its configuration (R197, R117). -/
def Station.portBytes (st : Station) : List Byte :=
  inputMask (st.raw .ready) (st.raw .feed) (st.raw .exit) (st.raw .jam) (st.raw .classL)
      (st.raw .classC) (st.raw .classD) ++
    inputMask st.filtered.ready st.filtered.feed st.filtered.exit st.filtered.jam false false false ++
    inputMask st.filterTimers.ready.isSome st.filterTimers.feed.isSome st.filterTimers.exit.isSome
      st.filterTimers.jam.isSome false false false ++
    count 1 st.feedCounter ++ count 1 st.exitCounter ++ flag st.permit ++
    count 2 (timerLeftMs st.permitDelay) ++ count 2 st.unauthorisedFeeds ++ count 2 st.strayExits

/-- The eight billed class counts, 4 bytes each. -/
def billedBytes (v : Vector Nat 8) : List Byte := v.toList.flatMap (count 4)

/-- The snapshot (Table 9-8). -/
def snapshotBytes (n : Snapshot) : List Byte :=
  count 1 n.letter.val ++ count 1 n.scheduleNumber.val ++ pricesResult n.prices ++ count 6 n.reserve ++
    beCents n.holdQuantum ++ beCents n.jobMinimum ++ scheduleBytes n.schedule

/-- The job record (Table 9-8). -/
def jobBytes (i : StationId) (j : Job) : List Byte :=
  count 1 i.val ++ count 2 j.user ++ count 2 j.billing ++ count 1 j.kind.code ++ count 1 j.openedBy.code ++
    count 2 (j.authRef.getD 0) ++ snapshotBytes j.snapshot ++ beCents j.hold ++ count 6 j.accrued ++
    count 2 j.nextSeq ++ count 4 j.pricedSheets ++ billedBytes j.billed ++ count 4 j.billedImpressions ++
    count 4 j.voidedSheets ++ count 4 j.voidedImpressions ++ count 2 j.jams ++ count 2 j.overruns ++
    count 2 j.unpricedFeeds ++ count 2 j.strayExits ++ count 1 (endRequestCode j.endRequest) ++
    count 4 (timerLeftMs j.idleTimer)

/-- The last-job record (Table 9-9). -/
def lastJobBytes (l : LastJob) : List Byte :=
  count 2 l.user ++ count 2 l.billing ++ count 1 l.kind.code ++ count 1 l.openedBy.code ++
    count 2 (l.authRef.getD 0) ++ count 1 (endRequestCode l.endCause) ++ billedBytes l.billed ++
    count 4 l.billedImpressions ++ count 4 l.voidedSheets ++ count 4 l.voidedImpressions ++
    count 2 l.jams ++ count 2 l.overruns ++ count 2 l.unpricedFeeds ++ count 2 l.strayExits ++
    beCents l.hold ++ beCents l.charge ++ flag l.minimumApplied ++ beCents l.balanceAfter

/-- A sheet of either list, in 13 bytes (R197). -/
def sheetBytes (x : Sheet) : List Byte :=
  count 2 x.seqNo ++ count 1 x.cls.index.val ++ count 3 x.firstOrdinal ++ count 1 x.impressions ++
    count 6 x.amount

/-- The number of entries of a list, then the entries (R197). -/
def sheetsBytes (xs : List Sheet) : List Byte := count 1 xs.length ++ xs.flatMap sheetBytes

/-- A record with its presence byte; an absent one is its presence byte alone (R197). -/
def presentBytes {α : Type} (f : α → List Byte) (o : Option α) : List Byte :=
  match o with
  | none => flag false
  | some x => flag true ++ f x

/-- The auth reference of the walk-up of an OPENING station, 0 in every other state (R197, R95). -/
def State.openingReference (s : State) (i : StationId) : Nat :=
  if (s.station i).state = .opening then absentAs0 ((s.walkupOf i).bind Account.walkup) Walkup.authRef else 0

/-- A set of station alarm flags, bit k for the k-th flag of Table 6-1 (R198). -/
def StationAlarms.mask (a : StationAlarms) : Nat :=
  maskOf [a.jamEntered, a.outOfService, a.unauthorisedFeed, a.strayExit, a.pathOverflow, a.overrun]

/-- READ STATION's results: the groups of R197 in their order, an absent session token sent as eight 0
bytes (DESIGN CHOICE, log 22), and after them the alarm flags that R139 has READ STATION report (their
place at the end is a DESIGN CHOICE, log 20). -/
def State.stationBytes (s : State) (i : StationId) : List Byte :=
  let st := s.station i
  count 1 st.state.code ++ count 1 st.config.style.code ++ count 1 st.tariff.val ++
    flag st.sessionToken.isSome ++ tokenBytes (st.sessionToken.getD 0#64) ++
    count 2 (s.openingReference i) ++ configBytes st.config ++ st.portBytes ++
    count 1 (jamCauseCode st.jamCause) ++ count 4 (timerLeftMs st.jamTimer) ++
    count 2 (timerLeftMs st.drainTimer) ++ presentBytes (jobBytes i) st.job ++ sheetsBytes st.path ++
    sheetsBytes st.disputed ++ presentBytes lastJobBytes st.lastJob ++ count 1 st.alarms.mask

/-! ### Readers and the summary -/

/-- READ READER's results, in the order of R160; an absent display is sent as zeros (log 22). -/
def State.readerBytes (s : State) (i : StationId) : List Byte :=
  let r := s.reader i
  flag r.polled ++ count 1 r.link.code ++ count 1 r.consecutive ++ count 1 r.hdrCorrected ++
    count 1 r.hdrBad ++ count 1 r.crcBad ++ count 1 r.noAnswer ++
    count 1 (if r.strictHeader then 0 else 1) ++ flag r.display.isSome ++
    (match r.display with
      | none => be 6 0
      | some d => displayPayload d) ++
    count 1 (maskOf [r.linkLost, r.counterSaturated]) ++ flag s.bus.broadcast.isSome ++
    count 1 (s.bus.broadcast.getD 0)

/-- A mask with one bit for each station or reader, 15 in the high bit (R190). -/
def sixteenMask (f : StationId → Bool) : Nat := maskOf (allStations.map f)

/-- STATUS SUMMARY's results (R190). -/
def State.summaryBytes (s : State) : List Byte :=
  count 1 s.wau.waiting.length ++ count 1 (s.accounts.filter Account.isSettled).length ++
    count 2 (Config.maxAccounts - s.accounts.length) ++ count 2 (Config.maxTokens - s.tokens.length) ++
    count 2 (sixteenMask fun i => (s.station i).alarms.any) ++
    count 2 (sixteenMask fun i => (s.reader i).anyAlarm) ++
    allStations.flatMap fun i => count 1 (s.station i).state.code

end Sys2Proof.Machine
end

