-- ==== Sys2Proof/Machine/HostLink.lean ====
section
/-! DEFINITION. The Host Link Interface (Chapter 9): select periods, the judging of a command message,
the placing of a response, and how a host command is executed. -/

namespace Sys2Proof.Machine

/-! ### Responses -/

/-- A response with results. -/
def answer (status : Status) (results : List Byte) : Response := { status := status, results := results }

/-- A response without results. -/
def bare (status : Status) : Response := { status := status, results := [] }

/-- The response message: status, flags, results length, results, CRC (Table 9-6, R194). -/
def Response.message (r : Response) (collision : Bool) : List Byte :=
  let body := be 1 r.status.code ++ be 1 collision.toNat ++ be 2 r.results.length ++ r.results
  body ++ crcBytes body

/-- The response that stood in the buffer no longer does: a select period that shifts it out will not
count it as read (R186, R183). -/
def Link.dropResponse (l : Link) : Link :=
  { l with response := none, select := l.select.map fun p => { p with live := false } }

/-- A response placed in the buffer in place of any unread one (R184, R186). -/
def Link.place (l : Link) (r : Response) : Link := { l.dropResponse with response := some r }

/-- A message judged, to be refused or taken: RDY falls, and the unread response is discarded (R184,
R186). -/
def Link.take (l : Link) (j : Judged) : Link := { l.dropResponse with judged := some j }

/-- The refusal of a message placed in the response buffer and RDY driven high (R184). -/
def State.placeRefusal (s : State) (status : Status) : State :=
  { s with link := { s.link.place (bare status) with judged := none } }.drive

/-! ### Executing a host command (R184) -/

/-- Another command than `i` is executing or a refusal is being placed, so `i` meets RDY low (R182 step 1,
R184, R185; log 6). -/
def Link.occupiedFor (l : Link) (i : Instr) : Bool :=
  match l.judged with
  | none => false
  | some j => j != .command i

/-- The execution of a host command as one event (R184): its block's work `body`, the response placed,
RDY high again. While RDY is low for another message it is a collision: discarded whole, the collision flag
set (R185). While RESETn is low nothing happens (R193). -/
def State.hostCommand (s : State) (i : Instr) (body : State → State × Response) :
    Host.Outcome State Fault Refusal :=
  if s.resetLow then .next s
  else if s.link.occupiedFor i then .next { s with link := { s.link with collision := true } }.drive
  else
    let out := body s
    .next { out.1 with link := { out.1.link.place out.2 with judged := none } }.drive

/-- The retries of held stations still owed, all made, oldest first, with the pins driven as their
stations now demand (R66, R112, R184). -/
def State.makeOwedRetries (s : State) : State :=
  { s.retryOwed.foldl State.retry s with retryOwed := [] }.drive

/-- A reading command: it sees the effect of every retry owed before it (R184, R199; log 7), and
changes nothing else. -/
def reading (look : State → Response) (s : State) : State × Response :=
  (s.makeOwedRetries, look s.makeOwedRetries)

/-- A refusal, or any answer that changes nothing. -/
def unchanged (r : Response) (s : State) : State × Response := (s, r)

/-- A command that names a station or reader, refused with INVALID outside 0 to 15 before any other
check (Chapter 4, section 4.4). -/
def withStation (n : Nat) (body : StationId → State → State × Response) (s : State) : State × Response :=
  match stationOf n with
  | none => unchanged (bare .invalid) s
  | some i => body i s

/-- A command that names an account, answered NOT_FOUND when no account has the number. -/
def withAccount (n : Nat) (body : Account → State → State × Response) (s : State) : State × Response :=
  match s.account n with
  | none => unchanged (bare .notFound) s
  | some a => body a s

/-! ### Select periods (R181 to R186) -/

/-- The fall of SELn: the response that waits, if any, is noted to be shifted out, the COLLISION flag
taken into its flags byte (R181, R185). -/
def Link.selectStart (l : Link) : Link :=
  match l.select with
  | some _ => l
  | none =>
    { l with
      select := some
        { shifting := l.response.map fun r => r.message l.collision
          showsCollision := l.response.isSome && l.collision
          live := l.response.isSome } }

/-- The bytes on MISO in a select period of `n` bytes: the response, then fill bytes FF (R181). -/
def SelectPeriod.miso (p : SelectPeriod) (n : Nat) : List Byte :=
  ((p.shifting.getD []) ++ List.replicate n 0xFF#8).take n

/-- The response of this select period counts as read: it still stands in the buffer and every byte of
it was clocked (R183). -/
def SelectPeriod.wasRead (p : SelectPeriod) (n : Nat) : Bool :=
  p.live &&
    match p.shifting with
    | none => false
    | some bytes => decide (bytes.length ≤ n)

/-- The reading at the rise of SELn, settled before the command is judged (R181, R183). -/
def Link.settleReading (l : Link) (p : SelectPeriod) (n : Nat) : Link :=
  { l with
    select := none, misoOut := p.miso n
    response := if p.wasRead n then none else l.response
    collision := l.collision && !(p.wasRead n && p.showsCollision) }

/-- Why a command message is refused, or the command it spells (R182 steps 2 to 5). -/
def judgeMessage (mosi : List Byte) : Judged :=
  let len := numberAt mosi 1 1
  if mosi.length < 2 ∨ 60 < len ∨ mosi.length < 4 + len then .refusal .badFrame
  else if crc16 (slice mosi 0 (2 + len)) ≠ BitVec.ofNat 16 (numberAt mosi (2 + len) 2) then .refusal .badFrame
  else
    match decodeCommand (numberAt mosi 0 1) (slice mosi 2 len) with
    | .unknownCode => .refusal .unknownCommand
    | .wrongLength => .refusal .invalid
    | .command i => .command i

/-- The select period carries a command: its first MOSI byte is not 00 (R181). -/
def carriesCommand (mosi : List Byte) : Bool :=
  match mosi with
  | [] => false
  | b :: _ => b != 0#8

/-- The judging of the command of a select period: a collision while RDY is low, otherwise RDY falls for
its refusal or for the command taken (R182, R184, R185). -/
def Link.judge (l : Link) (mosi : List Byte) : Link :=
  if !carriesCommand mosi then l
  else if l.judged.isSome then { l with collision := true }
  else l.take (judgeMessage mosi)

/-- The rise of SELn after these MOSI bytes (R182, R183). -/
def Link.selectEnd (l : Link) (mosi : List Byte) : Link :=
  match l.select with
  | none => l
  | some p => (l.settleReading p mosi.length).judge mosi

end Sys2Proof.Machine
end

