-- ==== Sys2Proof/Machine/AccountCommands.lean ====
section
/-! DEFINITION. The commands of the Account Table and the Token Index (Chapter 1): LOAD ACCOUNT to LIST
ACCOUNTS, BIND TOKEN, UNBIND TOKEN and FIND TOKEN. -/

namespace Sys2Proof.Machine

/-! ### Shared steps -/

/-- The ACT asks for a retry of held stations, made after the response fields are fixed (R66, R184). -/
def State.askRetry (s : State) (n : Nat) : State := { s with retryOwed := s.retryOwed ++ [n] }

/-- What is wrong with the account named as payer, if anything (R18 checks 4 to 6, R20 checks 5 to 7). -/
def State.payerFault (s : State) (p : Nat) : Option Status :=
  match s.account p with
  | none => some .notFound
  | some b =>
    if b.kind = .member ∨ b.kind = .transient then some .invalid
    else if b.state = .closing then some .refusedState
    else none

/-- The account keeps a balance that CREDIT and DEBIT may change: PREPAID or CREDIT (R21, R22). -/
def Account.ownsBalance (a : Account) : Bool := a.kind == .prepaid || a.kind == .credit

/-- The balance of an account, replaced. -/
def State.setBalance (s : State) (n : Nat) (x : Int) : State :=
  s.modifyAccount n fun a => { a with balance := x }

/-! ### LOAD ACCOUNT (R18, R19) -/

/-- LOAD ACCOUNT's work: the checks of R18 in order, then the record of R19. -/
def loadAccountWork (f : LoadForm) (s : State) : State × Response :=
  match f.asRecord with
  | none => unchanged (bare .invalid) s
  | some a =>
    if (s.account a.number).isSome then unchanged (bare .exists_) s
    else if Config.maxAccounts ≤ s.accounts.length then unchanged (bare .full) s
    else
      match a.payer with
      | none => (s.addAccount a, bare .ok)
      | some p =>
        match s.payerFault p with
        | some fault => unchanged (bare fault) s
        | none => ((s.addAccount a).addMember p, bare .ok)

/-- LOAD ACCOUNT. -/
def execLoadAccount (f : LoadForm) (s : State) : Host.Outcome State Fault Refusal :=
  s.hostCommand (.loadAccount f) (loadAccountWork f)

/-! ### UPDATE ACCOUNT (R20) -/

/-- The member counts after a payer change from `old` to `p` (R20). -/
def State.movePayer (s : State) (old : Option Nat) (p : Nat) : State :=
  if old = some p then s
  else
    match old with
    | none => s.addMember p
    | some q => (s.dropMember q).addMember p

/-- The update of account `a`, every check passed: fields replaced, member counts moved, the retry asked
for when a limit or a cap gave room (R20, R66). -/
def State.updateAccount (s : State) (f : UpdateForm) (a : Account) : State :=
  let s1 := s.modifyAccount a.number f.applyTo
  let s2 := match f.payer? with
    | none => s1
    | some p => s1.movePayer a.payer p
  if f.raises a then s2.askRetry (f.applyTo a).billingNumber else s2

/-- UPDATE ACCOUNT's work: the checks of R20 in order. Any payer supplied counts as a new payer for check
4, the present one too (DESIGN CHOICE, log 32). -/
def updateAccountWork (f : UpdateForm) (s : State) : State × Response :=
  withAccount f.number (fun a s =>
    if a.kind = .transient then unchanged (bare .refusedState) s
    else if !f.valid a.kind then unchanged (bare .invalid) s
    else if f.payer?.isSome ∧ 0 < a.openJobs then unchanged (bare .busy) s
    else
      match f.payer?.bind s.payerFault with
      | some fault => unchanged (bare fault) s
      | none => (s.updateAccount f a, bare .ok)) s

/-- UPDATE ACCOUNT. -/
def execUpdateAccount (f : UpdateForm) (s : State) : Host.Outcome State Fault Refusal :=
  s.hostCommand (.updateAccount f) (updateAccountWork f)

/-! ### CREDIT and DEBIT (R21, R22) -/

/-- An amount of CREDIT or DEBIT in its range. -/
def transferInRange (x : Int) : Bool := decide (1 ≤ x) && decide (x ≤ Config.transferTop)

/-- CREDIT's work (R21). R21 gives its refusals no order; an amount outside the range is refused first
(DESIGN CHOICE, log 31). -/
def creditWork (n : Nat) (x : Int) (s : State) : State × Response :=
  if !transferInRange x then unchanged (bare .invalid) s
  else
    withAccount n (fun a s =>
      if !a.ownsBalance then unchanged (bare .refusedState) s
      else if Config.balanceTop < a.balance + x then unchanged (bare .limit) s
      else ((s.setBalance n (a.balance + x)).askRetry n, answer .ok (beCents (a.balance + x)))) s

/-- CREDIT. -/
def execCredit (n : Nat) (x : Int) (s : State) : Host.Outcome State Fault Refusal :=
  s.hostCommand (.credit n x) (creditWork n x)

/-- DEBIT's work (R22). R22 gives its refusals no order; an amount outside the range is refused first
(DESIGN CHOICE, log 31). -/
def debitWork (n : Nat) (x : Int) (s : State) : State × Response :=
  if !transferInRange x then unchanged (bare .invalid) s
  else
    withAccount n (fun a s =>
      if !a.ownsBalance then unchanged (bare .refusedState) s
      else if a.balance - x < Config.balanceBottom then unchanged (bare .limit) s
      else (s.setBalance n (a.balance - x), answer .ok (beCents (a.balance - x)))) s

/-- DEBIT. -/
def execDebit (n : Nat) (x : Int) (s : State) : Host.Outcome State Fault Refusal :=
  s.hostCommand (.debit n x) (debitWork n x)

/-! ### BLOCK and UNBLOCK (R23, R24) -/

/-- The state of a registered account replaced. -/
def State.setAccountState (s : State) (n : Nat) (state : AccountState) : State :=
  s.modifyAccount n fun a => { a with state := state }

/-- The account is the user account or the billing account of the job. -/
def Job.concerns (j : Job) (n : Nat) : Bool := j.user == n || j.billing == n

/-- An end request ACCOUNT_BLOCKED at this station when its open job concerns the account (R23). -/
def State.blockAt (n : Nat) (s : State) (i : StationId) : State :=
  if (s.station i).job.any fun j => j.concerns n then s.requestEnd i .accountBlocked else s

/-- The end requests of a BLOCK, station by station in ascending number (R23; log 9). -/
def State.blockJobs (s : State) (n : Nat) : State := allStations.foldl (State.blockAt n) s

/-- BLOCK's work (R23). -/
def blockWork (n : Nat) (s : State) : State × Response :=
  withAccount n (fun a s =>
    if a.kind = .transient then unchanged (bare .refusedState) s
    else if a.state = .closing then (s.blockJobs n, bare .ok)
    else ((s.setAccountState n .blocked).blockJobs n, bare .ok)) s

/-- BLOCK. -/
def execBlock (n : Nat) (s : State) : Host.Outcome State Fault Refusal :=
  s.hostCommand (.block n) (blockWork n)

/-- UNBLOCK's work (R24). -/
def unblockWork (n : Nat) (s : State) : State × Response :=
  withAccount n (fun a s =>
    if a.kind = .transient ∨ a.state = .closing then unchanged (bare .refusedState) s
    else (s.setAccountState n .active, bare .ok)) s

/-- UNBLOCK. -/
def execUnblock (n : Nat) (s : State) : Host.Outcome State Fault Refusal :=
  s.hostCommand (.unblock n) (unblockWork n)

/-! ### RETIRE ACCOUNT (R25, R26) -/

/-- RETIRE ACCOUNT's work (R25). -/
def retireAccountWork (n : Nat) (s : State) : State × Response :=
  withAccount n (fun a s =>
    if a.kind = .transient then
      (if a.state = .settled then (s.removeAccount n, bare .ok) else unchanged (bare .busy) s)
    else if 0 < a.memberCount then unchanged (bare .busy) s
    else if 0 < a.openJobs then (s.setAccountState n .closing, bare .deferred)
    else (s.removeAccount n, bare .ok)) s

/-- RETIRE ACCOUNT. -/
def execRetireAccount (n : Nat) (s : State) : Host.Outcome State Fault Refusal :=
  s.hostCommand (.retireAccount n) (retireAccountWork n)

/-! ### CLOSE PERIOD (R27) -/

/-- Impressions of the sheets of both lists of a station. -/
def Station.sheetImpressions (st : Station) : Nat := ((st.path ++ st.disputed).map Sheet.impressions).sum

/-- Impressions now in path or disputed at every station whose open job is billed to the account (R27). -/
def State.impressionsInPath (s : State) (n : Nat) : Nat :=
  (allStations.map fun i =>
    if (s.station i).job.map Job.billing = some n then (s.station i).sheetImpressions else 0).sum

/-- The period figures of one account, closed (R27). -/
def Account.periodClosed (a : Account) (inPath : Nat) : Account :=
  { a with periodCharges := 0, classCounts := zeroCounts, meter := inPath, meterSaturated := false }

/-- Every account closed that `chosen` picks (R27). -/
def State.closePeriods (s : State) (chosen : Account → Bool) : State :=
  { s with
    accounts := s.accounts.map fun a =>
      if chosen a then a.periodClosed (s.impressionsInPath a.number) else a }

/-- CLOSE PERIOD's work; number 0 names ALL (R27, R192). -/
def closePeriodWork (n : Nat) (s : State) : State × Response :=
  if n = 0 then (s.closePeriods fun _ => true, answer .ok (count 2 s.accounts.length))
  else withAccount n (fun _ s => (s.closePeriods fun a => a.number == n, bare .ok)) s

/-- CLOSE PERIOD. -/
def execClosePeriod (n : Nat) (s : State) : Host.Outcome State Fault Refusal :=
  s.hostCommand (.closePeriod n) (closePeriodWork n)

/-! ### READ ACCOUNT and LIST ACCOUNTS (R28, R29) -/

/-- READ ACCOUNT's response (R28, R196). -/
def State.readAccountResponse (s : State) (n : Nat) : Response :=
  match s.account n with
  | none => bare .notFound
  | some a => answer .ok (s.accountBytes a)

/-- READ ACCOUNT. -/
def execReadAccount (n : Nat) (s : State) : Host.Outcome State Fault Refusal :=
  s.hostCommand (.readAccount n) (reading fun s => s.readAccountResponse n)

/-- LIST ACCOUNTS' response: the lowest number above the argument, its kind, state and open jobs (R29). -/
def State.listAccountsResponse (s : State) (above : Nat) : Response :=
  match s.accounts.find? fun a => decide (above < a.number) with
  | none => bare .notFound
  | some a =>
    answer .ok (count 2 a.number ++ count 1 a.kind.code ++ count 1 a.state.code ++ count 1 a.openJobs)

/-- LIST ACCOUNTS. -/
def execListAccounts (above : Nat) (s : State) : Host.Outcome State Fault Refusal :=
  s.hostCommand (.listAccounts above) fun s => (s, s.listAccountsResponse above)

/-! ### The token commands (R15 to R17) -/

/-- BIND TOKEN's work: the checks of R16 in order. -/
def bindTokenWork (t : Token) (n : Nat) (s : State) : State × Response :=
  if t = 0#64 then unchanged (bare .invalid) s
  else
    withAccount n (fun a s =>
      if a.kind = .transient ∨ a.state = .closing then unchanged (bare .refusedState) s
      else if (s.tokenAccount t).isSome then unchanged (bare .exists_) s
      else if Config.maxTokensPerAccount ≤ a.tokens.length ∨ Config.maxTokens ≤ s.tokens.length then
        unchanged (bare .full) s
      else (s.bindToken t n, bare .ok)) s

/-- BIND TOKEN. -/
def execBindToken (t : Token) (n : Nat) (s : State) : Host.Outcome State Fault Refusal :=
  s.hostCommand (.bindToken t n) (bindTokenWork t n)

/-- UNBIND TOKEN's work (R17). -/
def unbindTokenWork (t : Token) (s : State) : State × Response :=
  if t = 0#64 then unchanged (bare .invalid) s
  else
    match s.tokenAccount t with
    | none => unchanged (bare .notFound) s
    | some n =>
      if (s.account n).any fun a => a.kind == .transient then unchanged (bare .refusedState) s
      else (s.unbindToken t n, answer .ok (count 2 n))

/-- UNBIND TOKEN. -/
def execUnbindToken (t : Token) (s : State) : Host.Outcome State Fault Refusal :=
  s.hostCommand (.unbindToken t) (unbindTokenWork t)

/-- FIND TOKEN's response (R15). -/
def State.findTokenResponse (s : State) (t : Token) : Response :=
  if t = 0#64 then bare .invalid
  else
    match (s.tokenAccount t).bind s.account with
    | none => bare .notFound
    | some a => answer .ok (count 2 a.number ++ count 1 a.kind.code ++ count 1 a.state.code)

/-- FIND TOKEN. -/
def execFindToken (t : Token) (s : State) : Host.Outcome State Fault Refusal :=
  s.hostCommand (.findToken t) fun s => (s, s.findTokenResponse t)

end Sys2Proof.Machine
end

