-- ==== Sys2Proof/Machine/BusEvents.lean ====
section
/-! DEFINITION. The events of the reader bus (Chapter 7): poll periods, slots and the ends of transfers.
Each acts in the phase of the bus that it belongs to, and in no other (log 10). -/

namespace Sys2Proof.Machine

/-- POLL_PERIOD_START: a period start that is due is taken (R141). -/
def execPollPeriodStart (s : State) : Host.Outcome State Fault Refusal := s.event s.startPeriodIfDue

/-- PERIOD_TIMER_EXPIRY: the period timer has run out (R141). -/
def execPeriodTimerExpiry (s : State) : Host.Outcome State Fault Refusal :=
  s.event { s with bus := { s.bus with periodTimer := none } }

/-- The last byte of a BROADCAST frame has been sent (R143, R157). No frame is sent while a reader
holds the clock (log 27). -/
def State.broadcastEnd (s : State) : State :=
  match s.bus.phase, s.bus.clockHeld with
  | .broadcasting _, false => { s with bus := { s.bus with phase := restOrNext s.bus.toServe } }
  | _, _ => s

/-- BROADCAST_TRANSFER_END (R143, R157). -/
def execBroadcastTransferEnd (s : State) : Host.Outcome State Fault Refusal := s.event s.broadcastEnd

/-- SLOT_START: the next reader's slot begins (R142). -/
def execSlotStart (s : State) : Host.Outcome State Fault Refusal := s.event s.nextSlot

/-- The end of a DISPLAY transfer: its outcome on the slot, then the POLL of the same slot (R142,
R156). -/
def State.displayEnd (s : State) (delivered : Bool) : State :=
  match s.bus.phase with
  | .displaying r _ =>
    { s.modifyReader r fun x => x.afterDisplay delivered with bus := { s.bus with phase := .polling r } }
  | _ => s

/-- DISPLAY_TRANSFER_END (R156). -/
def execDisplayTransferEnd (delivered : Bool) (s : State) : Host.Outcome State Fault Refusal :=
  s.event (s.displayEnd delivered)

/-- The end of a POLL transfer: the reading of the answer with the answer limit then set, or NO_ANSWER
(R143, R144). -/
def State.pollEnd (s : State) (acknowledged : Bool) : State :=
  match s.bus.phase with
  | .polling r =>
    if acknowledged then { s with bus := { s.bus with phase := .reading r s.globals.answerLimit } }
    else (s.noAnswer r).endSlot
  | _ => s

/-- POLL_TRANSFER_END (R143). -/
def execPollTransferEnd (acknowledged : Bool) (s : State) : Host.Outcome State Fault Refusal :=
  s.event (s.pollEnd acknowledged)

/-- The clock holding of a reader reaches the answer limit: the answer is abandoned, the outcome
NO_ANSWER is applied, and with that the slot ends (R144, R142), while the reader still holds the clock
(log 27). -/
def State.limitReached (s : State) : State :=
  match s.bus.phase with
  | .reading r _ =>
    let t := (s.noAnswer r).endSlot
    { t with bus := { t.bus with clockHeld := true } }
  | _ => s

/-- ANSWER_LIMIT_EXPIRY (R144). -/
def execAnswerLimitExpiry (s : State) : Host.Outcome State Fault Refusal := s.event s.limitReached

/-- An answer read to its end: judged, its outcome applied, the slot ended (R146, R142). -/
def State.answerTaken (s : State) (frame : List Byte) : State :=
  match s.bus.phase with
  | .reading r _ => (s.takeAnswer r frame).endSlot
  | _ => s

/-- ANSWER_RECEIVED (R146). -/
def execAnswerReceived (frame : List Byte) (s : State) : Host.Outcome State Fault Refusal :=
  s.event (s.answerTaken frame)

/-- The reader lets the clock go after its answer was abandoned: the stop condition is issued and the
bus is free for the next transfer (R144; log 27). -/
def State.clockFree (s : State) : State := { s with bus := { s.bus with clockHeld := false } }

/-- CLOCK_RELEASED (R144). -/
def execClockReleased (s : State) : Host.Outcome State Fault Refusal := s.event s.clockFree

end Sys2Proof.Machine
end

