-- ==== Sys2Proof/Machine/LinkEvents.lean ====
section
/-! DEFINITION. Device reset and its release (R193), and the edges of SELn (R181 to R186). -/

namespace Sys2Proof.Machine

/-- DEVICE_RESET: RESETn is low. RDY low, ATTN and every PERMIT released; a select period in progress
and a message judged and not yet answered are abandoned (R193). -/
def execDeviceReset (s : State) : Host.Outcome State Fault Refusal :=
  .next
    { s with resetLow := true, link := { s.link with select := none, judged := none } }.drive

/-- Every block at its device-reset values, with these levels on the input pins (R193, R97). -/
def State.released (s : State) : State :=
  { State.reset with
    pending := s.pending
    stations := mapSixteen (fun _ st => Station.afterReset st.pins) s.stations }

/-- RESET_RELEASE: RESETn rises and the blocks take their device-reset values (R193). -/
def execResetRelease (s : State) : Host.Outcome State Fault Refusal := .next s.released.drive

/-- SELECT_PERIOD_START: SELn falls (R181). -/
def execSelectPeriodStart (s : State) : Host.Outcome State Fault Refusal :=
  s.event { s with link := s.link.selectStart }

/-- SELECT_PERIOD_END: SELn rises after these MOSI bytes (R182, R183). -/
def execSelectPeriodEnd (mosi : List Byte) (s : State) : Host.Outcome State Fault Refusal :=
  s.event { s with link := s.link.selectEnd mosi }

end Sys2Proof.Machine
end

