-- ==== Sys2Proof/Machine/ReaderCommands.lean ====
section
/-! DEFINITION. The commands of the Reader Bus Controller (Chapter 7) and STATUS SUMMARY (R190). -/

namespace Sys2Proof.Machine

/-- CONFIGURE READER's work (R148). -/
def configureReaderWork (address setting : Nat) (s : State) : State × Response :=
  withStation address (fun i s =>
    match strictOf setting with
    | none => unchanged (bare .invalid) s
    | some strict =>
      (s.modifyReader i fun r => { r with strictHeader := strict }, answer .ok (count 1 setting))) s

/-- CONFIGURE READER. -/
def execConfigureReader (address setting : Nat) (s : State) : Host.Outcome State Fault Refusal :=
  s.hostCommand (.configureReader address setting) (configureReaderWork address setting)

/-- READ READER's work, once the owed retries are made: the record reported, then its alarm flags
cleared unless kept (R160). -/
def readReaderWork (address : Nat) (s : State) : State × Response :=
  withStation address (fun i s => (s.modifyReader i Reader.alarmsRead, answer .ok (s.readerBytes i))) s

/-- READ READER. -/
def execReadReader (address : Nat) (s : State) : Host.Outcome State Fault Refusal :=
  s.hostCommand (.readReader address) fun s => readReaderWork address s.makeOwedRetries

/-- A value of PRESET READER COUNTERS in its range. -/
def counterInRange (n : Nat) : Bool := decide (n ≤ Config.errorCounterTop)

/-- A reader with its four error counters set (R151). -/
def Reader.preset (r : Reader) (hdrCorrected hdrBad crcBad noAnswer : Nat) : Reader :=
  { r with hdrCorrected := hdrCorrected, hdrBad := hdrBad, crcBad := crcBad, noAnswer := noAnswer }

/-- The four error counters as results (R151). -/
def Reader.counterBytes (r : Reader) : List Byte :=
  count 1 r.hdrCorrected ++ count 1 r.hdrBad ++ count 1 r.crcBad ++ count 1 r.noAnswer

/-- PRESET READER COUNTERS' work (R151). -/
def presetReaderCountersWork (address w x y z : Nat) (s : State) : State × Response :=
  withStation address (fun i s =>
    if counterInRange w && counterInRange x && counterInRange y && counterInRange z then
      (s.modifyReader i fun r => r.preset w x y z, answer .ok (s.reader i).counterBytes)
    else unchanged (bare .invalid) s) s

/-- PRESET READER COUNTERS. -/
def execPresetReaderCounters (address w x y z : Nat) (s : State) : Host.Outcome State Fault Refusal :=
  s.hostCommand (.presetReaderCounters address w x y z) (presetReaderCountersWork address w x y z)

/-- SEND SHOP MESSAGE's work (R157): the result says whether an index was replaced. -/
def sendShopMessageWork (index : Nat) (s : State) : State × Response :=
  if 15 < index then unchanged (bare .invalid) s
  else
    ({ s with bus := { s.bus with broadcast := some index } }, answer .ok (flag s.bus.broadcast.isSome))

/-- SEND SHOP MESSAGE. -/
def execSendShopMessage (index : Nat) (s : State) : Host.Outcome State Fault Refusal :=
  s.hostCommand (.sendShopMessage index) (sendShopMessageWork index)

/-- RESET READER BUS (R158). -/
def execResetReaderBus (s : State) : Host.Outcome State Fault Refusal :=
  s.hostCommand .resetReaderBus fun s => (s.resetBus, bare .ok)

/-- STATUS SUMMARY (R190). -/
def execStatusSummary (s : State) : Host.Outcome State Fault Refusal :=
  s.hostCommand .statusSummary (reading fun s => answer .ok s.summaryBytes)

end Sys2Proof.Machine
end

