-- ==== Sys2Proof/Machine/StationCommands.lean ====
section
/-! DEFINITION. The station commands (Chapters 4, 5 and 6): CONFIGURE STATION to RETURN TO SERVICE. Each
refuses with INVALID a station number outside 0 to 15 before any other check (section 4.4). -/

namespace Sys2Proof.Machine

/-- The state of a station as a result byte (R190). -/
def State.stateByte (s : State) (i : StationId) : List Byte := count 1 (s.station i).state.code

/-! ### CONFIGURE STATION (R102, R103) -/

/-- CONFIGURE STATION's work: the checks of R102 in order, the re-arming of R103. -/
def configureStationWork (station : Nat) (f : ConfigForm) (s : State) : State × Response :=
  withStation station (fun i s =>
    match f.named with
    | none => unchanged (bare .invalid) s
    | some c =>
      if !c.modesAgree then unchanged (bare .invalid) s
      else if (s.station i).state = .disabled ∨ (s.station i).state = .idle then
        (s.modifyStation i fun st => st.configured c, answer .ok (configBytes c))
      else unchanged (bare .busy) s) s

/-- CONFIGURE STATION. -/
def execConfigureStation (station : Nat) (f : ConfigForm) (s : State) : Host.Outcome State Fault Refusal :=
  s.hostCommand (.configureStation station f) (configureStationWork station f)

/-! ### ENABLE, DISABLE, SET STATION TARIFF (R91 to R93) -/

/-- ENABLE STATION's work (R91; log 18 for the result of a refusal). -/
def enableStationWork (station : Nat) (s : State) : State × Response :=
  withStation station (fun i s =>
    match (s.station i).state with
    | .disabled => (s.enter i .idle, answer .ok ((s.enter i .idle).stateByte i))
    | .outOfService => unchanged (answer .refusedState (s.stateByte i)) s
    | _ => unchanged (answer .ok (s.stateByte i)) s) s

/-- ENABLE STATION. -/
def execEnableStation (station : Nat) (s : State) : Host.Outcome State Fault Refusal :=
  s.hostCommand (.enableStation station) (enableStationWork station)

/-- DISABLE STATION's work (R92). -/
def disableStationWork (station : Nat) (s : State) : State × Response :=
  withStation station (fun i s =>
    match (s.station i).state with
    | .idle => (s.enter i .disabled, bare .ok)
    | .outOfService => (s.enter i .disabled, bare .ok)
    | .disabled => unchanged (bare .ok) s
    | _ => unchanged (bare .busy) s) s

/-- DISABLE STATION. -/
def execDisableStation (station : Nat) (s : State) : Host.Outcome State Fault Refusal :=
  s.hostCommand (.disableStation station) (disableStationWork station)

/-- SET STATION TARIFF's work (R93). -/
def setStationTariffWork (station letter : Nat) (s : State) : State × Response :=
  withStation station (fun i s =>
    match fourOf letter with
    | none => unchanged (bare .invalid) s
    | some l => (s.modifyStation i fun st => { st with tariff := l }, answer .ok (count 1 l.val))) s

/-- SET STATION TARIFF. -/
def execSetStationTariff (station letter : Nat) (s : State) : Host.Outcome State Fault Refusal :=
  s.hostCommand (.setStationTariff station letter) (setStationTariffWork station letter)

/-! ### READ STATION and READ STATION ALARMS (R95, R139) -/

/-- READ STATION's response (R95, R117, R139, R197). -/
def State.readStationResponse (s : State) (station : Nat) : Response :=
  match stationOf station with
  | none => bare .invalid
  | some i => answer .ok (s.stationBytes i)

/-- READ STATION. -/
def execReadStation (station : Nat) (s : State) : Host.Outcome State Fault Refusal :=
  s.hostCommand (.readStation station) (reading fun s => s.readStationResponse station)

/-- READ STATION ALARMS' work, once the owed retries are made: the flags and the state reported, then
the flags without a keeping condition cleared (R139). -/
def alarmsWork (station : Nat) (s : State) : State × Response :=
  withStation station (fun i s =>
    (s.modifyStation i fun st => { st with alarms := st.alarms.kept st.state },
      answer .ok (count 1 (s.station i).alarms.mask ++ s.stateByte i))) s

/-- READ STATION ALARMS. -/
def execReadStationAlarms (station : Nat) (s : State) : Host.Outcome State Fault Refusal :=
  s.hostCommand (.readStationAlarms station) fun s => alarmsWork station s.makeOwedRetries

/-! ### OPEN JOB and END JOB (R88, R89) -/

/-- The status of an OPEN JOB refused by an opening check (Table 3-2). -/
def openRefusal (check : Nat) : Status :=
  match check with
  | 1 => .busy
  | 2 => .invalid
  | 3 => .refusedState
  | 4 => .refusedState
  | _ => .limit

/-- OPEN JOB's work (R88). -/
def openJobWork (station n : Nat) (s : State) : State × Response :=
  withStation station (fun i s =>
    withAccount n (fun u s =>
      match s.openingCheck i u false with
      | some check => unchanged (answer (openRefusal check) (count 1 check)) s
      | none =>
        (s.openAt i u .host,
          answer .ok (beCents (s.openingHold i u) ++ beCents (s.available u)))) s) s

/-- OPEN JOB. -/
def execOpenJob (station n : Nat) (s : State) : Host.Outcome State Fault Refusal :=
  s.hostCommand (.openJob station n) (openJobWork station n)

/-- The end cause the job of a station holds once `cause` is requested (R68). -/
def State.causeStanding (s : State) (i : StationId) (cause : EndCause) : EndCause :=
  ((s.station i).job.bind Job.endRequest).getD cause

/-- END JOB at a station with an open job: the request, the state after it and the cause that stands
(R89; log 17). -/
def State.endJobAt (s : State) (i : StationId) : State × Response :=
  let after := s.requestEnd i .hostEnd
  (after, answer .ok (after.stateByte i ++ count 1 (s.causeStanding i .hostEnd).place))

/-- END JOB's work (R89). -/
def endJobWork (station : Nat) (s : State) : State × Response :=
  withStation station (fun i s =>
    match (s.station i).state with
    | .running => s.endJobAt i
    | .held => s.endJobAt i
    | .closing => s.endJobAt i
    | .jammed => s.endJobAt i
    | .opening => (s.cancelWalkup i, answer .ok ((s.cancelWalkup i).stateByte i))
    | .idle => unchanged (bare .refusedState) s
    | .disabled => unchanged (bare .refusedState) s
    | .outOfService => unchanged (bare .refusedState) s) s

/-- END JOB. -/
def execEndJob (station : Nat) (s : State) : Host.Outcome State Fault Refusal :=
  s.hostCommand (.endJob station) (endJobWork station)

/-! ### CLEAR JAM, RESET STATION, RETURN TO SERVICE (R129, R135 to R137) -/

/-- The charge of the last settlement of a station. -/
def State.lastCharge (s : State) (i : StationId) : List Byte :=
  beCents (((s.station i).lastJob.map LastJob.charge).getD 0)

/-- CLEAR JAM's results after the clear: sheets voided, state, and the charge when the job closed
(R129). -/
def State.clearResults (after : State) (i : StationId) (voided : Nat) : List Byte :=
  count 1 voided ++ after.stateByte i ++
    (if (after.station i).job.isNone then after.lastCharge i else [])

/-- CLEAR JAM's work (R129). -/
def clearJamWork (station : Nat) (s : State) : State × Response :=
  withStation station (fun i s =>
    if (s.station i).state = .jammed then
      (s.jamClear i, answer .ok ((s.jamClear i).clearResults i (s.station i).disputed.length))
    else unchanged (bare .refusedState) s) s

/-- CLEAR JAM. -/
def execClearJam (station : Nat) (s : State) : Host.Outcome State Fault Refusal :=
  s.hostCommand (.clearJam station) (clearJamWork station)

/-- RESET STATION at a station with an open job: state, sheets voided, charge (R136). -/
def State.resetJobAt (s : State) (i : StationId) : State × Response :=
  let voided := (s.station i).disputed.length + (s.station i).path.length
  let after := s.resetJob i
  (after, answer .ok (after.stateByte i ++ count 1 voided ++ after.lastCharge i))

/-- RESET STATION's work (R136, R137). -/
def resetStationWork (station : Nat) (s : State) : State × Response :=
  withStation station (fun i s =>
    match (s.station i).state with
    | .running => s.resetJobAt i
    | .held => s.resetJobAt i
    | .closing => s.resetJobAt i
    | .jammed => s.resetJobAt i
    | .opening => (s.cancelWalkup i, answer .ok ((s.cancelWalkup i).stateByte i))
    | .idle => unchanged (answer .ok (s.stateByte i)) s
    | .disabled => unchanged (answer .ok (s.stateByte i)) s
    | .outOfService => unchanged (answer .ok (s.stateByte i)) s) s

/-- RESET STATION. -/
def execResetStation (station : Nat) (s : State) : Host.Outcome State Fault Refusal :=
  s.hostCommand (.resetStation station) (resetStationWork station)

/-- RETURN TO SERVICE's work (R135). -/
def returnToServiceWork (station : Nat) (s : State) : State × Response :=
  withStation station (fun i s =>
    if (s.station i).state = .outOfService then
      (if (s.station i).filtered.jam then unchanged (bare .busy) s else (s.enter i .idle, bare .ok))
    else unchanged (bare .refusedState) s) s

/-- RETURN TO SERVICE. -/
def execReturnToService (station : Nat) (s : State) : Host.Outcome State Fault Refusal :=
  s.hostCommand (.returnToService station) (returnToServiceWork station)

end Sys2Proof.Machine
end

