-- ==== Sys2Proof/Machine/StationEvents.lean ====
section
/-! DEFINITION. The events at the stations: the retry of held stations (R65), the levels and filter
timers of the copier lines (R99), and the expiry of the permit delay, idle, drain, jam and
authorisation timers. An expiry acts on a running timer alone (log 3). -/

namespace Sys2Proof.Machine

/-- RETRY_OF_HELD_STATIONS for one billing account (R65); one retry owed to it is thereby made. Where none
is owed the row makes a retry all the same (DESIGN CHOICE, log 7). -/
def execRetryOfHeldStations (account : Nat) (s : State) : Host.Outcome State Fault Refusal :=
  s.event { s.retry account with retryOwed := s.retryOwed.erase account }

/-- LINE_LEVEL_CHANGE: a pin goes to the level `high` (R97, R99). A pin that has the level already
changes nothing; while RESETn is low the level is noted and nothing else happens (log 11). -/
def execLineLevelChange (i : StationId) (l : InputLine) (high : Bool) (s : State) :
    Host.Outcome State Fault Refusal :=
  if (s.station i).pins.get l = high then .next s
  else if s.resetLow then .next (s.modifyStation i fun st => { st with pins := st.pins.put l high })
  else .next (s.modifyStation i fun st => st.levelChange l high).drive

/-- The filtered line of a station takes its raw level, its filter timer stopped (R99). -/
def Station.follow (st : Station) (l : FilteredLine) : Station :=
  { st with
    filterTimers := st.filterTimers.put l none
    filtered := st.filtered.put l (st.raw (filteredInput l)) }

/-- A filter timer that runs expires: the filtered state follows, with the activation or release that
this is (R99). -/
def State.filterExpiry (s : State) (i : StationId) (l : FilteredLine) : State :=
  if ((s.station i).filterTimers.get l).isNone then s
  else
    let active := (s.station i).raw (filteredInput l)
    let s1 := s.modifyStation i fun st => st.follow l
    if active = (s.station i).filtered.get l then s1 else s1.lineEdge i l active

/-- FILTER_TIMER_EXPIRY (R99). -/
def execFilterTimerExpiry (i : StationId) (l : FilteredLine) (s : State) :
    Host.Outcome State Fault Refusal :=
  s.event (s.filterExpiry i l)

/-- PERMIT_DELAY_EXPIRY: the timer stops and PERMIT is driven anew (R114). -/
def execPermitDelayExpiry (i : StationId) (s : State) : Host.Outcome State Fault Refusal :=
  s.event (s.modifyStation i fun st => { st with permitDelay := none })

/-- The idle timer of a job that runs expires: an end request IDLE_TIMEOUT (R72). -/
def State.idleExpiry (s : State) (i : StationId) : State :=
  if ((s.station i).job.bind Job.idleTimer).isNone then s
  else (s.modifyJob i fun j => { j with idleTimer := none }).requestEnd i .idleTimeout

/-- IDLE_TIMER_EXPIRY (R72). -/
def execIdleTimerExpiry (i : StationId) (s : State) : Host.Outcome State Fault Refusal :=
  s.event (s.idleExpiry i)

/-- DRAIN_TIMER_EXPIRY: a jam entry with cause DRAIN_TIMEOUT (R122). -/
def execDrainTimerExpiry (i : StationId) (s : State) : Host.Outcome State Fault Refusal :=
  s.event (if (s.station i).drainTimer.isNone then s else s.jamEntry i .drainTimeout)

/-- JAM_TIMEOUT (R132). -/
def execJamTimeout (i : StationId) (s : State) : Host.Outcome State Fault Refusal :=
  s.event (if (s.station i).jamTimer.isNone then s else s.jamTimedOut i)

/-- The authorisation timer of a PENDING record expires: the record removed with NO_RESPONSE (R174). -/
def State.authExpiry (s : State) (n : Nat) : State :=
  match s.account n with
  | none => s
  | some a =>
    match a.isPending, a.walkup with
    | true, some w => if w.authTimer.isNone then s else s.endWalkup a w.station .noResponse
    | _, _ => s

/-- AUTH_TIMER_EXPIRY (R174). -/
def execAuthTimerExpiry (n : Nat) (s : State) : Host.Outcome State Fault Refusal :=
  s.event (s.authExpiry n)

end Sys2Proof.Machine
end

