-- ==== Sys2Proof/Machine/TariffCommands.lean ====
section
/-! DEFINITION. The commands of the Price Unit (Chapter 2), WRITE and READ TARIFF, WRITE and READ
SCHEDULE, and SET GLOBALS of the Host Link Interface (Chapter 9). -/

namespace Sys2Proof.Machine

/-- WRITE TARIFF's work: the checks of R33, then the replacement of R34. -/
def writeTariffWork (letter : Nat) (f : TariffForm) (s : State) : State × Response :=
  match fourOf letter with
  | none => unchanged (bare .invalid) s
  | some l =>
    if f.valid then
      ({ s with tariffs := s.tariffs.set l f.table }, answer .ok (reserveBytes f.table.reserve))
    else unchanged (bare .invalid) s

/-- WRITE TARIFF. -/
def execWriteTariff (letter : Nat) (f : TariffForm) (s : State) : Host.Outcome State Fault Refusal :=
  s.hostCommand (.writeTariff letter f) (writeTariffWork letter f)

/-- READ TARIFF's response (R35). -/
def State.readTariffResponse (s : State) (letter : Nat) : Response :=
  match fourOf letter with
  | none => bare .invalid
  | some l => answer .ok (tariffBytes s.tariffs[l])

/-- READ TARIFF. -/
def execReadTariff (letter : Nat) (s : State) : Host.Outcome State Fault Refusal :=
  s.hostCommand (.readTariff letter) fun s => (s, s.readTariffResponse letter)

/-- WRITE SCHEDULE's work (R38). -/
def writeScheduleWork (number : Nat) (f : ScheduleForm) (s : State) : State × Response :=
  match fourOf number with
  | none => unchanged (bare .invalid) s
  | some n =>
    if f.valid then ({ s with schedules := s.schedules.set n f.table }, bare .ok)
    else unchanged (bare .invalid) s

/-- WRITE SCHEDULE. -/
def execWriteSchedule (number : Nat) (f : ScheduleForm) (s : State) : Host.Outcome State Fault Refusal :=
  s.hostCommand (.writeSchedule number f) (writeScheduleWork number f)

/-- READ SCHEDULE's response (R39). -/
def State.readScheduleResponse (s : State) (number : Nat) : Response :=
  match fourOf number with
  | none => bare .invalid
  | some n => answer .ok (scheduleBytes s.schedules[n])

/-- READ SCHEDULE. -/
def execReadSchedule (number : Nat) (s : State) : Host.Outcome State Fault Refusal :=
  s.hostCommand (.readSchedule number) fun s => (s, s.readScheduleResponse number)

/-- SET GLOBALS' work (R191). -/
def setGlobalsWork (settings : Option GlobalsForm) (s : State) : State × Response :=
  match settings with
  | none => unchanged (answer .ok (globalsBytes s.globals)) s
  | some f =>
    match f.taken with
    | none => unchanged (bare .invalid) s
    | some g => ({ s with globals := g }, answer .ok (globalsBytes g))

/-- SET GLOBALS. -/
def execSetGlobals (settings : Option GlobalsForm) (s : State) : Host.Outcome State Fault Refusal :=
  s.hostCommand (.setGlobals settings) (setGlobalsWork settings)

end Sys2Proof.Machine
end

