-- ==== Sys2Proof/Machine/WalkupCommands.lean ====
section
/-! DEFINITION. The commands of the Walk-up Authorisation Unit (Chapter 8): TAKE AUTH REQUEST and AUTH
RESULT. -/

namespace Sys2Proof.Machine

/-! ### TAKE AUTH REQUEST (R169) -/

/-- The record with its request TAKEN. -/
def Account.asTaken (a : Account) : Account :=
  { a with walkup := a.walkup.map fun w => { w with requestState := some .taken } }

/-- The results of TAKE AUTH REQUEST for a record (R169): reference, station, token, requested amount,
account number, time left. -/
def Account.requestBytes (a : Account) : List Byte :=
  count 2 (absentAs0 a.walkup Walkup.authRef) ++ count 1 (absentAs0 a.walkup fun w => w.station.val) ++
    tokenBytes (a.tokens.head?.getD 0#64) ++ beCents (absentAs0 a.walkup Walkup.requested) ++
    count 2 a.number ++ count 4 (timerLeftMs (a.walkup.bind Walkup.authTimer))

/-- TAKE AUTH REQUEST's work (R169). -/
def takeAuthRequestWork (s : State) : State × Response :=
  match s.wau.waiting with
  | [] => unchanged (bare .notFound) s
  | n :: rest =>
    ((s.setWalkupUnit { s.wau with waiting := rest }).modifyAccount n Account.asTaken,
      answer .ok (((s.account n).map Account.requestBytes).getD []))

/-- TAKE AUTH REQUEST. -/
def execTakeAuthRequest (s : State) : Host.Outcome State Fault Refusal :=
  s.hostCommand .takeAuthRequest takeAuthRequestWork

/-! ### AUTH RESULT (R170 to R172) -/

/-- A result as AUTH RESULT gives it: declined, or approved with a grant. -/
inductive AuthOutcome where
  | declined
  | approved (grant : Nat)
deriving DecidableEq, Repr

/-- The outcome that the arguments name; `none` is malformed (R170 check 1; log 19). -/
def authOutcome (reference outcome : Nat) (granted : Option Int) : Option AuthOutcome :=
  match outcome, granted with
  | 0, some g =>
    if reference ≠ 0 ∧ 0 ≤ g ∧ g ≤ Config.grantTop then some (.approved g.toNat) else none
  | 1, _ => if reference ≠ 0 then some .declined else none
  | _, _ => none

/-- The TAKEN PENDING record with this reference, with its walk-up fields (R170 check 2). -/
def State.takenRecord (s : State) (reference : Nat) : Option (Account × Walkup) :=
  match s.accounts.find? fun a => a.pendsWith reference with
  | none => none
  | some a =>
    match a.walkup with
    | none => none
    | some w => if w.requestState = some .taken then some (a, w) else none

/-- A DECLINED result applied (R171). -/
def State.declineResult (s : State) (a : Account) (w : Walkup) : State × Response :=
  (s.endWalkup a w.station .declined, answer .ok (count 1 w.station.val))

/-- An approval that opens no job (R171): the record removed, the grant reported. -/
def State.unusedResult (s : State) (a : Account) (w : Walkup) (grant : Nat) : State × Response :=
  (s.endWalkup a w.station .declined, answer .approvedUnused (count 1 w.station.val ++ beCents grant))

/-- An APPROVED result applied (R172): `given` is the amount supplied. -/
def State.approveResult (s : State) (a : Account) (w : Walkup) (given : Nat) : State × Response :=
  let grant := min given w.requested
  let b := a.withGrant grant
  let s1 := s.modifyAccount a.number fun x => x.withGrant grant
  if !(s1.tariffOf w.station).isDefined then s1.unusedResult b w grant
  else
    match s1.openingCheck w.station b true with
    | some _ => s1.unusedResult b w grant
    | none =>
      (s1.openWalkup w.station b,
        answer (if w.requested < given then .clamped else .ok)
          (count 1 w.station.val ++ count 2 a.number ++ beCents (s1.openingHold w.station b)))

/-- AUTH RESULT's work (R170). -/
def authResultWork (reference outcome : Nat) (granted : Option Int) (s : State) : State × Response :=
  match authOutcome reference outcome granted with
  | none => unchanged (bare .invalid) s
  | some result =>
    match s.takenRecord reference with
    | none => unchanged (bare .noRequest) s
    | some (a, w) =>
      match result with
      | .declined => s.declineResult a w
      | .approved grant => s.approveResult a w grant

/-- AUTH RESULT. -/
def execAuthResult (reference outcome : Nat) (granted : Option Int) (s : State) :
    Host.Outcome State Fault Refusal :=
  s.hostCommand (.authResult reference outcome granted) (authResultWork reference outcome granted)

end Sys2Proof.Machine
end

