-- ==== Sys2Proof/Machine/Dispatch.lean ====
section
/-! DEFINITION. One arm for each command of spec/opcode_table.json, in the table's order. -/

namespace Sys2Proof.Machine

/-- The effect of a command on everything but the queue. -/
def exec (i : Instr) (s : State) : Host.Outcome State Fault Refusal :=
  match i with
  | .deviceReset => Sys2Proof.Machine.execDeviceReset s
  | .resetRelease => Sys2Proof.Machine.execResetRelease s
  | .selectPeriodStart => Sys2Proof.Machine.execSelectPeriodStart s
  | .selectPeriodEnd mosi => Sys2Proof.Machine.execSelectPeriodEnd mosi s
  | .loadAccount form => Sys2Proof.Machine.execLoadAccount form s
  | .updateAccount form => Sys2Proof.Machine.execUpdateAccount form s
  | .credit number amount => Sys2Proof.Machine.execCredit number amount s
  | .debit number amount => Sys2Proof.Machine.execDebit number amount s
  | .block number => Sys2Proof.Machine.execBlock number s
  | .unblock number => Sys2Proof.Machine.execUnblock number s
  | .retireAccount number => Sys2Proof.Machine.execRetireAccount number s
  | .closePeriod number => Sys2Proof.Machine.execClosePeriod number s
  | .readAccount number => Sys2Proof.Machine.execReadAccount number s
  | .listAccounts above => Sys2Proof.Machine.execListAccounts above s
  | .bindToken token number => Sys2Proof.Machine.execBindToken token number s
  | .unbindToken token => Sys2Proof.Machine.execUnbindToken token s
  | .findToken token => Sys2Proof.Machine.execFindToken token s
  | .writeTariff letter form => Sys2Proof.Machine.execWriteTariff letter form s
  | .readTariff letter => Sys2Proof.Machine.execReadTariff letter s
  | .writeSchedule number form => Sys2Proof.Machine.execWriteSchedule number form s
  | .readSchedule number => Sys2Proof.Machine.execReadSchedule number s
  | .setGlobals settings => Sys2Proof.Machine.execSetGlobals settings s
  | .configureStation station form => Sys2Proof.Machine.execConfigureStation station form s
  | .enableStation station => Sys2Proof.Machine.execEnableStation station s
  | .disableStation station => Sys2Proof.Machine.execDisableStation station s
  | .setStationTariff station letter => Sys2Proof.Machine.execSetStationTariff station letter s
  | .readStation station => Sys2Proof.Machine.execReadStation station s
  | .readStationAlarms station => Sys2Proof.Machine.execReadStationAlarms station s
  | .openJob station number => Sys2Proof.Machine.execOpenJob station number s
  | .endJob station => Sys2Proof.Machine.execEndJob station s
  | .clearJam station => Sys2Proof.Machine.execClearJam station s
  | .resetStation station => Sys2Proof.Machine.execResetStation station s
  | .returnToService station => Sys2Proof.Machine.execReturnToService station s
  | .configureReader address setting => Sys2Proof.Machine.execConfigureReader address setting s
  | .readReader address => Sys2Proof.Machine.execReadReader address s
  | .presetReaderCounters address hdrCorrected hdrBad crcBad noAnswer => Sys2Proof.Machine.execPresetReaderCounters address hdrCorrected hdrBad crcBad noAnswer s
  | .sendShopMessage index => Sys2Proof.Machine.execSendShopMessage index s
  | .resetReaderBus => Sys2Proof.Machine.execResetReaderBus s
  | .takeAuthRequest => Sys2Proof.Machine.execTakeAuthRequest s
  | .authResult reference outcome granted => Sys2Proof.Machine.execAuthResult reference outcome granted s
  | .statusSummary => Sys2Proof.Machine.execStatusSummary s
  | .retryOfHeldStations account => Sys2Proof.Machine.execRetryOfHeldStations account s
  | .lineLevelChange station line high => Sys2Proof.Machine.execLineLevelChange station line high s
  | .filterTimerExpiry station line => Sys2Proof.Machine.execFilterTimerExpiry station line s
  | .permitDelayExpiry station => Sys2Proof.Machine.execPermitDelayExpiry station s
  | .idleTimerExpiry station => Sys2Proof.Machine.execIdleTimerExpiry station s
  | .drainTimerExpiry station => Sys2Proof.Machine.execDrainTimerExpiry station s
  | .jamTimeout station => Sys2Proof.Machine.execJamTimeout station s
  | .authTimerExpiry number => Sys2Proof.Machine.execAuthTimerExpiry number s
  | .pollPeriodStart => Sys2Proof.Machine.execPollPeriodStart s
  | .periodTimerExpiry => Sys2Proof.Machine.execPeriodTimerExpiry s
  | .broadcastTransferEnd => Sys2Proof.Machine.execBroadcastTransferEnd s
  | .slotStart => Sys2Proof.Machine.execSlotStart s
  | .displayTransferEnd delivered => Sys2Proof.Machine.execDisplayTransferEnd delivered s
  | .pollTransferEnd acknowledged => Sys2Proof.Machine.execPollTransferEnd acknowledged s
  | .answerLimitExpiry => Sys2Proof.Machine.execAnswerLimitExpiry s
  | .answerReceived frame => Sys2Proof.Machine.execAnswerReceived frame s
  | .clockReleased => Sys2Proof.Machine.execClockReleased s

end Sys2Proof.Machine
end

