-- ==== Sys2Proof/Machine/Time.lean ====
section
/-! DEFINITION. What the part does on an empty queue (log 2): the event of its own that is due, if any,
otherwise 0.1 ms of time (log 4). -/

namespace Sys2Proof.Machine

/-! ### Timers -/

/-- The timer has run out. -/
def ranOut (t : Timer) : Bool := t == some 0

/-- 0.1 ms off a running timer. -/
def Timer.count (t : Timer) : Timer := t.map fun left => left - 1

/-! ### Events that are due (log 5) -/

/-- The first station, in ascending number, that `f` picks. -/
def State.firstStation (s : State) (f : Station → Bool) : Option StationId :=
  allStations.find? fun i => f (s.station i)

/-- The filter timer that has run out: the first line of Table 5-1, and of it the lowest station. -/
def State.dueFilter (s : State) : Option Instr :=
  [FilteredLine.ready, .feed, .exit, .jam].findSome? fun l =>
    (s.firstStation fun st => ranOut (st.filterTimers.get l)).map fun i => .filterTimerExpiry i l

/-- The station timer that has run out, in the order filters, permit delay, idle, drain, jam. -/
def State.dueStation (s : State) : Option Instr :=
  s.dueFilter <|> (s.firstStation fun st => ranOut st.permitDelay).map Instr.permitDelayExpiry <|>
    (s.firstStation fun st => ranOut (st.job.bind Job.idleTimer)).map Instr.idleTimerExpiry <|>
    (s.firstStation fun st => ranOut st.drainTimer).map Instr.drainTimerExpiry <|>
    (s.firstStation fun st => ranOut st.jamTimer).map Instr.jamTimeout

/-- The PENDING record whose authorisation timer has run out, lowest number first. -/
def State.dueAuth (s : State) : Option Instr :=
  (s.accounts.find? fun a => a.isPending && ranOut (a.walkup.bind Walkup.authTimer)).map fun a =>
    .authTimerExpiry a.number

/-- The event of the reader bus that is the part's own and due: the period timer run out, a period start,
the next slot (R141, R142). -/
def State.dueBus (s : State) : Option Instr :=
  if ranOut s.bus.periodTimer then some .periodTimerExpiry
  else if s.periodDue then some .pollPeriodStart
  else if s.bus.phase = .betweenSlots ∧ s.bus.toServe ≠ [] ∧ s.bus.clockHeld = false then some .slotStart
  else none

/-- The refusal that the part is about to place (R184; log 2, log 6). None while RESETn is low. -/
def State.dueRefusal (s : State) : Option Status :=
  if s.resetLow then none
  else
    match s.link.judged with
    | some (.refusal status) => some status
    | _ => none

/-- The command taken from the host link and not executed yet. -/
def Link.executing (l : Link) : Option Instr :=
  match l.judged with
  | some (.command i) => some i
  | _ => none

/-- The event of its own that the part takes next: the command taken from the host link, the oldest
retry owed, a timer that has run out, the bus (log 2, log 5). None while RESETn is low. -/
def State.dueEvent (s : State) : Option Instr :=
  if s.resetLow then none
  else
    s.link.executing <|> s.retryOwed.head?.map Instr.retryOfHeldStations <|> s.dueStation <|> s.dueAuth <|>
      s.dueBus

/-! ### Passing of time (log 4) -/

/-- 0.1 ms at a station. -/
def Station.count (st : Station) : Station :=
  { st with
    filterTimers :=
      ⟨Timer.count st.filterTimers.ready, Timer.count st.filterTimers.feed,
        Timer.count st.filterTimers.exit, Timer.count st.filterTimers.jam⟩
    permitDelay := Timer.count st.permitDelay
    job := st.job.map fun j => { j with idleTimer := Timer.count j.idleTimer }
    drainTimer := Timer.count st.drainTimer
    jamTimer := Timer.count st.jamTimer }

/-- 0.1 ms at an account record. -/
def Account.count (a : Account) : Account :=
  { a with walkup := a.walkup.map fun w => { w with authTimer := Timer.count w.authTimer } }

/-- 0.1 ms pass: every running timer has so much less left. No time passes for a part in reset. -/
def State.tick (s : State) : State :=
  if s.resetLow then s
  else
    { s with
      stations := mapSixteen (fun _ st => st.count) s.stations
      accounts := s.accounts.map Account.count
      bus := { s.bus with periodTimer := Timer.count s.bus.periodTimer }
      subMs := if s.subMs + 1 < Config.stepsPerMs then s.subMs + 1 else 0 }

end Sys2Proof.Machine
end

