-- ==== Sys2Proof/Machine/Step.lean ====
section
/-! DEFINITION. One step of the part: the command at the front of the queue, or, on an empty queue, the
part's own event that is due or 0.1 ms of time (log 2). -/

namespace Sys2Proof.Machine

/-- A step on an empty queue: the refusal judged is placed, or the due event takes place, or 0.1 ms pass
(log 2). -/
def State.ownStep (s : State) : Host.Outcome State Fault Refusal :=
  match s.dueRefusal, s.dueEvent with
  | some status, _ => .next (s.placeRefusal status)
  | none, some c => exec c s
  | none, none => .next s.tick

/-- One step: the front of the queue taken and executed with the queue's rest. -/
def step (s : State) : Host.Outcome State Fault Refusal :=
  match s.pending with
  | [] => s.ownStep
  | c :: rest => exec c { s with pending := rest }

/-- `s` with the command that a table word spells put at the front of its queue; no word of the table
spells one (log 30). -/
def State.withFetchWord (s : State) (nbits w : Nat) : State :=
  match decodeTableWord nbits w with
  | none => s
  | some c => { s with pending := c :: s.pending }

end Sys2Proof.Machine
end

