-- ==== Sys2Proof/Safety.lean ====
section
/-! DEFINITION. The terms in which claims about the part are stated: when a host command can be carried
out, what an answer is, which parts of the state stay as they are, and the standing laws of the part. -/

namespace Sys2Proof.Machine

/-! ### Carrying out and answering a host command -/

/-- `i` can be carried out: RESETn is high, and RDY is not low for another message (R184, R185, R193). -/
def State.ready (s : State) (i : Instr) : Prop := s.resetLow = false ∧ s.link.occupiedFor i = false

/-- The link of `t` is that of `s` after this answer: the response placed, replacing any unread one, no
message in hand, RDY high, ATTN as its causes stand, MISO driven in a select period alone (R181, R184,
R186, R189). -/
def AnsweredWith (s t : State) (status : Status) (results : List Byte) : Prop :=
  t.link =
    { s.link.place (answer status results) with
      judged := none, rdy := true, attn := t.attnCause, misoDriven := s.link.select.isSome }

/-! ### Frames -/

/-- A station without the level of its PERMIT pin, which the standing law `PinsLaw` fixes. -/
def Station.undriven (st : Station) : Station := { st with permit := false }

/-- A link without the levels of RDY, ATTN and MISO's drive, which the standing law `PinsLaw` fixes. -/
def Link.undriven (l : Link) : Link := { l with rdy := false, attn := false, misoDriven := false }

/-- The parts of the state that a frame names. -/
inductive Part where
  | queue | reset | link | globals | accounts | tokens | tariffs | schedules | stations | retries | readers
  | bus | walkup | time
deriving DecidableEq, Repr

/-- `t` agrees with `s` in this part. -/
def Part.agrees (p : Part) (s t : State) : Prop :=
  match p with
  | .queue => t.pending = s.pending
  | .reset => t.resetLow = s.resetLow
  | .link => t.link.undriven = s.link.undriven
  | .globals => t.globals = s.globals
  | .accounts => t.accounts = s.accounts
  | .tokens => t.tokens = s.tokens
  | .tariffs => t.tariffs = s.tariffs
  | .schedules => t.schedules = s.schedules
  | .stations => ∀ i, (t.station i).undriven = (s.station i).undriven
  | .retries => t.retryOwed = s.retryOwed
  | .readers => ∀ i, t.reader i = s.reader i
  | .bus => t.bus = s.bus
  | .walkup => t.wau = s.wau
  | .time => t.subMs = s.subMs

/-- Nothing but these parts may differ. -/
def KeepsAllBut (changed : List Part) (s t : State) : Prop := ∀ p, p ∉ changed → p.agrees s t

/-- Every station but `i` is as it was. -/
def KeepsOtherStations (i : StationId) (s t : State) : Prop :=
  ∀ k, k ≠ i → (t.station k).undriven = (s.station k).undriven

/-- Every reader but `i` is as it was. -/
def KeepsOtherReaders (i : StationId) (s t : State) : Prop := ∀ k, k ≠ i → t.reader k = s.reader k

/-- Every account but those numbered in `ns` is as it was. -/
def KeepsOtherAccounts (ns : List Nat) (s t : State) : Prop := ∀ m, m ∉ ns → t.account m = s.account m

/-- A display message stands in the slot of reader `i`, the replaced flag set when a DISPLAY frame to it
is on the bus, and the rest of the record is as it was (R96, R155). -/
def ShownOn (i : StationId) (d : Display) (s t : State) : Prop :=
  t.reader i =
    { s.reader i with
      display := some d.capped
      displayReplaced := (s.reader i).displayReplaced || s.bus.displaysTo i }

/-! ### Standing laws -/

/-- The output pins are what the state demands: RDY is high unless a message is judged and not answered yet, ATTN is asserted
while a cause stands, MISO is driven while a select period runs, PERMIT is asserted while the permit
condition holds, and all of them are low or released while RESETn is low (R112, R181, R184, R189,
R193). -/
def PinsLaw (s : State) : Prop :=
  s.link.rdy = (!s.resetLow && s.link.judged.isNone) ∧ s.link.attn = (!s.resetLow && s.attnCause) ∧
    s.link.misoDriven = (!s.resetLow && s.link.select.isSome) ∧
    ∀ i, (s.station i).permit = (!s.resetLow && (s.station i).permitCondition)

/-- The host command `i` is carried out in `s` and answered with this status and these results, nothing
but the link and the parts `changed` differs, the pins are driven, and the new state has `holds`. -/
def Answers (i : Instr) (s : State) (status : Status) (results : List Byte) (changed : List Part)
    (holds : State → Prop) : Prop :=
  ∃ t, exec i s = .next t ∧ AnsweredWith s t status results ∧ KeepsAllBut (.link :: changed) s t ∧
    PinsLaw t ∧ holds t

/-- The host command `i` is answered with this status without results, and changes nothing. -/
def Refuses (i : Instr) (s : State) (status : Status) : Prop :=
  Answers i s status [] [] fun _ => True

/-- The event `i` takes place in `s`: nothing but the parts `changed` differs, the pins are driven, and
the new state has `holds`. -/
def Happens (i : Instr) (s : State) (changed : List Part) (holds : State → Prop) : Prop :=
  ∃ t, exec i s = .next t ∧ KeepsAllBut changed s t ∧ PinsLaw t ∧ holds t

/-- `t` has the accounts, the tokens and the other stations and readers that the settlement of station `i`
leaves from `m` (R73 to R77), station and reader `i` being said apart. -/
def SettledFrom (m : State) (i : StationId) (dest : StationState) (t : State) : Prop :=
  t.accounts = (m.settle i dest).accounts ∧ t.tokens = (m.settle i dest).tokens ∧
    KeepsOtherStations i (m.settle i dest) t ∧ KeepsOtherReaders i (m.settle i dest) t

/-- The walk-up of record `a` at station `i` has ended without a job (R173): the record out of the table,
its tokens out of the index, its number out of the WAITING list, the station IDLE without session token,
this display shown, and all other accounts, stations and readers as they were. -/
def WalkupEnded (s t : State) (a : Account) (i : StationId) (d : Display) : Prop :=
  t.account a.number = none ∧ KeepsOtherAccounts [a.number] s t ∧
    t.tokens = (s.tokens.filter fun e => !a.tokens.contains e.token) ∧
    t.wau = { s.wau with waiting := s.wau.waiting.filter fun m => m != a.number } ∧
    KeepsOtherStations i s t ∧ KeepsOtherReaders i s t ∧
    (t.station i).undriven = ({ s.station i with state := .idle, sessionToken := none } : Station).undriven ∧
    ShownOn i d s t

/-- The argument lengths that each code of Table 9-3 takes (R188, R191, R196 to R198). -/
def argumentLengths : List (Nat × List Nat) :=
  [(0x10, [52]), (0x11, [16]), (0x12, [6]), (0x13, [6]), (0x14, [2]), (0x15, [2]), (0x16, [2]),
    (0x17, [2]), (0x18, [2]), (0x19, [2]), (0x20, [10]), (0x21, [8]), (0x22, [8]), (0x30, [29]),
    (0x31, [1]), (0x32, [19]), (0x33, [1]), (0x34, [0, 16]), (0x40, [14]), (0x41, [1]), (0x42, [1]),
    (0x43, [2]), (0x44, [1]), (0x45, [1]), (0x46, [3]), (0x47, [1]), (0x48, [1]), (0x49, [1]),
    (0x4A, [1]), (0x50, [2]), (0x51, [1]), (0x52, [5]), (0x53, [1]), (0x54, [0]), (0x60, [0]),
    (0x61, [3, 7]), (0x70, [0])]

/-- The account table stands in strictly ascending number, so a number names one record (R1, R29). -/
def AccountsInOrder (s : State) : Prop := (s.accounts.map Account.number).Pairwise (· < ·)

/-- The tables hold no more than they can: records, transient records, token entries (R1, R14, R162). -/
def WithinCapacity (s : State) : Prop :=
  s.accounts.length ≤ Config.maxAccounts ∧ s.transientCount ≤ Config.maxTransients ∧
    s.tokens.length ≤ Config.maxTokens

/-- A card token stands in the index at most once, and the all-zero token never (R14). -/
def TokensLaw (s : State) : Prop := (s.tokens.map TokenEntry.token).Nodup ∧ ∀ e ∈ s.tokens, e.token ≠ 0#64

/-- A defined tariff table is consistent: its reserve is that of its prices, its start threshold covers
the reserve and the job minimum, its hold quantum covers its start threshold; an undefined one is 0 in
every field (R31 to R33). -/
def Tariff.consistent (t : Tariff) : Prop :=
  if t.isDefined then
    t.reserve = reserveOf t.prices ∧ ceilCents t.reserve ≤ t.startThreshold ∧
      t.jobMinimum ≤ t.startThreshold ∧ t.startThreshold ≤ t.holdQuantum ∧ 100 ≤ t.holdQuantum ∧
      t.holdQuantum ≤ 100000
  else t = .undefined

/-- Every tariff table is consistent. -/
def TariffsLaw (s : State) : Prop := ∀ l : TariffLetter, s.tariffs[l].consistent

/-- Every schedule is one that R37 allows. -/
def SchedulesLaw (s : State) : Prop := ∀ n : Fin 4, s.schedules[n].wellFormed = true

/-- Accrued never exceeds hold × 100,000 in any open job (R63). -/
def AccruedWithinHold (s : State) : Prop :=
  ∀ i j, (s.station i).job = some j → j.accrued ≤ j.hold * Config.milliPointsPerCent

/-- The fields of a reader record stay in their ranges (Table 7-1). -/
def Reader.inRange (r : Reader) : Prop :=
  r.consecutive ≤ 2 ∧ r.hdrCorrected ≤ 255 ∧ r.hdrBad ≤ 255 ∧ r.crcBad ≤ 255 ∧ r.noAnswer ≤ 255

/-- Every reader record is in range. -/
def ReadersLaw (s : State) : Prop := ∀ i, (s.reader i).inRange

/-- The states of Table 4-1 whose job record is present. -/
def StationState.hasJob (x : StationState) : Bool :=
  match x with
  | .running => true | .held => true | .closing => true | .jammed => true
  | .disabled => false | .idle => false | .opening => false | .outOfService => false

/-- The states of Table 4-1 in which a station keeps no session (R80, R134). -/
def StationState.isFree (x : StationState) : Bool :=
  match x with
  | .disabled => true | .idle => true | .outOfService => true
  | .opening => false | .running => false | .held => false | .closing => false | .jammed => false

/-- The standing conditions of a station: a job record exactly in RUNNING, HELD, CLOSING and JAMMED
(Table 4-1); at most 8 sheets in its two lists, none without a job, none in path while JAMMED, none
disputed otherwise (R118, R119); no path outside TRACKED mode (R108); jam cause and jam timer exactly
while JAMMED (R123); the drain timer only, and a non-empty path with an end request always, in CLOSING
(R70, R122); the idle timer only in RUNNING and HELD (R71); no session token in a free station (R80). -/
def Station.lawful (st : Station) : Prop :=
  st.job.isSome = st.state.hasJob ∧ st.path.length + st.disputed.length ≤ Config.maxSheetsInPath ∧
    (st.job = none → st.path = []) ∧ (st.state = .jammed → st.path = []) ∧
    (st.state ≠ .jammed → st.disputed = []) ∧ (st.config.countMode ≠ .tracked → st.path = []) ∧
    st.jamCause.isSome = (st.state == .jammed) ∧ st.jamTimer.isSome = (st.state == .jammed) ∧
    st.drainTimer.isSome = (st.state == .closing) ∧
    (st.state = .closing → st.path ≠ [] ∧ (st.job.bind Job.endRequest).isSome) ∧
    (∀ j, st.job = some j → j.idleTimer.isSome = (st.state == .running || st.state == .held)) ∧
    (st.state.isFree → st.sessionToken = none)

/-- A PENDING record is the walk-up of an OPENING station, no two of one station, with its request state
and its timer (R79, R162, Table 8-4). -/
def WalkupsLaw (s : State) : Prop :=
  (∀ a ∈ s.accounts, a.isPending →
    ∃ w, a.walkup = some w ∧ (s.station w.station).state = .opening ∧ w.requestState.isSome ∧
      w.authTimer.isSome) ∧
  ∀ a ∈ s.accounts, ∀ b ∈ s.accounts, a.isPending → b.isPending →
    a.walkup.map Walkup.station = b.walkup.map Walkup.station → a.number = b.number

/-- The law of stations and walk-ups together, which every step keeps as one. -/
def StationsLaw (s : State) : Prop :=
  AccountsInOrder s ∧ (∀ i, (s.station i).lawful) ∧ WalkupsLaw s

/-! ### The laws of the account table -/

/-- The fields of a record suit its kind (Table 1-1, Table 1-3): numbers from 60,000 on are TRANSIENT
and no others; only a MEMBER has a payer, only a TRANSIENT has walk-up fields and a walk-up state, only
a CREDIT account has a credit limit. -/
def Account.suitsKind (a : Account) : Prop :=
  (a.kind = .transient ↔ Config.firstTransient ≤ a.number) ∧ 1 ≤ a.number ∧
    a.number ≤ Config.lastTransient ∧ (a.payer.isSome ↔ a.kind = .member) ∧
    (a.walkup.isSome ↔ a.kind = .transient) ∧
    (a.kind = .transient ↔ a.state = .pending ∨ a.state = .opened ∨ a.state = .settled) ∧
    (a.kind ≠ .credit → a.creditLimit = 0)

/-- The MEMBER records that name the account as payer (R7). -/
def State.membersOf (s : State) (n : Nat) : List Account :=
  s.accounts.filter fun a => a.payer == some n

/-- The law of R7: every MEMBER names as payer a PREPAID or CREDIT account of the table, every member
count is the number of members that name the account, and a CLOSING account has none (R25). -/
def MembersLaw (s : State) : Prop :=
  AccountsInOrder s ∧ (∀ a ∈ s.accounts, a.suitsKind) ∧
    (∀ a ∈ s.accounts, ∀ p, a.payer = some p →
      ∃ b, s.account p = some b ∧ (b.kind = .prepaid ∨ b.kind = .credit)) ∧
    ∀ a ∈ s.accounts,
      a.memberCount = (s.membersOf a.number).length ∧ (a.state = .closing → a.memberCount = 0)

/-- The open jobs of the part, in ascending station number. -/
def State.openJobs (s : State) : List Job := allStations.filterMap fun i => (s.station i).job

/-- The sum of the holds of the open jobs that `f` picks. -/
def State.holdsOf (s : State) (f : Job → Bool) : Nat := ((s.openJobs.filter f).map Job.hold).sum

/-- The law of R6 and R12: every open job names a user account of the table and its billing account; the
held of an account is the sum of the holds of the open jobs billed to it, the member held of a MEMBER
the sum of the holds of the jobs it is the user of, and open jobs counts the jobs that concern it. -/
def HoldsLaw (s : State) : Prop :=
  (∀ j ∈ s.openJobs, ∃ u b, s.account j.user = some u ∧ s.account j.billing = some b ∧
    u.billingNumber = j.billing) ∧
  ∀ a ∈ s.accounts,
    a.held = (if a.kind = .member then 0 else s.holdsOf fun j => j.billing == a.number) ∧
      a.memberHeld = (if a.kind = .member then s.holdsOf fun j => j.user == a.number else 0) ∧
      a.openJobs = (s.openJobs.filter fun j => j.concerns a.number).length ∧
      (a.kind = .transient → a.openJobs = if a.state = .opened then 1 else 0)

/-- The books of the part: members, holds and stations together, which every step keeps as one. -/
def BooksLaw (s : State) : Prop :=
  StationsLaw s ∧ MembersLaw s ∧ WithinCapacity s ∧ HoldsLaw s

/-- The law of R12 and R14: the token list of an account is the index entries that name it, in their
order; every entry names an account of the table; a registered account holds at most 4 tokens, a
TRANSIENT one while PENDING or OPEN and none when SETTLED. -/
def TokenListsLaw (s : State) : Prop :=
  TokensLaw s ∧ (∀ e ∈ s.tokens, (s.account e.account).isSome) ∧
    ∀ a ∈ s.accounts,
      a.tokens = (s.tokens.filter fun e => e.account == a.number).map TokenEntry.token ∧
        (if a.kind = .transient then a.tokens.length = if a.state = .settled then 0 else 1
         else a.tokens.length ≤ Config.maxTokensPerAccount)

/-- Token lists with what they rest on, which every step keeps as one. -/
def TokenBooksLaw (s : State) : Prop := MembersLaw s ∧ WithinCapacity s ∧ TokenListsLaw s

/-- The law of R50 as a standing one: the job minimum of an open job is within its hold, and accrued is
within hold × 100,000; so its charge, whenever it settles, is within the hold. -/
def ChargesLaw (s : State) : Prop :=
  MembersLaw s ∧ TariffsLaw s ∧ AccruedWithinHold s ∧
    ∀ i j, (s.station i).job = some j → j.snapshot.jobMinimum ≤ j.hold

/-- The law of R52: within a job whose priced sheets have not saturated, the sheets priced are those
billed, those voided, and those in the two lists of the station. -/
def SheetsLaw (s : State) : Prop :=
  ∀ i j, (s.station i).job = some j → j.pricedSheets < Config.sheetCountTop →
    j.pricedSheets =
      j.billed.toList.sum + j.voidedSheets + (s.station i).path.length + (s.station i).disputed.length

/-- The law of R79, R164 and R168: the WAITING list is the WAITING records, each once; every OPENING
station has its PENDING record; the auth references of PENDING records are 1 to 65,535, no two alike. -/
def WaitingLaw (s : State) : Prop :=
  s.wau.waiting.Nodup ∧
    (∀ n, n ∈ s.wau.waiting ↔
      ∃ a, s.account n = some a ∧ a.isPending ∧ a.walkup.map Walkup.requestState = some (some .waiting)) ∧
    (∀ i, (s.station i).state = .opening →
      ∃ a ∈ s.accounts, a.isPending ∧ a.walkup.map Walkup.station = some i) ∧
    (∀ a ∈ s.accounts, a.isPending → ∀ w, a.walkup = some w → 1 ≤ w.authRef ∧ w.authRef ≤ 65535) ∧
    ∀ a ∈ s.accounts, ∀ b ∈ s.accounts, a.isPending → b.isPending →
      a.walkup.map Walkup.authRef = b.walkup.map Walkup.authRef → a.number = b.number

/-! ### Ranges -/

/-- The figures of a record are in their ranges: balance (R5), credit limit and period cap (Table 1-3),
meter with its saturated flag (R10), period charges and class counts (R11). -/
def Account.inRange (a : Account) : Prop :=
  -999999999 ≤ a.balance ∧ a.balance ≤ 999999999 ∧ a.creditLimit ≤ 10000000 ∧
    (∀ cap, a.periodCap = some cap → cap ≤ 10000000) ∧ a.meter ≤ 16777215 ∧
    (a.meterSaturated = true ↔ a.meter = 16777215) ∧ a.periodCharges ≤ 999999999 ∧
    ∀ k : Fin 8, a.classCounts[k] ≤ 16777215

/-- Every record is in range, and every sheet of a station's lists has one impression or two (R41). -/
def FiguresLaw (s : State) : Prop :=
  (∀ a ∈ s.accounts, a.inRange) ∧
    ∀ i, ∀ x ∈ (s.station i).path ++ (s.station i).disputed, 1 ≤ x.impressions ∧ x.impressions ≤ 2

end Sys2Proof.Machine
end

