-- ==== Sys2Proof/Certificates/Slice0/Obligations.lean ====
section
/-! DEFINITION. What is stated of the part, for the provers: the step, the standing laws, the host link,
and for every command its effect, its answer and what it leaves as it was. -/

open Sys2Proof Sys2Proof.Machine

/-! ### The step and the laws every step keeps -/

/-- The step at a queue takes its front, by execution with the queue's rest (log 2). -/
def Obligations.StepExecutesFrontOfQueue : Prop :=
  ∀ (c : Instr) (rest : List Instr) (s : State),
    step { s with pending := c :: rest } = exec c { s with pending := rest }

/-- The model's choice of logs 2, 4, 5 and 6: on an empty queue the part first carries out the command it has
taken from the host link, or places the refusal it has judged and drives RDY high (R184); then it makes the
oldest retry it owes; then the timer that has run out acts (the
filters of READY, FEED, EXIT and JAM, the permit delays, the idle, drain and jam timers, the authorisation
timers, the period timer, lowest station or number first), then the bus event that is due; with nothing
due 0.1 ms pass and every running timer has so much less left. While RESETn is low nothing happens. -/
def Obligations.EmptyQueueServesTakenCommandThenOwedRetry : Prop :=
  (∀ s : State, s.pending = [] →
    (s.resetLow = true → step s = .next s) ∧
    (s.resetLow = false → ∀ c, s.link.judged = some (.command c) → step s = exec c s) ∧
    (s.resetLow = false → ∀ status, s.link.judged = some (.refusal status) →
      ∃ t, step s = .next t ∧ AnsweredWith s t status [] ∧ KeepsAllBut [.link] s t ∧ PinsLaw t ∧
        t.link.response = some ⟨status, []⟩ ∧ t.link.rdy = true) ∧
    (s.resetLow = false → s.link.judged = none → ∀ n rest, s.retryOwed = n :: rest →
      step s = exec (.retryOfHeldStations n) s)) ∧
  ∀ s : State, s.pending = [] → s.resetLow = false → s.link.judged = none → s.retryOwed = [] →
    (∀ i f, (s.station i).filterTimers.get f = some 0 →
      (∀ k, ∀ g ∈ [FilteredLine.ready, .feed, .exit, .jam].takeWhile fun x => x != f,
        (s.station k).filterTimers.get g ≠ some 0) →
      (∀ k, k < i → (s.station k).filterTimers.get f ≠ some 0) →
      step s = exec (.filterTimerExpiry i f) s) ∧
    ((∀ i f, (s.station i).filterTimers.get f ≠ some 0) →
      (∀ i, (s.station i).permitDelay = some 0 → (∀ k, k < i → (s.station k).permitDelay ≠ some 0) →
        step s = exec (.permitDelayExpiry i) s) ∧
      ((∀ i, (s.station i).permitDelay ≠ some 0) →
        (∀ i, (s.station i).job.bind Job.idleTimer = some 0 →
          (∀ k, k < i → (s.station k).job.bind Job.idleTimer ≠ some 0) →
          step s = exec (.idleTimerExpiry i) s) ∧
        ((∀ i, (s.station i).job.bind Job.idleTimer ≠ some 0) →
          (∀ i, (s.station i).drainTimer = some 0 → (∀ k, k < i → (s.station k).drainTimer ≠ some 0) →
            step s = exec (.drainTimerExpiry i) s) ∧
          ((∀ i, (s.station i).drainTimer ≠ some 0) →
            (∀ i, (s.station i).jamTimer = some 0 → (∀ k, k < i → (s.station k).jamTimer ≠ some 0) →
              step s = exec (.jamTimeout i) s) ∧
            ((∀ i, (s.station i).jamTimer ≠ some 0) →
              (AccountsInOrder s → ∀ a ∈ s.accounts, a.isPending →
                a.walkup.bind Walkup.authTimer = some 0 →
                (∀ b ∈ s.accounts, b.isPending → b.walkup.bind Walkup.authTimer = some 0 →
                  a.number ≤ b.number) → step s = exec (.authTimerExpiry a.number) s) ∧
              ((∀ a ∈ s.accounts, a.isPending → a.walkup.bind Walkup.authTimer ≠ some 0) →
                (s.bus.periodTimer = some 0 → step s = exec .periodTimerExpiry s) ∧
                (s.bus.phase = .atRest → s.bus.periodTimer = none → step s = exec .pollPeriodStart s) ∧
                (s.bus.phase = .betweenSlots → s.bus.toServe ≠ [] → s.bus.clockHeld = false →
                  s.bus.periodTimer ≠ some 0 → step s = exec .slotStart s) ∧
                (s.bus.periodTimer ≠ some 0 →
                  (s.bus.phase ≠ .atRest ∨ s.bus.periodTimer ≠ none) →
                  (s.bus.phase ≠ .betweenSlots ∨ s.bus.toServe = [] ∨ s.bus.clockHeld = true) →
                  ∃ t, step s = .next t ∧
                    KeepsAllBut [.accounts, .stations, .bus, .time] s t ∧
                    t.accounts = s.accounts.map (fun a =>
                      { a with walkup := a.walkup.map fun w =>
                          { w with authTimer := w.authTimer.map fun left => left - 1 } }) ∧
                    t.bus = { s.bus with periodTimer := s.bus.periodTimer.map fun left => left - 1 } ∧
                    t.subMs = (if s.subMs < 9 then s.subMs + 1 else 0) ∧
                    ∀ i, t.station i =
                      { s.station i with
                        filterTimers :=
                          { ready := (s.station i).filterTimers.ready.map fun left => left - 1
                            feed := (s.station i).filterTimers.feed.map fun left => left - 1
                            exit := (s.station i).filterTimers.exit.map fun left => left - 1
                            jam := (s.station i).filterTimers.jam.map fun left => left - 1 }
                        permitDelay := (s.station i).permitDelay.map fun left => left - 1
                        job := (s.station i).job.map fun j =>
                          { j with idleTimer := j.idleTimer.map fun left => left - 1 }
                        drainTimer := (s.station i).drainTimer.map fun left => left - 1
                        jamTimer := (s.station i).jamTimer.map fun left => left - 1 })))))))

/-- No command of the table stops the part: each is answered, counted, or without effect. -/
def Obligations.EveryCommandReachesNextState : Prop :=
  ∀ (c : Instr) (s : State), ∃ t, exec c s = .next t

/-- The state after device reset meets every law that the other statements call kept. -/
def Obligations.ResetStateMeetsEveryLaw : Prop :=
  PinsLaw .reset ∧ BooksLaw .reset ∧ TokenBooksLaw .reset ∧ ChargesLaw .reset ∧ SheetsLaw .reset ∧
    SchedulesLaw .reset ∧ ReadersLaw .reset ∧ WaitingLaw .reset ∧ FiguresLaw .reset

/-- RDY, ATTN, the drive of MISO and every PERMIT stand in every state as that state demands: the four
causes of R189, the rows of Table 5-5 (so that PERMIT is released while the permit delay runs under
INTERLOCKED and PARTIAL, R114, R115), and MISO at high impedance outside a select period (R181). -/
def Obligations.OutputPinsFollowTheState : Prop :=
  ∀ s t : State, PinsLaw s → step s = .next t →
    PinsLaw t ∧
      (t.link.rdy = true ↔ t.resetLow = false ∧ t.link.judged = none) ∧
      (t.link.misoDriven = true ↔ t.resetLow = false ∧ t.link.select ≠ none) ∧
      (t.link.attn = true ↔ t.resetLow = false ∧
        (t.wau.waiting ≠ [] ∨ (∃ a ∈ t.accounts, a.kind = .transient ∧ a.state = .settled) ∨
          (∃ i, (t.station i).alarms ≠ ⟨false, false, false, false, false, false⟩) ∨
          ∃ i, (t.reader i).linkLost = true ∨ (t.reader i).counterSaturated = true)) ∧
      ∀ i,
        ((t.station i).permit = true ↔
          t.resetLow = false ∧ (t.station i).state = .running ∧
            ((t.station i).config.permitMode = .level ∨
              ((t.station i).config.permitMode = .interlocked ∧ (t.station i).filtered.ready = true ∧
                (t.station i).permitDelay = none) ∨
              ((t.station i).config.permitMode = .partialMode ∧ (t.station i).permitDelay = none))) ∧
        ((t.station i).config.permitMode ≠ .level → (t.station i).permitDelay ≠ none →
          (t.station i).permit = false)

/-- The standing conditions of stations and walk-ups. -/
def Obligations.StationConditionsAreKept : Prop :=
  ∀ s t : State, StationsLaw s → step s = .next t → StationsLaw t

/-- Members, holds and job counts of the account table agree with the open jobs. -/
def Obligations.HoldsAndMembersAddUp : Prop :=
  ∀ s t : State, BooksLaw s → step s = .next t → BooksLaw t

/-- Token lists and token index agree. -/
def Obligations.TokenListsMatchTheIndex : Prop :=
  ∀ s t : State, TokenBooksLaw s → step s = .next t → TokenBooksLaw t

/-- The job minimum and accrued stay within the hold of every open job. -/
def Obligations.ChargeBoundsAreKept : Prop :=
  ∀ s t : State, ChargesLaw s → step s = .next t → ChargesLaw t

/-- The law of R52. -/
def Obligations.PricedSheetsAreAccountedFor : Prop :=
  ∀ s t : State, StationsLaw s ∧ SheetsLaw s → step s = .next t → SheetsLaw t

/-- The standing conditions of walk-up requests: the WAITING list holds the WAITING records, every OPENING
station has its PENDING record, and no two PENDING records share an auth reference. -/
def Obligations.WaitingListMatchesRecords : Prop :=
  ∀ s t : State, BooksLaw s ∧ WaitingLaw s → step s = .next t → WaitingLaw t

/-- Tariff tables and schedules stay consistent, reader records in their ranges, and with the station
conditions the money, meters and counts of the accounts in theirs. -/
def Obligations.TablesAndReadersStayInRange : Prop :=
  ∀ s t : State, step s = .next t →
    (TariffsLaw s → TariffsLaw t) ∧ (SchedulesLaw s → SchedulesLaw t) ∧ (ReadersLaw s → ReadersLaw t) ∧
      (StationsLaw s ∧ FiguresLaw s → FiguresLaw t)

/-! ### Prices and charges -/

/-- The CHARGE computed at settlement is within the hold and reaches the job minimum (R50). -/
def Obligations.SettlementChargeIsBounded : Prop :=
  ∀ j : Job, j.accrued ≤ j.hold * 100000 → j.snapshot.jobMinimum ≤ j.hold →
    (settlementCharge j).1 ≤ j.hold ∧
      (1 ≤ j.billedImpressions → j.snapshot.jobMinimum ≤ (settlementCharge j).1) ∧
      (j.billedImpressions = 0 → settlementCharge j = (0, false)) ∧
      (1 ≤ j.billedImpressions →
        settlementCharge j =
          if (j.accrued + 50000) / 100000 < j.snapshot.jobMinimum then (j.snapshot.jobMinimum, true)
          else ((j.accrued + 50000) / 100000, false))

/-- The tier of an impression by its own ordinal (R44), the side amounts of a sheet of each class (R41, R45),
and no sheet of any class priced above the reserve of the prices it uses (R32). -/
def Obligations.SheetPriceFollowsTierAndReserve : Prop :=
  (∀ (d : Schedule) (base n : Nat),
    ((d.t1 = none ∨ ∃ x, d.t1 = some x ∧ n ≤ x) → sideAmount d base n = base * (1000 - d.d0)) ∧
    ((∃ x, d.t1 = some x ∧ x < n) → (d.t2 = none ∨ ∃ x, d.t2 = some x ∧ n ≤ x) →
      sideAmount d base n = base * (1000 - d.d1)) ∧
    ((∃ x, d.t1 = some x ∧ x < n) → (∃ x, d.t2 = some x ∧ x < n) →
      (d.t3 = none ∨ ∃ x, d.t3 = some x ∧ n ≤ x) → sideAmount d base n = base * (1000 - d.d2)) ∧
    ((∃ x, d.t1 = some x ∧ x < n) → (∃ x, d.t2 = some x ∧ x < n) → (∃ x, d.t3 = some x ∧ x < n) →
      sideAmount d base n = base * (1000 - d.d3))) ∧
  (∀ (snap : Snapshot) (c : SheetClass) (first : Nat) (cell : CellPrice),
    cell =
      (if c.large then (if c.colour then snap.prices.lc else snap.prices.lm)
       else if c.colour then snap.prices.sc else snap.prices.sm) →
    sheetAmount snap c first =
        sideAmount snap.schedule cell.front first +
          (if c.duplex then
            sideAmount snap.schedule cell.back (if first = 16777215 then 16777215 else first + 1)
           else 0) ∧
      sheetAmount snap c first ≤ reserveOf snap.prices)

/-! ### Device reset and the host link -/

/-- DEVICE_RESET drives RDY low, releases ATTN, MISO and every PERMIT, and abandons select period, command
and refusal (R193); until the release nothing but the levels of the input pins changes (log 11), where a
LINE_LEVEL_CHANGE puts its level on its pin and does no more. -/
def Obligations.DeviceResetSilencesThePart : Prop :=
  (∀ s : State, ∃ t, exec .deviceReset s = .next t ∧ KeepsAllBut [.reset, .link] s t ∧
    t.resetLow = true ∧
    t.link = { s.link with
      select := none, judged := none, rdy := false, attn := false, misoDriven := false } ∧
    ∀ i, (t.station i).permit = false) ∧
  (∀ (s : State) (c : Instr), s.resetLow = true → c ≠ .deviceReset → c ≠ .resetRelease →
    (∀ i l h, c ≠ .lineLevelChange i l h) → exec c s = .next s) ∧
  ∀ (s : State) (i : StationId) (l : InputLine) (h : Bool), s.resetLow = true →
    exec (.lineLevelChange i l h) s =
      .next (s.setStation i { s.station i with pins := (s.station i).pins.put l h })

/-- RESET_RELEASE gives every block its device-reset values (R193), each written out (R30, R31, R36, R39,
Tables 5-2, 7-1 and 9-4); the levels of the input pins stay, the filtered lines taking their raw levels
(R97). The model's choices beside R193: it acts whether or not RESETn was low, and the queue stays (log
11); misoOut is empty (log 12); no retry is owed (log 7); the 1 ms time base starts anew (log 4). -/
def Obligations.ResetReleaseGivesDeviceResetValues : Prop :=
  ∀ s : State, ∃ t, exec .resetRelease s = .next t ∧ t.pending = s.pending ∧ t.resetLow = false ∧
    t.link = { judged := none, response := none, collision := false, select := none, rdy := true
               attn := false, misoDriven := false, misoOut := [] } ∧
    t.globals = { idleTimeout := 120, drainTimeout := 8, jamTimeout := 10, authTimeout := 20
                  preAuthAmount := 2000, walkupSchedule := 0, pollPeriod := 50, answerLimit := 10 } ∧
    t.accounts = [] ∧ t.tokens = [] ∧
    (∀ l : TariffLetter, t.tariffs[l] =
      { isDefined := false, prices := ⟨⟨0, 0⟩, ⟨0, 0⟩, ⟨0, 0⟩, ⟨0, 0⟩⟩, startThreshold := 0
        jobMinimum := 0, holdQuantum := 0, reserve := 0 }) ∧
    (∀ n : Fin 4, t.schedules[n] =
      { t1 := none, t2 := none, t3 := none, d0 := 0, d1 := 0, d2 := 0, d3 := 0 }) ∧
    t.retryOwed = [] ∧ t.subMs = 0 ∧
    t.bus = { phase := .atRest, clockHeld := false, toServe := [], periodTimer := none
              broadcast := none } ∧
    t.wau = { numberRotor := 60999, referenceRotor := 0, waiting := [] } ∧
    (∀ i, t.reader i =
      { polled := false, link := .lost, consecutive := 0, hdrCorrected := 0, hdrBad := 0, crcBad := 0
        noAnswer := 0, strictHeader := true, display := none, displayReplaced := false
        linkLost := false, counterSaturated := false }) ∧
    ∀ i, t.station i =
      { state := .disabled
        config :=
          { permitPolarity := .activeHigh
            polarity :=
              { ready := .activeHigh, feed := .activeHigh, exit := .activeHigh, jam := .activeHigh
                classL := .activeHigh, classC := .activeHigh, classD := .activeHigh }
            feedEdge := .leading, exitEdge := .leading, filterSteps := 20, divisor := 1
            countMode := .tracked, classSource := .lines
            fixedClass := { large := false, colour := false, duplex := false }
            permitMode := .interlocked, tdSteps := 5, walkupAllowed := false, style := .tap }
        tariff := 0, sessionToken := none, pins := (s.station i).pins
        filtered :=
          { ready := (s.station i).pins.ready, feed := (s.station i).pins.feed
            exit := (s.station i).pins.exit, jam := (s.station i).pins.jam }
        filterTimers := ⟨none, none, none, none⟩, feedCounter := 0, exitCounter := 0, permit := false
        permitDelay := none, unauthorisedFeeds := 0, strayExits := 0, job := none, lastJob := none
        path := [], disputed := [], drainTimer := none, jamCause := none, jamTimer := none
        alarms := ⟨false, false, false, false, false, false⟩ }

/-- SELECT_PERIOD_START notes whether the response buffer holds a response, which is shifted out with the
collision flag as it stands, and MISO is driven (R181, R185): the message is the status code of Table 9-1,
the flags byte with COLLISION in bit 0, the results length in two bytes, the results and the CRC (R187,
R194, Table 9-6). SELECT_PERIOD_END without a command: MISO goes to high impedance; a response clocked
out in full is read, one cut short stays (R183); MISO carried the response and then FF (R181). -/
def Obligations.SelectPeriodShiftsAndReadsTheResponse : Prop :=
  (∀ s : State, s.resetLow = false → s.link.select = none →
    Happens .selectPeriodStart s [.link] fun t =>
      t.link.judged = s.link.judged ∧ t.link.response = s.link.response ∧
        t.link.collision = s.link.collision ∧ t.link.misoOut = s.link.misoOut ∧
        t.link.misoDriven = true ∧
        (s.link.response = none →
          t.link.select = some { shifting := none, showsCollision := false, live := false }) ∧
        ∀ r, s.link.response = some r →
          t.link.select =
            some { shifting := some (r.message s.link.collision)
                   showsCollision := s.link.collision, live := true }) ∧
  (∀ (r : Response) (collision : Bool) (code : Byte) (body : List Byte),
    (r.status, code) ∈
      [(Status.ok, 0x00#8), (.clamped, 0x01#8), (.deferred, 0x02#8), (.badFrame, 0x03#8),
        (.unknownCommand, 0x04#8), (.invalid, 0x05#8), (.notFound, 0x06#8), (.exists_, 0x07#8),
        (.full, 0x08#8), (.busy, 0x09#8), (.refusedState, 0x0A#8), (.limit, 0x0B#8),
        (.noRequest, 0x0C#8), (.approvedUnused, 0x0D#8)] →
    body =
      [code, if collision then 1#8 else 0#8, BitVec.ofNat 8 (r.results.length / 256),
        BitVec.ofNat 8 (r.results.length % 256)] ++ r.results →
    r.message collision =
      body ++ [(crc16 body).extractLsb' 8 8, (crc16 body).extractLsb' 0 8]) ∧
  (∀ (s : State) (p : SelectPeriod) (mosi : List Byte), s.resetLow = false → s.link.select = some p →
    (mosi = [] ∨ mosi.head? = some 0#8) →
    Happens (.selectPeriodEnd mosi) s [.link] fun t =>
      t.link.select = none ∧ t.link.judged = s.link.judged ∧ t.link.misoDriven = false ∧
        t.link.misoOut =
          ((p.shifting.getD []) ++ List.replicate mosi.length 0xFF#8).take mosi.length ∧
        (∀ bytes, p.shifting = some bytes → p.live = true → bytes.length ≤ mosi.length →
          t.link.response = none ∧
            t.link.collision = (s.link.collision && !p.showsCollision)) ∧
        ((p.live = false ∨ p.shifting = none ∨
            ∃ bytes, p.shifting = some bytes ∧ mosi.length < bytes.length) →
          t.link.response = s.link.response ∧ t.link.collision = s.link.collision))

/-- SELECT_PERIOD_END with a command, in any select period: the reading of the response it shifted, if
any, is settled first (R183), which leaves `left` in the buffer and the collision flag at `flag`; then the
five findings of R182 in their order: a collision while RDY is low; otherwise RDY falls, the unread
response is discarded (R184, R186), and the refusal is in hand or the command taken. That AUTH RESULT takes 3 bytes or
7 whatever its outcome is the model's choice (log 19); the arguments of CREDIT and DEBIT stand in the order
of log 33. -/
def Obligations.CommandMessageIsJudgedInOrder : Prop :=
  ∀ (s : State) (p : SelectPeriod) (mosi : List Byte) (code : Byte) (rest : List Byte)
    (left : Option Response) (flag : Bool), s.resetLow = false → s.link.select = some p →
    mosi = code :: rest → code ≠ 0#8 →
    (p.live = true → (∃ bytes, p.shifting = some bytes ∧ bytes.length ≤ mosi.length) →
      left = none ∧ flag = (s.link.collision && !p.showsCollision)) →
    (p.live = false ∨ p.shifting = none ∨
        (∃ bytes, p.shifting = some bytes ∧ mosi.length < bytes.length) →
      left = s.link.response ∧ flag = s.link.collision) →
    ∀ ends : State → Prop, ends = (fun t =>
      t.link.select = none ∧ t.link.misoDriven = false ∧
        t.link.misoOut =
          ((p.shifting.getD []) ++ List.replicate mosi.length 0xFF#8).take mosi.length) →
    ∀ refused : Status → State → Prop, refused = (fun status t =>
      ends t ∧ t.link.judged = some (.refusal status) ∧ t.link.rdy = false ∧ t.link.response = none ∧
        t.link.collision = flag) →
    ((s.link.judged.isSome →
      Happens (.selectPeriodEnd mosi) s [.link] fun t =>
        ends t ∧ t.link.judged = s.link.judged ∧ t.link.rdy = false ∧ t.link.response = left ∧
          t.link.collision = true) ∧
    (s.link.judged = none →
      (mosi.length < 2 ∨ 60 < numberAt mosi 1 1 ∨ mosi.length < 4 + numberAt mosi 1 1) →
      Happens (.selectPeriodEnd mosi) s [.link] (refused .badFrame)) ∧
    ∀ (args tail : List Byte) (crc : BitVec 16), s.link.judged = none → args.length ≤ 60 →
      mosi = code :: BitVec.ofNat 8 args.length :: args ++ be 2 crc.toNat ++ tail →
      (crc ≠ crc16 (code :: BitVec.ofNat 8 args.length :: args) →
        Happens (.selectPeriodEnd mosi) s [.link] (refused .badFrame)) ∧
      (crc = crc16 (code :: BitVec.ofNat 8 args.length :: args) →
        ((∀ e ∈ argumentLengths, e.1 ≠ code.toNat) →
          Happens (.selectPeriodEnd mosi) s [.link] (refused .unknownCommand)) ∧
        ∀ e ∈ argumentLengths, e.1 = code.toNat →
          (args.length ∉ e.2 →
            Happens (.selectPeriodEnd mosi) s [.link] (refused .invalid)) ∧
          (args.length ∈ e.2 →
            ∃ i, decodeCommand code.toNat args = .command i ∧
              Happens (.selectPeriodEnd mosi) s [.link] fun t =>
                ends t ∧ t.link.judged = some (.command i) ∧ t.link.rdy = false ∧ t.link.response = none ∧
                  t.link.collision = flag)))

/-- Every host command that can be written at the pins is read back from its own message as itself; AUTH
RESULT has a form of 3 bytes and one of 7 (log 19), and CREDIT and DEBIT carry the amount before the
account number (log 33). -/
def Obligations.DecodeOfEncodeIsTheCommand : Prop :=
  ∀ (i : Instr) (code : Nat) (args : List Byte), WellFormed i = true →
    encodeCommand i = some (code, args) → decodeCommand code args = .command i

/-- The message of a well-formed host command, whatever bytes follow it, is taken as that command when
RDY is high: RDY falls and the unread response is discarded (R182, R184, R186). The model's choices:
AUTH RESULT takes 3 bytes or 7 whatever its outcome (log 19), and CREDIT and DEBIT carry the amount before
the account number (log 33). -/
def Obligations.WellFormedMessageIsTaken : Prop :=
  ∀ (s : State) (p : SelectPeriod) (i : Instr) (code : Nat) (args tail : List Byte),
    s.resetLow = false → s.link.select = some p → s.link.judged = none → WellFormed i = true →
    encodeCommand i = some (code, args) →
    Happens (.selectPeriodEnd (messageBytes code args ++ tail)) s [.link] fun t =>
      t.link.judged = some (.command i) ∧ t.link.rdy = false ∧ t.link.response = none ∧
        t.link.select = none

/-- A host command that meets RDY low, another one executing or a refusal being placed, is discarded whole,
and the collision flag is set (R184, R185; log 6). -/
def Obligations.CommandDuringExecutionCollides : Prop :=
  ∀ (s : State) (i : Instr) (j : Judged), s.resetLow = false → s.link.judged = some j → j ≠ .command i →
    (encodeCommand i).isSome →
    Happens i s [.link] fun t =>
      t.link.judged = some j ∧ t.link.response = s.link.response ∧ t.link.collision = true ∧
        t.link.rdy = false ∧ t.link.select = s.link.select

/-! ### Accounts and tokens -/

/-- LOAD ACCOUNT refuses by the first failed check of R18, and otherwise creates the record of R19; a
MEMBER's payer counts one member more. Then which forms are well made, every other being malformed (check
1 of R18, the mask of R198), and what the record holds. -/
def Obligations.LoadAccountCreatesTheRecord : Prop :=
  (∀ (s : State) (f : LoadForm), s.ready (.loadAccount f) →
    (f.asRecord = none → Refuses (.loadAccount f) s .invalid) ∧
    ∀ a, f.asRecord = some a →
      ((s.account f.number).isSome → Refuses (.loadAccount f) s .exists_) ∧
      (s.account f.number = none →
        (1024 ≤ s.accounts.length → Refuses (.loadAccount f) s .full) ∧
        (s.accounts.length < 1024 →
          (∀ p, a.payer = some p → s.account p = none → Refuses (.loadAccount f) s .notFound) ∧
          (∀ p b, a.payer = some p → s.account p = some b →
            (b.kind = .member ∨ b.kind = .transient → Refuses (.loadAccount f) s .invalid) ∧
            (b.kind = .prepaid ∨ b.kind = .credit → b.state = .closing →
              Refuses (.loadAccount f) s .refusedState) ∧
            (b.kind = .prepaid ∨ b.kind = .credit → b.state ≠ .closing →
              Answers (.loadAccount f) s .ok [] [.accounts] fun t =>
                t.account f.number = some a ∧
                  t.account p = some { b with memberCount := b.memberCount + 1 } ∧
                  KeepsOtherAccounts [f.number, p] s t)) ∧
          (a.payer = none →
            Answers (.loadAccount f) s .ok [] [.accounts] fun t =>
              t.account f.number = some a ∧ KeepsOtherAccounts [f.number] s t)))) ∧
  (∀ f : LoadForm,
    (f.asRecord.isSome = true ↔
      1 ≤ f.number ∧ f.number ≤ 59999 ∧ f.kind ≤ 2 ∧ f.state ≤ 1 ∧
      (∀ bit : Fin 16, bit ∉ ([0, 1, 3, 5, 7, 13] : List (Fin 16)) → f.mask.getLsbD bit.val = false) ∧
      (f.mask.getLsbD 0 = true → -99999999 ≤ f.balance ∧ f.balance ≤ 999999999) ∧
      (f.mask.getLsbD 1 = true → 0 ≤ f.creditLimit ∧ f.creditLimit ≤ 10000000) ∧
      (f.mask.getLsbD 3 = true → 1 ≤ f.payer ∧ f.payer ≤ 59999) ∧
      (f.mask.getLsbD 5 = true → 0 ≤ f.periodCap ∧ f.periodCap ≤ 10000000) ∧
      (f.mask.getLsbD 7 = true → f.schedule ≤ 3) ∧
      (f.mask.getLsbD 13 = true →
        f.meter ≤ 16777215 ∧ 0 ≤ f.periodCharges ∧ f.periodCharges ≤ 999999999 ∧
          ∀ k : Fin 8, f.classCounts[k] ≤ 16777215) ∧
      (f.kind = 0 → f.mask.getLsbD 0 = true ∧ f.mask.getLsbD 1 = false ∧ f.mask.getLsbD 3 = false ∧
        f.mask.getLsbD 5 = false ∧ f.mask.getLsbD 7 = true) ∧
      (f.kind = 1 → f.mask.getLsbD 0 = true ∧ f.mask.getLsbD 1 = true ∧ f.mask.getLsbD 3 = false ∧
        f.mask.getLsbD 5 = false ∧ f.mask.getLsbD 7 = true) ∧
      (f.kind = 2 → f.mask.getLsbD 0 = false ∧ f.mask.getLsbD 1 = false ∧ f.mask.getLsbD 3 = true ∧
        f.mask.getLsbD 7 = false ∧ (f.mask.getLsbD 13 = true → f.meter = 0))) ∧
    ∀ a, f.asRecord = some a →
      a.number = f.number ∧ kindOf f.kind = some a.kind ∧ loadStateOf f.state = some a.state ∧
        a.kind ≠ .transient ∧ (a.kind ≠ .member → a.balance = f.balance ∧ a.schedule.val = f.schedule) ∧
        (a.kind = .credit → (a.creditLimit : Int) = f.creditLimit) ∧
        (a.kind = .member → a.balance = 0) ∧ (a.kind ≠ .credit → a.creditLimit = 0) ∧
        a.payer = (if a.kind = .member then some f.payer else none) ∧
        a.periodCap = (if f.mask.getLsbD 5 then some f.periodCap.toNat else none) ∧
        a.held = 0 ∧ a.memberHeld = 0 ∧ a.memberCount = 0 ∧ a.tokens = [] ∧ a.openJobs = 0 ∧
        a.walkup = none ∧
        (f.mask.getLsbD 13 = true →
          a.meter = f.meter ∧ (a.periodCharges : Int) = f.periodCharges ∧
            a.classCounts = f.classCounts ∧ a.meterSaturated = decide (f.meter = 16777215)) ∧
        (f.mask.getLsbD 13 = false →
          a.meter = 0 ∧ a.periodCharges = 0 ∧ a.classCounts = zeroCounts ∧ a.meterSaturated = false))

/-- UPDATE ACCOUNT (R20): the checks in their order with check 3 written out, the fields replaced, the
member counts moved when the payer changes, and the retry of R66 asked for when a limit was raised or a
cap raised or removed. The model's choices: an update without fields is OK, and a first cap asks for no
retry (log 24); the retry asked for stands owed in retryOwed (log 7); any payer supplied, the present one
too, meets check 4 (log 32). -/
def Obligations.UpdateAccountReplacesFields : Prop :=
  (∀ (s : State) (f : UpdateForm) (a : Account), s.ready (.updateAccount f) →
    s.account f.number = some a → a.kind ≠ .transient → f.valid a.kind = true →
    (f.payer? = none →
      Answers (.updateAccount f) s .ok [] [.accounts, .retries] fun t =>
        t.account f.number = some (f.applyTo a) ∧ KeepsOtherAccounts [f.number] s t ∧
          t.retryOwed =
            if f.raises a then s.retryOwed ++ [(f.applyTo a).billingNumber] else s.retryOwed) ∧
    (∀ p, f.payer? = some p →
      (0 < a.openJobs → Refuses (.updateAccount f) s .busy) ∧
      (a.openJobs = 0 →
        (s.account p = none → Refuses (.updateAccount f) s .notFound) ∧
        ∀ b, s.account p = some b →
          (b.kind = .member ∨ b.kind = .transient → Refuses (.updateAccount f) s .invalid) ∧
          (b.kind = .prepaid ∨ b.kind = .credit → b.state = .closing →
            Refuses (.updateAccount f) s .refusedState) ∧
          (b.kind = .prepaid ∨ b.kind = .credit → b.state ≠ .closing →
            ∀ q c, a.payer = some q → s.account q = some c → q ≠ f.number → p ≠ f.number →
              Answers (.updateAccount f) s .ok [] [.accounts, .retries] fun t =>
                t.account f.number = some (f.applyTo a) ∧
                  t.retryOwed =
                    (if f.raises a then s.retryOwed ++ [(f.applyTo a).billingNumber] else s.retryOwed) ∧
                  (p = q → KeepsOtherAccounts [f.number] s t) ∧
                  (p ≠ q → t.account q = some { c with memberCount := c.memberCount - 1 } ∧
                    t.account p = some { b with memberCount := b.memberCount + 1 } ∧
                    KeepsOtherAccounts [f.number, p, q] s t))))) ∧
  (∀ (s : State) (f : UpdateForm), s.ready (.updateAccount f) →
    (s.account f.number = none → Refuses (.updateAccount f) s .notFound) ∧
    ∀ a, s.account f.number = some a →
      (a.kind = .transient → Refuses (.updateAccount f) s .refusedState) ∧
      (a.kind ≠ .transient → f.valid a.kind = false → Refuses (.updateAccount f) s .invalid)) ∧
  (∀ (f : UpdateForm) (kind : AccountKind),
    f.payer? = (if f.mask.getLsbD 3 then some f.payer else none) ∧
    (f.valid kind = true ↔
      (∀ bit : Fin 16, bit ∉ ([1, 3, 5, 7, 14, 15] : List (Fin 16)) → f.mask.getLsbD bit.val = false) ∧
      f.mask.getLsbD 15 = false ∧ ¬(f.mask.getLsbD 5 = true ∧ f.mask.getLsbD 14 = true) ∧
      (f.mask.getLsbD 1 = true → kind = .credit ∧ 0 ≤ f.creditLimit ∧ f.creditLimit ≤ 10000000) ∧
      (f.mask.getLsbD 3 = true → kind = .member ∧ 1 ≤ f.payer ∧ f.payer ≤ 59999) ∧
      (f.mask.getLsbD 5 = true → kind = .member ∧ 0 ≤ f.periodCap ∧ f.periodCap ≤ 10000000) ∧
      (f.mask.getLsbD 14 = true → kind = .member) ∧
      (f.mask.getLsbD 7 = true → kind ≠ .member ∧ f.schedule ≤ 3))) ∧
  ∀ (f : UpdateForm) (a : Account), f.valid a.kind = true →
    ((f.applyTo a).creditLimit : Int) =
        (if f.mask.getLsbD 1 then f.creditLimit else (a.creditLimit : Int)) ∧
      (f.applyTo a).periodCap =
        (if f.mask.getLsbD 14 then none
         else if f.mask.getLsbD 5 then some f.periodCap.toNat else a.periodCap) ∧
      (f.applyTo a).schedule.val = (if f.mask.getLsbD 7 then f.schedule else a.schedule.val) ∧
      (f.applyTo a).payer = (if f.mask.getLsbD 3 then some f.payer else a.payer) ∧
      f.applyTo a =
        { a with creditLimit := (f.applyTo a).creditLimit, periodCap := (f.applyTo a).periodCap
                 schedule := (f.applyTo a).schedule, payer := (f.applyTo a).payer } ∧
      (f.raises a = true ↔
        (f.mask.getLsbD 1 = true ∧ (a.creditLimit : Int) < f.creditLimit) ∨
        ∃ cap, a.periodCap = some cap ∧
          (f.mask.getLsbD 14 = true ∨ (f.mask.getLsbD 5 = true ∧ (cap : Int) < f.periodCap)))

/-- CREDIT (R21) and DEBIT (R22): the refusals, and otherwise the balance moved whatever the state; a CREDIT
asks for the retry of held stations (R66). The model's choices: an amount outside the range is refused
before an absent account or its kind (log 31); the retry asked for stands owed in retryOwed (log 7). -/
def Obligations.CreditAndDebitMoveTheBalance : Prop :=
  (∀ (s : State) (n : Nat) (x : Int), s.ready (.credit n x) →
    ((x < 1 ∨ 100000000 < x) → Refuses (.credit n x) s .invalid) ∧
    (1 ≤ x → x ≤ 100000000 →
      (s.account n = none → Refuses (.credit n x) s .notFound) ∧
      ∀ a, s.account n = some a →
        (a.kind = .member ∨ a.kind = .transient → Refuses (.credit n x) s .refusedState) ∧
        (a.kind = .prepaid ∨ a.kind = .credit →
          (999999999 < a.balance + x → Refuses (.credit n x) s .limit) ∧
          (a.balance + x ≤ 999999999 →
            Answers (.credit n x) s .ok (beCents (a.balance + x)) [.accounts, .retries] fun t =>
              t.account n = some { a with balance := a.balance + x } ∧
                KeepsOtherAccounts [n] s t ∧ t.retryOwed = s.retryOwed ++ [n])))) ∧
  (∀ (s : State) (n : Nat) (x : Int), s.ready (.debit n x) →
    ((x < 1 ∨ 100000000 < x) → Refuses (.debit n x) s .invalid) ∧
    (1 ≤ x → x ≤ 100000000 →
      (s.account n = none → Refuses (.debit n x) s .notFound) ∧
      ∀ a, s.account n = some a →
        (a.kind = .member ∨ a.kind = .transient → Refuses (.debit n x) s .refusedState) ∧
        (a.kind = .prepaid ∨ a.kind = .credit →
          (a.balance - x < -99999999 → Refuses (.debit n x) s .limit) ∧
          (-99999999 ≤ a.balance - x →
            Answers (.debit n x) s .ok (beCents (a.balance - x)) [.accounts] fun t =>
              t.account n = some { a with balance := a.balance - x } ∧
                KeepsOtherAccounts [n] s t))))

/-- BLOCK (R23): the account BLOCKED unless CLOSING (which stays CLOSING, or is removed when the last job
that concerns it settles, R26), and the end request ACCOUNT_BLOCKED in every open job that it is user or
billing account of (R68 to R70), station by station in ascending number (log 9). One station's turn: a
JAMMED or CLOSING job has the cause recorded, a RUNNING or HELD one enters CLOSING and drains, or settles
when its path is empty, as SettlementClosesTheAccounts says. -/
def Obligations.BlockEndsTheJobsOfTheAccount : Prop :=
  (∀ (s : State) (n : Nat), s.ready (.block n) →
    (s.account n = none → Refuses (.block n) s .notFound) ∧
    ∀ a, s.account n = some a →
      (a.kind = .transient → Refuses (.block n) s .refusedState) ∧
      (a.kind ≠ .transient →
        ((∀ j ∈ s.openJobs, j.user ≠ n ∧ j.billing ≠ n) →
          Answers (.block n) s .ok [] [.accounts] fun t =>
            t.account n =
                some { a with state := if a.state = .closing then .closing else .blocked } ∧
              KeepsOtherAccounts [n] s t) ∧
        ∀ barred ended : State,
          barred = { s with
            accounts := s.accounts.map fun x =>
              if x.number = n ∧ a.state ≠ .closing then { x with state := .blocked } else x } →
          ended = allStations.foldl (State.blockAt n) barred →
          Answers (.block n) s .ok [] [.accounts, .tokens, .stations, .readers] fun t =>
            t.accounts = ended.accounts ∧ t.tokens = ended.tokens ∧
              (∀ i, (t.station i).undriven = (ended.station i).undriven ∧
                t.reader i = ended.reader i) ∧
              (a.state ≠ .closing → ∃ b, t.account n = some b ∧ b.state = .blocked) ∧
              (a.state = .closing → ∀ b, t.account n = some b → b.state = .closing) ∧
              ∀ i,
                ((∀ j, (s.station i).job = some j → j.user ≠ n ∧ j.billing ≠ n) →
                  (s.station i).state ≠ .held → (t.station i).undriven = (s.station i).undriven) ∧
                ∀ j cause, (s.station i).job = some j → (j.user = n ∨ j.billing = n) →
                  cause = j.endRequest.getD .accountBlocked →
                  ((s.station i).state = .jammed ∨ (s.station i).state = .closing →
                    (t.station i).undriven =
                      ({ s.station i with job := some { j with endRequest := some cause } } :
                        Station).undriven) ∧
                  ((s.station i).state = .running ∨ (s.station i).state = .held →
                    ((s.station i).path ≠ [] →
                      (t.station i).state = .closing ∧ (t.station i).path = (s.station i).path ∧
                        (t.station i).job.map Job.endRequest = some (some cause) ∧
                        (t.station i).drainTimer = some (s.globals.drainTimeout * 10000)) ∧
                    ((s.station i).path = [] →
                      (t.station i).state = .idle ∧ (t.station i).job = none ∧
                        (t.station i).lastJob.bind LastJob.endCause = some cause ∧
                        (t.station i).lastJob.map LastJob.charge =
                          some (settlementCharge j).1)))) ∧
  ∀ (s : State) (n : Nat) (i : StationId),
    ((∀ j, (s.station i).job = some j → j.user ≠ n ∧ j.billing ≠ n) → State.blockAt n s i = s) ∧
    ∀ j cause, (s.station i).job = some j → (j.user = n ∨ j.billing = n) →
      cause = j.endRequest.getD .accountBlocked →
      ((s.station i).state = .jammed ∨ (s.station i).state = .closing →
        State.blockAt n s i =
          s.setStation i { s.station i with job := some { j with endRequest := some cause } }) ∧
      ((s.station i).state = .running ∨ (s.station i).state = .held →
        ((s.station i).path ≠ [] →
          State.blockAt n s i =
            s.setStation i { s.station i with
              state := .closing, drainTimer := some (s.globals.drainTimeout * 10000)
              job := some { j with endRequest := some cause, idleTimer := none } }) ∧
        ((s.station i).path = [] →
          State.blockAt n s i =
            (s.setStation i { s.station i with
              state := .closing
              job := some { j with endRequest := some cause, idleTimer := none } }).settle i .idle))

/-- UNBLOCK (R24), and RETIRE ACCOUNT with its removal (R25, R26). -/
def Obligations.UnblockAndRetireAccount : Prop :=
  (∀ (s : State) (n : Nat), s.ready (.unblock n) →
    (s.account n = none → Refuses (.unblock n) s .notFound) ∧
    ∀ a, s.account n = some a →
      (a.kind = .transient ∨ a.state = .closing → Refuses (.unblock n) s .refusedState) ∧
      (a.kind ≠ .transient → a.state ≠ .closing →
        Answers (.unblock n) s .ok [] [.accounts] fun t =>
          t.account n = some { a with state := .active } ∧ KeepsOtherAccounts [n] s t)) ∧
  ∀ (s : State) (n : Nat), s.ready (.retireAccount n) →
    (s.account n = none → Refuses (.retireAccount n) s .notFound) ∧
    ∀ a, s.account n = some a →
      (a.kind = .transient → a.state ≠ .settled → Refuses (.retireAccount n) s .busy) ∧
      (a.kind ≠ .transient → 0 < a.memberCount → Refuses (.retireAccount n) s .busy) ∧
      (a.kind ≠ .transient → a.memberCount = 0 → 0 < a.openJobs →
        Answers (.retireAccount n) s .deferred [] [.accounts] fun t =>
          t.account n = some { a with state := .closing } ∧ KeepsOtherAccounts [n] s t) ∧
      ((a.kind = .transient ∧ a.state = .settled) ∨
          (a.kind ≠ .transient ∧ a.memberCount = 0 ∧ a.openJobs = 0) →
        Answers (.retireAccount n) s .ok [] [.accounts, .tokens] fun t =>
          t.account n = none ∧ t.tokens = (s.tokens.filter fun e => !a.tokens.contains e.token) ∧
            (a.payer = none → KeepsOtherAccounts [n] s t) ∧
            ∀ p b, a.payer = some p → p ≠ n → s.account p = some b →
              t.account p = some { b with memberCount := b.memberCount - 1 } ∧
                KeepsOtherAccounts [n, p] s t)

/-- CLOSE PERIOD, for one account and for ALL (R27). -/
def Obligations.ClosePeriodKeepsSheetsInPath : Prop :=
  ∀ (s : State) (n : Nat), s.ready (.closePeriod n) →
    (n ≠ 0 → s.account n = none → Refuses (.closePeriod n) s .notFound) ∧
    (∀ a, n ≠ 0 → s.account n = some a →
      Answers (.closePeriod n) s .ok [] [.accounts] fun t =>
        t.account n =
            some { a with periodCharges := 0, classCounts := #v[0, 0, 0, 0, 0, 0, 0, 0]
                          meter := s.impressionsInPath n, meterSaturated := false } ∧
          KeepsOtherAccounts [n] s t) ∧
    (n = 0 →
      Answers (.closePeriod n) s .ok (be 2 (min s.accounts.length 65535)) [.accounts] fun t =>
        ∀ m, t.account m =
          (s.account m).map fun a =>
            { a with periodCharges := 0, classCounts := #v[0, 0, 0, 0, 0, 0, 0, 0]
                     meter := s.impressionsInPath m, meterSaturated := false }) ∧
    s.impressionsInPath n =
      ((allStations.filter fun i => (s.station i).job.map Job.billing == some n).map fun i =>
        (((s.station i).path ++ (s.station i).disputed).map Sheet.impressions).sum).sum

/-- The model's choice of log 7: a reading command makes the retries of held stations still owed before
it reads, so that it sees their effect (R184, R199). -/
def Obligations.ReadingCommandsSeeOwedRetries : Prop :=
  ∀ (s : State) (c : Instr),
    ((∃ n, c = .readAccount n) ∨ (∃ n, c = .readStation n) ∨ (∃ n, c = .readStationAlarms n) ∨
      (∃ n, c = .readReader n) ∨ c = .statusSummary) →
    s.ready c →
    exec c s = exec c { s.retryOwed.foldl State.retry s with retryOwed := [] } ∧
      ∀ t, exec c s = .next t → t.retryOwed = []

/-- BIND TOKEN: the checks in their order, the token entered and appended and then found; bound to a
BLOCKED account it opens no job (R16). -/
def Obligations.BindTokenChecksThenEnters : Prop :=
  ∀ (s : State) (k : Token) (n : Nat), s.ready (.bindToken k n) →
    (k = 0#64 → Refuses (.bindToken k n) s .invalid) ∧
    (k ≠ 0#64 →
      (s.account n = none → Refuses (.bindToken k n) s .notFound) ∧
      ∀ a, s.account n = some a →
        (a.kind = .transient ∨ a.state = .closing → Refuses (.bindToken k n) s .refusedState) ∧
        (a.kind ≠ .transient → a.state ≠ .closing →
          ((∃ e ∈ s.tokens, e.token = k) → Refuses (.bindToken k n) s .exists_) ∧
          ((∀ e ∈ s.tokens, e.token ≠ k) →
            (4 ≤ a.tokens.length ∨ 2048 ≤ s.tokens.length → Refuses (.bindToken k n) s .full) ∧
            (a.tokens.length < 4 → s.tokens.length < 2048 →
              Answers (.bindToken k n) s .ok [] [.accounts, .tokens] fun t =>
                t.tokens = s.tokens ++ [{ token := k, account := n }] ∧
                  t.account n = some { a with tokens := a.tokens ++ [k] } ∧
                  KeepsOtherAccounts [n] s t ∧ t.tokenAccount k = some n ∧
                  (a.state = .blocked →
                    ∀ i u, t.account n = some u → t.openingCheck i u false ≠ none)))))

/-- FIND TOKEN and UNBIND TOKEN (R15, R17). -/
def Obligations.FindAndUnbindToken : Prop :=
  (∀ (s : State) (k : Token), s.ready (.findToken k) →
    (k = 0#64 → Refuses (.findToken k) s .invalid) ∧
    (k ≠ 0#64 → (∀ e ∈ s.tokens, e.token ≠ k) → Refuses (.findToken k) s .notFound) ∧
    ∀ n a, k ≠ 0#64 → s.tokenAccount k = some n → s.account n = some a →
      Answers (.findToken k) s .ok
        (be 2 (min n 65535) ++ be 1 a.kind.code ++ be 1 a.state.code) [] (fun _ => True)) ∧
  ∀ (s : State) (k : Token), s.ready (.unbindToken k) →
    (k = 0#64 → Refuses (.unbindToken k) s .invalid) ∧
    (k ≠ 0#64 → (∀ e ∈ s.tokens, e.token ≠ k) → Refuses (.unbindToken k) s .notFound) ∧
    ∀ n a, k ≠ 0#64 → s.tokenAccount k = some n → s.account n = some a →
      (a.kind = .transient → Refuses (.unbindToken k) s .refusedState) ∧
      (a.kind ≠ .transient →
        Answers (.unbindToken k) s .ok (be 2 (min n 65535)) [.accounts, .tokens] fun t =>
          t.tokens = (s.tokens.filter fun e => e.token != k) ∧
            t.account n = some { a with tokens := a.tokens.filter fun u => u != k } ∧
            KeepsOtherAccounts [n] s t)

/-! ### Tariffs, schedules, global settings -/

/-- WRITE TARIFF's checks on the set of fields as a whole, its replacement and results (R32 to R34), and
READ TARIFF (R35) in the layout of R198. -/
def Obligations.WriteAndReadTariff : Prop :=
  (∀ (s : State) (x : Nat), s.ready (.readTariff x) →
    (4 ≤ x → Refuses (.readTariff x) s .invalid) ∧
    ∀ (l : TariffLetter) (d : Tariff), l.val = x → d = s.tariffs[l] →
      Answers (.readTariff x) s .ok
        ([if d.isDefined then 1#8 else 0#8] ++
          ([d.prices.sm, d.prices.sc, d.prices.lm, d.prices.lc].flatMap fun p =>
            be 2 (min p.front 65535) ++ be 2 (min p.back 65535)) ++
          beCents d.startThreshold ++ beCents d.jobMinimum ++ beCents d.holdQuantum ++
          be 6 (min d.reserve 281474976710655) ++ beCents ((d.reserve + 99999) / 100000 : Nat))
        [] (fun _ => True)) ∧
  (∀ (s : State) (x : Nat) (f : TariffForm), s.ready (.writeTariff x f) →
    (4 ≤ x → Refuses (.writeTariff x f) s .invalid) ∧
    ∀ l : TariffLetter, l.val = x →
      (f.valid = false → Refuses (.writeTariff x f) s .invalid) ∧
      (f.valid = true →
        Answers (.writeTariff x f) s .ok
          (be 6 (reserveOf f.prices) ++ beCents (((reserveOf f.prices) + 99999) / 100000 : Nat))
          [.tariffs] fun t =>
          t.tariffs[l] =
              { isDefined := true, prices := f.prices, startThreshold := f.startThreshold.toNat
                jobMinimum := f.jobMinimum.toNat, holdQuantum := f.holdQuantum.toNat
                reserve := reserveOf f.prices } ∧
            ∀ k : TariffLetter, k ≠ l → t.tariffs[k] = s.tariffs[k])) ∧
  (∀ f : TariffForm,
    (f.valid = true ↔
      (∀ p ∈ [f.prices.sm, f.prices.sc, f.prices.lm, f.prices.lc],
        p.front ≤ 65535 ∧ p.back ≤ 65535) ∧
      0 ≤ f.startThreshold ∧ f.startThreshold ≤ 100000 ∧ 0 ≤ f.jobMinimum ∧ f.jobMinimum ≤ 10000 ∧
      100 ≤ f.holdQuantum ∧ f.holdQuantum ≤ 100000 ∧
      (reserveOf f.prices : Int) ≤ f.startThreshold * 100000 ∧ f.jobMinimum ≤ f.startThreshold ∧
      f.startThreshold ≤ f.holdQuantum) ∧
    (∀ p ∈ [f.prices.sm, f.prices.sc, f.prices.lm, f.prices.lc],
      (p.front + p.back) * 1000 ≤ reserveOf f.prices) ∧
    ∃ p ∈ [f.prices.sm, f.prices.sc, f.prices.lm, f.prices.lc],
      reserveOf f.prices = (p.front + p.back) * 1000)

/-- WRITE SCHEDULE with the checks of R37 and R38 written out, and READ SCHEDULE in the layout of R198 (R39).
The model's choice of log 26: the bytes of a threshold whose mask bit is clear, and those of a tier that
does not exist, are disregarded whatever they are. -/
def Obligations.WriteAndReadSchedule : Prop :=
  (∀ (s : State) (x : Nat), s.ready (.readSchedule x) →
    (4 ≤ x → Refuses (.readSchedule x) s .invalid) ∧
    ∀ (n : Fin 4) (d : Schedule), n.val = x → d = s.schedules[n] →
      Answers (.readSchedule x) s .ok
        ([BitVec.ofNat 8 (d.t1.isSome.toNat + 2 * d.t2.isSome.toNat + 4 * d.t3.isSome.toNat)] ++
          ([d.t1, d.t2, d.t3].flatMap fun t => be 3 (min (t.getD 0) 16777215)) ++
          ([d.d0, d.d1, d.d2, d.d3].flatMap fun y => be 2 (min y 65535))) [] (fun _ => True)) ∧
  (∀ (s : State) (x : Nat) (f : ScheduleForm), s.ready (.writeSchedule x f) →
    (4 ≤ x → Refuses (.writeSchedule x f) s .invalid) ∧
    ∀ n : Fin 4, n.val = x →
      ((f.mask &&& 0xF8#8) ≠ 0#8 ∨ f.table.wellFormed = false →
        Refuses (.writeSchedule x f) s .invalid) ∧
      ((f.mask &&& 0xF8#8) = 0#8 → f.table.wellFormed = true →
        Answers (.writeSchedule x f) s .ok [] [.schedules] fun t =>
          t.schedules[n] =
              { t1 := if f.mask.getLsbD 0 then some f.t1 else none
                t2 := if f.mask.getLsbD 1 then some f.t2 else none
                t3 := if f.mask.getLsbD 2 then some f.t3 else none
                d0 := f.d0, d1 := if f.mask.getLsbD 0 then f.d1 else 0
                d2 := if f.mask.getLsbD 1 then f.d2 else 0
                d3 := if f.mask.getLsbD 2 then f.d3 else 0 } ∧
            ∀ k : Fin 4, k ≠ n → t.schedules[k] = s.schedules[k])) ∧
  ∀ f : ScheduleForm,
    (f.table.wellFormed = true ↔
      (f.mask.getLsbD 1 = true → f.mask.getLsbD 0 = true) ∧
      (f.mask.getLsbD 2 = true → f.mask.getLsbD 1 = true) ∧
      (f.mask.getLsbD 0 = true → 1 ≤ f.t1 ∧ f.t1 ≤ 16777214) ∧
      (f.mask.getLsbD 1 = true → f.t1 < f.t2 ∧ f.t2 ≤ 16777214) ∧
      (f.mask.getLsbD 2 = true → f.t2 < f.t3 ∧ f.t3 ≤ 16777214) ∧
      f.d0 ≤ 900 ∧
      (f.mask.getLsbD 0 = true → f.d0 ≤ f.d1 ∧ f.d1 ≤ 900) ∧
      (f.mask.getLsbD 1 = true → f.d1 ≤ f.d2 ∧ f.d2 ≤ 900) ∧
      (f.mask.getLsbD 2 = true → f.d2 ≤ f.d3 ∧ f.d3 ≤ 900))

/-- SET GLOBALS in both its forms, with the 16 bytes of Table 9-4 (R191). -/
def Obligations.SetGlobalsClampsAndReports : Prop :=
  (∀ g : Globals,
    globalsBytes g =
      be 2 (min g.idleTimeout 65535) ++ be 2 (min g.drainTimeout 65535) ++
        be 2 (min g.jamTimeout 65535) ++ be 2 (min g.authTimeout 65535) ++
        beCents (g.preAuthAmount : Int) ++ be 1 g.walkupSchedule.val ++ be 2 (min g.pollPeriod 65535) ++
        be 1 (min g.answerLimit 255)) ∧
  ∀ (s : State) (f : GlobalsForm),
    (s.ready (.setGlobals none) →
      Answers (.setGlobals none) s .ok (globalsBytes s.globals) [] fun _ => True) ∧
    (s.ready (.setGlobals (some f)) →
      (3 < f.walkupSchedule → Refuses (.setGlobals (some f)) s .invalid) ∧
      ∀ w : Fin 4, w.val = f.walkupSchedule → ∀ g : Globals,
        g = { idleTimeout := max 10 (min f.idleTimeout 1800), drainTimeout := max 2 (min f.drainTimeout 60)
              jamTimeout := max 1 (min f.jamTimeout 60), authTimeout := max 5 (min f.authTimeout 60)
              preAuthAmount := (max 100 (min f.preAuthAmount 50000)).toNat, walkupSchedule := w
              pollPeriod := max 20 (min f.pollPeriod 250)
              answerLimit := max 1 (min f.answerLimit 25) } →
        Answers (.setGlobals (some f)) s .ok (globalsBytes g) [.globals] fun t => t.globals = g)

/-! ### Station commands -/

/-- Every station and reader command refuses with INVALID a number outside 0 to 15, before any other
check (section 4.4, R148, R151, R160). -/
def Obligations.NumbersOutsideTheHallAreInvalid : Prop :=
  ∀ (s : State) (x n letter w y z v : Nat) (f : ConfigForm) (c : Instr), 16 ≤ x →
    (c ∈ ([.configureStation x f, .enableStation x, .disableStation x, .setStationTariff x letter,
        .openJob x n, .endJob x, .clearJam x, .resetStation x, .returnToService x,
        .configureReader x n, .presetReaderCounters x w y z v] : List Instr) ∨
      (s.retryOwed = [] ∧
        c ∈ ([.readStation x, .readStationAlarms x, .readReader x] : List Instr))) →
    s.ready c → Refuses c s .invalid

/-- CONFIGURE STATION: the checks of R102 after the first, the port re-armed (R103), and how each setting
is taken (R102, R197, R198), with the 13 bytes of the configuration (Table 5-2). The model's choices: walk-up
allowed is NO as 0 and YES as 1, and any larger number is refused (log 21); an edge mask with one of bits 2 to
7 set is refused (log 34). -/
def Obligations.ConfigureStationRearmsThePort : Prop :=
  (∀ (s : State) (i : StationId) (f : ConfigForm), s.ready (.configureStation i.val f) →
    (f.named = none → Refuses (.configureStation i.val f) s .invalid) ∧
    ∀ c, f.named = some c →
      (c.permitMode ≠ .level → c.countMode = .exitOnly →
        Refuses (.configureStation i.val f) s .invalid) ∧
      (c.permitMode = .level ∨ c.countMode ≠ .exitOnly →
        ((s.station i).state ≠ .disabled → (s.station i).state ≠ .idle →
          Refuses (.configureStation i.val f) s .busy) ∧
        ((s.station i).state = .disabled ∨ (s.station i).state = .idle →
          Answers (.configureStation i.val f) s .ok (configBytes c) [.stations] fun t =>
            KeepsOtherStations i s t ∧
              (t.station i).undriven =
                { s.station i with
                  permit := false, config := c
                  filtered :=
                    { ready := rawLevel c.polarity.ready (s.station i).pins.ready
                      feed := rawLevel c.polarity.feed (s.station i).pins.feed
                      exit := rawLevel c.polarity.exit (s.station i).pins.exit
                      jam := rawLevel c.polarity.jam (s.station i).pins.jam }
                  filterTimers := ⟨none, none, none, none⟩, feedCounter := 0, exitCounter := 0
                  permitDelay := none }))) ∧
  (∀ f : ConfigForm,
    (2 < f.countMode ∨ 1 < f.classSource ∨ 7 < f.fixedClass ∨ 2 < f.permitMode ∨ 1 < f.walkupAllowed ∨
      1 < f.sessionStyle ∨ (f.edgeMask &&& 0xFC#8) ≠ 0#8 → f.named = none) ∧
    (f.countMode ≤ 2 → f.classSource ≤ 1 → f.fixedClass ≤ 7 → f.permitMode ≤ 2 → f.walkupAllowed ≤ 1 →
      f.sessionStyle ≤ 1 → (f.edgeMask &&& 0xFC#8) = 0#8 → ∃ c, f.named = some c) ∧
    ∀ c, f.named = some c →
      c.filterSteps = max 5 (min f.filterSteps 255) ∧ c.divisor = max 1 (min f.divisor 8) ∧
        c.tdSteps = min f.tdSteps 255 ∧ c.countMode.code = f.countMode ∧
        c.classSource.code = f.classSource ∧ c.fixedClass.index.val = f.fixedClass ∧
        c.permitMode.code = f.permitMode ∧ c.walkupAllowed.toNat = f.walkupAllowed ∧
        c.style.code = f.sessionStyle ∧
        (c.permitPolarity = .activeLow ↔ f.polarityMask.getLsbD 0 = true) ∧
        (c.polarity.ready = .activeLow ↔ f.polarityMask.getLsbD 1 = true) ∧
        (c.polarity.feed = .activeLow ↔ f.polarityMask.getLsbD 2 = true) ∧
        (c.polarity.exit = .activeLow ↔ f.polarityMask.getLsbD 3 = true) ∧
        (c.polarity.jam = .activeLow ↔ f.polarityMask.getLsbD 4 = true) ∧
        (c.polarity.classL = .activeLow ↔ f.polarityMask.getLsbD 5 = true) ∧
        (c.polarity.classC = .activeLow ↔ f.polarityMask.getLsbD 6 = true) ∧
        (c.polarity.classD = .activeLow ↔ f.polarityMask.getLsbD 7 = true) ∧
        (c.feedEdge = .trailing ↔ f.edgeMask.getLsbD 0 = true) ∧
        (c.exitEdge = .trailing ↔ f.edgeMask.getLsbD 1 = true) ∧
        configBytes c =
          [f.polarityMask, f.edgeMask] ++ be 2 c.filterSteps ++ be 1 c.divisor ++ be 1 f.countMode ++
            be 1 f.classSource ++ be 1 f.fixedClass ++ be 1 f.permitMode ++ be 2 c.tdSteps ++
            be 1 f.walkupAllowed ++ be 1 f.sessionStyle)

/-- ENABLE STATION, DISABLE STATION and RETURN TO SERVICE in every state (R91, R92, R135; the result of a
refused ENABLE STATION is log 18), and SET STATION TARIFF in every state (R93). -/
def Obligations.StationSwitchingByState : Prop :=
  (∀ (s : State) (i : StationId), s.ready (.enableStation i.val) →
    ((s.station i).state = .disabled →
      Answers (.enableStation i.val) s .ok [1#8] [.stations] fun t =>
        (t.station i).undriven = ({ s.station i with state := .idle } : Station).undriven ∧
          KeepsOtherStations i s t) ∧
    ((s.station i).state = .outOfService →
      Answers (.enableStation i.val) s .refusedState [7#8] [] fun _ => True) ∧
    ((s.station i).state ≠ .disabled → (s.station i).state ≠ .outOfService →
      Answers (.enableStation i.val) s .ok (be 1 (s.station i).state.code) [] fun _ => True)) ∧
  (∀ (s : State) (i : StationId), s.ready (.disableStation i.val) →
    ((s.station i).state = .idle ∨ (s.station i).state = .outOfService →
      Answers (.disableStation i.val) s .ok [] [.stations] fun t =>
        (t.station i).undriven = ({ s.station i with state := .disabled } : Station).undriven ∧
          KeepsOtherStations i s t) ∧
    ((s.station i).state = .disabled →
      Answers (.disableStation i.val) s .ok [] [] fun _ => True) ∧
    ((s.station i).state ∈ [.opening, .running, .held, .closing, .jammed] →
      Refuses (.disableStation i.val) s .busy)) ∧
  (∀ (s : State) (i : StationId), s.ready (.returnToService i.val) →
    ((s.station i).state ≠ .outOfService → Refuses (.returnToService i.val) s .refusedState) ∧
    ((s.station i).state = .outOfService → (s.station i).filtered.jam = true →
      Refuses (.returnToService i.val) s .busy) ∧
    ((s.station i).state = .outOfService → (s.station i).filtered.jam = false →
      Answers (.returnToService i.val) s .ok [] [.stations] fun t =>
        (t.station i).undriven = ({ s.station i with state := .idle } : Station).undriven ∧
          KeepsOtherStations i s t)) ∧
  (∀ (s : State) (i : StationId) (x : Nat), s.ready (.setStationTariff i.val x) →
    (4 ≤ x → Refuses (.setStationTariff i.val x) s .invalid) ∧
    ∀ l : TariffLetter, l.val = x →
      Answers (.setStationTariff i.val x) s .ok (be 1 x) [.stations] fun t =>
        (t.station i).undriven = ({ s.station i with tariff := l } : Station).undriven ∧
          KeepsOtherStations i s t)

/-- OPEN JOB (R88): an absent account, the refusal of the first opening check that fails, and otherwise the
job of R57 with hold, counts and WELCOME; the checks in the order of Table 3-2, the hold of R55, and the
new job record with its snapshot (R40, R51, R57), which a card opens too. -/
def Obligations.OpenJobOpensTheJob : Prop :=
  (∀ (s : State) (i : StationId) (n : Nat), s.ready (.openJob i.val n) →
    (s.account n = none → Refuses (.openJob i.val n) s .notFound) ∧
    ∀ u, s.account n = some u →
      (∀ refusal ∈ [(1, Status.busy), (2, .invalid), (3, .refusedState), (4, .refusedState), (5, .limit)],
        s.openingCheck i u false = some refusal.1 →
        Answers (.openJob i.val n) s refusal.2 [BitVec.ofNat 8 refusal.1] [] fun _ => True) ∧
      ∀ b, s.openingCheck i u false = none → s.account u.billingNumber = some b →
        Answers (.openJob i.val n) s .ok (beCents (s.openingHold i u) ++ beCents (s.available u))
          [.accounts, .stations, .readers] fun t =>
          KeepsOtherStations i s t ∧ KeepsOtherReaders i s t ∧ KeepsOtherAccounts [n, b.number] s t ∧
            (t.station i).undriven =
              ({ s.station i with job := some (s.newJob i u .host), state := .running } :
                Station).undriven ∧
            ShownOn i (.welcome (s.available u).toNat) s t ∧
            (u.payer = none →
              t.account n =
                some { u with held := u.held + s.openingHold i u, openJobs := u.openJobs + 1 }) ∧
            ∀ p, u.payer = some p → p ≠ n →
              t.account n =
                  some { u with memberHeld := u.memberHeld + s.openingHold i u
                                openJobs := u.openJobs + 1 } ∧
                t.account p =
                  some { b with held := b.held + s.openingHold i u, openJobs := b.openJobs + 1 }) ∧
  (∀ (s : State) (i : StationId) (u b : Account), s.account u.billingNumber = some b →
    ((s.station i).state ≠ .idle → s.openingCheck i u false = some 1) ∧
    ((s.station i).state = .idle → (s.tariffOf i).isDefined = false →
      s.openingCheck i u false = some 2) ∧
    ((s.station i).state = .idle → (s.tariffOf i).isDefined = true → u.state ≠ .active →
      s.openingCheck i u false = some 3) ∧
    ((s.station i).state = .idle → (s.tariffOf i).isDefined = true → u.state = .active →
      (b.state = .blocked ∨ b.state = .closing → s.openingCheck i u false = some 4) ∧
      (b.state ≠ .blocked → b.state ≠ .closing →
        (s.available u < ((s.tariffOf i).startThreshold : Int) →
          s.openingCheck i u false = some 5) ∧
        (((s.tariffOf i).startThreshold : Int) ≤ s.available u →
          s.openingCheck i u false = none))) ∧
    (u.kind ≠ .transient →
      (s.openingHold i u : Int) =
        min ((s.tariffOf i).holdQuantum : Int) (min (max 0 (s.available u)) 1000000)) ∧
    (u.payer = none → s.available u = u.balance + (u.creditLimit : Int) - (u.held : Int)) ∧
    (u.payer = some b.number →
      s.available u =
        match u.periodCap with
        | none => b.balance + (b.creditLimit : Int) - (b.held : Int)
        | some cap =>
          min (b.balance + (b.creditLimit : Int) - (b.held : Int))
            ((cap : Int) - (u.periodCharges : Int) - (u.memberHeld : Int)))) ∧
  ∀ (s : State) (i : StationId) (u b : Account) (by_ : OpenedBy) (d : Tariff) (n : Fin 4),
    s.account u.billingNumber = some b → u.billingNumber = u.payer.getD u.number →
    d = s.tariffs[(s.station i).tariff] →
    n = (if u.kind = .transient then s.globals.walkupSchedule else b.schedule) →
    s.tariffOf i = d ∧
    s.newJob i u by_ =
      { user := u.number, billing := u.payer.getD u.number
        kind := if u.kind = .transient then .card else .account
        openedBy := by_, authRef := u.walkup.map Walkup.authRef
        snapshot :=
          { letter := (s.station i).tariff, scheduleNumber := n, prices := d.prices
            reserve := d.reserve, holdQuantum := d.holdQuantum, jobMinimum := d.jobMinimum
            schedule := s.schedules[n] }
        hold := s.openingHold i u, accrued := 0, nextSeq := 1, pricedSheets := 0
        billed := #v[0, 0, 0, 0, 0, 0, 0, 0], billedImpressions := 0, voidedSheets := 0
        voidedImpressions := 0, jams := 0, overruns := 0, unpricedFeeds := 0, strayExits := 0
        endRequest := none, idleTimer := some (s.globals.idleTimeout * 10000) }

/-- END JOB by state (R89): recorded and draining, waiting in a jam or a close, cancelled with its record
(R173, R175) or refused. A close whose path is empty settles at once, from the state `m` that holds the
request. The model's choice of log 17: the cause byte is the place in Table 3-3 from 0, and the state
alone is the result at OPENING. -/
def Obligations.EndJobByState : Prop :=
  ∀ (s : State) (i : StationId), s.ready (.endJob i.val) →
    ((s.station i).state ∈ [.idle, .disabled, .outOfService] →
      Refuses (.endJob i.val) s .refusedState) ∧
    (∀ a, (s.station i).state = .opening → s.walkupOf i = some a →
      Answers (.endJob i.val) s .ok [1#8] [.accounts, .tokens, .stations, .readers, .walkup] fun t =>
        (t.station i).undriven =
            ({ s.station i with state := .idle, sessionToken := none } : Station).undriven ∧
          KeepsOtherStations i s t ∧ t.account a.number = none ∧
          ShownOn i (.goodbye 0) s t ∧ KeepsOtherReaders i s t ∧
          (s.account a.number = some a → a.payer = none → WalkupEnded s t a i (.goodbye 0))) ∧
    ∀ j cause, (s.station i).job = some j → cause = j.endRequest.getD .hostEnd →
      ((s.station i).state = .jammed ∨ (s.station i).state = .closing →
        Answers (.endJob i.val) s .ok
          [BitVec.ofNat 8 (s.station i).state.code, BitVec.ofNat 8 cause.place] [.stations] fun t =>
          (t.station i).undriven =
              ({ s.station i with job := some { j with endRequest := some cause } } :
                Station).undriven ∧ KeepsOtherStations i s t) ∧
      ((s.station i).state = .running ∨ (s.station i).state = .held → (s.station i).path ≠ [] →
        Answers (.endJob i.val) s .ok [5#8, BitVec.ofNat 8 cause.place] [.stations] fun t =>
          (t.station i).undriven =
              ({ s.station i with
                  state := .closing
                  job := some { j with endRequest := some cause, idleTimer := none }
                  drainTimer := some (s.globals.drainTimeout * 10000) } : Station).undriven ∧
            KeepsOtherStations i s t) ∧
      ((s.station i).state = .running ∨ (s.station i).state = .held → (s.station i).path = [] →
        Answers (.endJob i.val) s .ok [1#8, BitVec.ofNat 8 cause.place]
          [.accounts, .tokens, .stations, .readers] fun t =>
          (t.station i).state = .idle ∧ (t.station i).job = none ∧ (t.station i).sessionToken = none ∧
            ((t.station i).lastJob.bind LastJob.endCause) = some cause ∧
            ((t.station i).lastJob.map LastJob.charge) = some (settlementCharge j).1 ∧
            ShownOn i (.goodbye (settlementCharge j).1) s t ∧
            ∃ m, KeepsAllBut [.stations] s m ∧ KeepsOtherStations i s m ∧
              (m.station i).job = some { j with endRequest := some cause, idleTimer := none } ∧
              SettledFrom m i .idle t)

/-- Settlement (R74 to R77): the charge taken and the hold released, period figures and counts advanced,
the last-job record written, CLOSING accounts without open jobs removed (R26), GOODBYE, the station to its
new state; then, where the billing account is still there, the retry of held stations, made inside the
settlement (log 8). `m` is the state before that retry. -/
def Obligations.SettlementClosesTheAccounts : Prop :=
  ∀ (s : State) (i : StationId) (dest : StationState) (j : Job) (u b : Account),
    (s.station i).job = some j → s.account j.user = some u → s.account j.billing = some b →
    ∀ u' b' : Account,
      u' = { u with
        memberHeld := u.memberHeld - j.hold
        periodCharges := min (u.periodCharges + (settlementCharge j).1) 999999999
        classCounts := zipEight (fun x y => min (x + y) 16777215) u.classCounts j.billed
        openJobs := u.openJobs - 1 } →
      b' = { b with
        balance := max (-999999999) (b.balance - ((settlementCharge j).1 : Int))
        held := b.held - j.hold
        periodCharges := min (b.periodCharges + (settlementCharge j).1) 999999999
        classCounts := zipEight (fun x y => min (x + y) 16777215) b.classCounts j.billed
        openJobs := b.openJobs - 1 } →
    ∃ m : State, s.settle i dest =
        (if (m.account j.billing).isSome then m.retry j.billing else m) ∧
      KeepsAllBut [.accounts, .tokens, .stations, .readers] s m ∧
      KeepsOtherStations i s m ∧ KeepsOtherReaders i s m ∧
      m.station i =
        { s.station i with
          state := dest, sessionToken := none, job := none
          lastJob := some (j.lastRecord (max (-999999999) (b.balance - ((settlementCharge j).1 : Int)))) } ∧
      ShownOn i (.goodbye (settlementCharge j).1) s m ∧
      (j.user = j.billing → u.kind ≠ .transient → (u.state ≠ .closing ∨ 1 < u.openJobs) →
        m.tokens = s.tokens ∧ KeepsOtherAccounts [j.user] s m ∧
          m.account j.user =
            some { u with
              balance := max (-999999999) (u.balance - ((settlementCharge j).1 : Int))
              held := u.held - j.hold
              periodCharges := min (u.periodCharges + (settlementCharge j).1) 999999999
              classCounts := zipEight (fun x y => min (x + y) 16777215) u.classCounts j.billed
              openJobs := u.openJobs - 1 }) ∧
      (j.user = j.billing → u.kind ≠ .transient → u.state = .closing → u.openJobs ≤ 1 →
        m.account j.user = none ∧ m.tokens = (s.tokens.filter fun e => !u.tokens.contains e.token) ∧
          (u.payer = none → KeepsOtherAccounts [j.user] s m)) ∧
      (j.user = j.billing → u.kind = .transient →
        KeepsOtherAccounts [j.user] s m ∧
          m.tokens = (s.tokens.filter fun e => !u.tokens.contains e.token) ∧
          m.account j.user =
            some { u with
              state := .settled, tokens := []
              balance := max (-999999999) (u.balance - ((settlementCharge j).1 : Int))
              held := u.held - j.hold
              periodCharges := min (u.periodCharges + (settlementCharge j).1) 999999999
              classCounts := zipEight (fun x y => min (x + y) 16777215) u.classCounts j.billed
              openJobs := u.openJobs - 1
              walkup := u.walkup.map fun w =>
                { w with finalCharge := some (settlementCharge j).1 } }) ∧
      (j.user ≠ j.billing → u.kind ≠ .transient → b.kind ≠ .transient →
        ((u.state ≠ .closing ∨ 1 < u.openJobs) → (b.state ≠ .closing ∨ 1 < b.openJobs) →
          m.tokens = s.tokens ∧ KeepsOtherAccounts [j.user, j.billing] s m ∧
            m.account j.user = some u' ∧ m.account j.billing = some b') ∧
        ((u.state ≠ .closing ∨ 1 < u.openJobs) → b.state = .closing → b.openJobs ≤ 1 → b.payer = none →
          m.tokens = (s.tokens.filter fun e => !b.tokens.contains e.token) ∧
            KeepsOtherAccounts [j.user, j.billing] s m ∧
            m.account j.user = some u' ∧ m.account j.billing = none) ∧
        (u.state = .closing → u.openJobs ≤ 1 → u.payer = some j.billing →
          ((b.state ≠ .closing ∨ 1 < b.openJobs) →
            m.tokens = (s.tokens.filter fun e => !u.tokens.contains e.token) ∧
              KeepsOtherAccounts [j.user, j.billing] s m ∧ m.account j.user = none ∧
              m.account j.billing = some { b' with memberCount := b.memberCount - 1 }) ∧
          (b.state = .closing → b.openJobs ≤ 1 → b.payer = none →
            m.tokens = (s.tokens.filter fun e =>
              !u.tokens.contains e.token && !b.tokens.contains e.token) ∧
              KeepsOtherAccounts [j.user, j.billing] s m ∧ m.account j.user = none ∧
              m.account j.billing = none)))

/-- CLEAR JAM (R129) and the clear itself (R130): the disputed sheets voided, in list order, which leaves
`v` with job `k`; jam cause and timer gone (`m`); a held end request settled, otherwise RUNNING or HELD by
the cover test of `m`, with the idle timer anew. One sheet's void is said by PricingAccruesAndVoidsWithdraw
and the cover test by CoverTestExtendsTheHold. -/
def Obligations.ClearJamVoidsAndResumes : Prop :=
  ∀ (s : State) (i : StationId), s.ready (.clearJam i.val) →
    ((s.station i).state ≠ .jammed → Refuses (.clearJam i.val) s .refusedState) ∧
    ∀ j v, (s.station i).state = .jammed → (s.station i).job = some j →
      (s.station i).path = [] → (s.station i).disputed.length ≤ 8 →
      v = (s.station i).disputed.foldl (State.voidSheet i) s →
      ∃ k m, (v.station i).job = some k ∧
      m = v.setStation i { v.station i with disputed := [], jamTimer := none, jamCause := none } ∧
      k.accrued = (s.station i).disputed.foldl (fun acc x => acc - x.amount) j.accrued ∧
      k = { j with accrued := k.accrued, voidedSheets := k.voidedSheets
                   voidedImpressions := k.voidedImpressions } ∧
      (j.voidedSheets + (s.station i).disputed.length ≤ 4294967295 →
        k.voidedSheets = j.voidedSheets + (s.station i).disputed.length) ∧
      (j.voidedImpressions + ((s.station i).disputed.map Sheet.impressions).sum ≤ 4294967295 →
        k.voidedImpressions =
          j.voidedImpressions + ((s.station i).disputed.map Sheet.impressions).sum) ∧
      KeepsOtherAccounts [j.billing] s m ∧
      (∀ b, s.account j.billing = some b →
        m.account j.billing =
          some (if b.meterSaturated then b
            else { b with
              meter := b.meter - ((s.station i).disputed.map Sheet.impressions).sum })) ∧
      (∀ cause closing, j.endRequest = some cause →
        closing = m.setStation i
          { m.station i with state := .closing, job := some { k with idleTimer := none } } →
        Answers (.clearJam i.val) s .ok
          ([BitVec.ofNat 8 (s.station i).disputed.length, 1#8] ++ beCents (settlementCharge k).1)
          [.accounts, .tokens, .stations, .readers] fun t =>
          SettledFrom closing i .idle t ∧
            (t.station i).undriven = ((closing.settle i .idle).station i).undriven ∧
            (∃ balanceAfter, (t.station i).undriven =
              ({ s.station i with
                  state := .idle, sessionToken := none, job := none, disputed := []
                  lastJob := some (k.lastRecord balanceAfter), jamTimer := none, jamCause := none } :
                Station).undriven) ∧
            ShownOn i (.goodbye (settlementCharge k).1) s t) ∧
      (j.endRequest = none →
        ∀ state, state = (if (m.coverTest i).2 then StationState.running else .held) →
          Answers (.clearJam i.val) s .ok
            [BitVec.ofNat 8 (s.station i).disputed.length, BitVec.ofNat 8 state.code]
            [.accounts, .stations, .readers] fun t =>
            KeepsOtherStations i s t ∧ KeepsOtherReaders i s t ∧
              t.accounts = (m.coverTest i).1.accounts ∧
              (t.station i).undriven =
                ({ (m.coverTest i).1.station i with
                    state := state
                    job := ((m.coverTest i).1.station i).job.map fun x =>
                      { x with idleTimer := some (s.globals.idleTimeout * 10000) } } :
                  Station).undriven ∧
              (state = .held → ShownOn i (.stoppedNoCredit (toCents k.headroom)) s t) ∧
              (state = .running → ShownOn i (.charge (toCents k.accrued)) s t))

/-- RESET STATION by state (R136, R137): without a job nothing changes; an OPENING station's walk-up is
cancelled with its record (R173, R175); with a job every sheet is voided, the disputed ones first, which
leaves `v` with job `k`, STATION_RESET is recorded unless a cause stands (`m`), and the job settles. -/
def Obligations.ResetStationByState : Prop :=
  ∀ (s : State) (i : StationId), s.ready (.resetStation i.val) →
    ((s.station i).state ∈ [.idle, .disabled, .outOfService] →
      Answers (.resetStation i.val) s .ok (be 1 (s.station i).state.code) [] fun _ => True) ∧
    (∀ a, (s.station i).state = .opening → s.walkupOf i = some a →
      Answers (.resetStation i.val) s .ok [1#8] [.accounts, .tokens, .stations, .readers, .walkup]
        fun t =>
        (t.station i).undriven =
            ({ s.station i with state := .idle, sessionToken := none } : Station).undriven ∧
          KeepsOtherStations i s t ∧ t.account a.number = none ∧ ShownOn i (.goodbye 0) s t ∧
          KeepsOtherReaders i s t ∧
          (s.account a.number = some a → a.payer = none → WalkupEnded s t a i (.goodbye 0))) ∧
    ∀ j v sheets, (s.station i).state ∈ [.running, .held, .closing, .jammed] →
      (s.station i).job = some j → (s.station i).path.length + (s.station i).disputed.length ≤ 8 →
      sheets = (s.station i).disputed ++ (s.station i).path →
      v = sheets.foldl (State.voidSheet i) s →
      ∃ k m, (v.station i).job = some k ∧
      m = v.setStation i
        { v.station i with
          path := [], disputed := [], drainTimer := none, jamTimer := none, jamCause := none
          job := some { k with endRequest := some (j.endRequest.getD .stationReset) } } ∧
      k.accrued = sheets.foldl (fun acc x => acc - x.amount) j.accrued ∧
      k = { j with accrued := k.accrued, voidedSheets := k.voidedSheets
                   voidedImpressions := k.voidedImpressions } ∧
      (j.voidedSheets + sheets.length ≤ 4294967295 → k.voidedSheets = j.voidedSheets + sheets.length) ∧
      Answers (.resetStation i.val) s .ok
        ([1#8, BitVec.ofNat 8 sheets.length] ++ beCents (settlementCharge k).1)
        [.accounts, .tokens, .stations, .readers] fun t =>
        SettledFrom m i .idle t ∧
          (t.station i).undriven = ((m.settle i .idle).station i).undriven ∧
          (∃ balanceAfter, (t.station i).undriven =
            ({ s.station i with
                state := .idle, sessionToken := none, job := none, path := [], disputed := []
                lastJob := some
                  (({ k with endRequest := some (j.endRequest.getD .stationReset) } :
                    Job).lastRecord balanceAfter)
                drainTimer := none, jamTimer := none, jamCause := none } : Station).undriven) ∧
          ShownOn i (.goodbye (settlementCharge k).1) s t

/-! ### Jobs on their way -/

/-- The cover test with its extension (R59 to R61). -/
def Obligations.CoverTestExtendsTheHold : Prop :=
  ∀ (s : State) (i : StationId) (j : Job) (u b : Account), (s.station i).job = some j →
    s.account j.user = some u → s.account j.billing = some b →
    ∀ grant : Nat,
      grant = min j.snapshot.holdQuantum (min (s.available u).toNat (1000000 - j.hold)) →
      (j.snapshot.reserve ≤ j.headroom → s.coverTest i = (s, true)) ∧
      (j.headroom < j.snapshot.reserve →
        grant * 100000 < j.snapshot.reserve - j.headroom → s.coverTest i = (s, false)) ∧
      (j.headroom < j.snapshot.reserve →
        j.snapshot.reserve - j.headroom ≤ grant * 100000 →
        (s.coverTest i).2 = true ∧
          KeepsAllBut [.accounts, .stations] s (s.coverTest i).1 ∧
          KeepsOtherStations i s (s.coverTest i).1 ∧
          KeepsOtherAccounts [j.user, j.billing] s (s.coverTest i).1 ∧
          (s.coverTest i).1.station i =
            { s.station i with job := some { j with hold := j.hold + grant } } ∧
          (j.user = j.billing →
            (s.coverTest i).1.account j.user = some { u with held := u.held + grant }) ∧
          (j.user ≠ j.billing →
            (s.coverTest i).1.account j.user = some { u with memberHeld := u.memberHeld + grant } ∧
              (s.coverTest i).1.account j.billing = some { b with held := b.held + grant }))

/-- RETRY_OF_HELD_STATIONS (R65): stations that are not held, or whose job is billed to another account,
take no part; the others are tried in ascending number, each on what those before it left (`m`); a
covered one runs again and shows CHARGE, another is left as it was; one station's turn is the cover test. The
model's choice of log 7: one entry for the account is struck out of retryOwed, and where none is owed the
retry is made all the same. -/
def Obligations.RetryServesHeldStationsInOrder : Prop :=
  (∀ (s : State) (n : Nat), s.resetLow = false →
    Happens (.retryOfHeldStations n) s [.accounts, .stations, .readers, .retries] fun t =>
      t.retryOwed = s.retryOwed.erase n ∧ t.tokens = s.tokens ∧
        t.accounts = (allStations.foldl (State.retryAt n) s).accounts ∧
        (∀ i, ¬((s.station i).state = .held ∧ (s.station i).job.map Job.billing = some n) →
          (t.station i).undriven = (s.station i).undriven ∧ t.reader i = s.reader i) ∧
        ∀ i j, (s.station i).state = .held → (s.station i).job = some j → j.billing = n →
          ∀ m, m = (allStations.take i.val).foldl (State.retryAt n) s →
            ((m.coverTest i).2 = false →
              (t.station i).undriven = (s.station i).undriven ∧ t.reader i = s.reader i) ∧
            ((m.coverTest i).2 = true →
              (t.station i).undriven =
                  ({ (m.coverTest i).1.station i with state := .running } : Station).undriven ∧
                ShownOn i (.charge (toCents j.accrued)) s t)) ∧
  (∀ (s : State) (n : Nat) (i : StationId),
    (¬((s.station i).state = .held ∧ (s.station i).job.map Job.billing = some n) →
      State.retryAt n s i = s) ∧
    ((s.station i).state = .held → (s.station i).job.map Job.billing = some n →
      ((s.coverTest i).2 = false → State.retryAt n s i = s) ∧
      ((s.coverTest i).2 = true → State.retryAt n s i = (s.coverTest i).1.enterRunning i)))

/-- A sheet priced for a job (R41, R42, R46, R47, R52, R63): the hold forced up by what the headroom
lacks, the amount accrued, the meter advanced and saturating at its top, where it stays and gives its
ordinal; a MEMBER user's member held raised with the hold. A void takes the sheet's amount out of accrued,
and its impressions out of the meter unless that is saturated (R48). The two conditions on the meter hold
by R10 and R47 in every state of TablesAndReadersStayInRange. -/
def Obligations.PricingAccruesAndVoidsWithdraw : Prop :=
  (∀ (s : State) (i : StationId) (j : Job) (b : Account) (c : SheetClass),
    (s.station i).job = some j → s.account j.billing = some b →
    (b.meterSaturated = false → b.meter < 16777215) →
    (b.meterSaturated = true → b.meter = 16777215) →
    ∀ first impressions amount extra : Nat,
      first = (if b.meterSaturated then 16777215 else b.meter + 1) →
      impressions = (if c.duplex then 2 else 1) →
      amount = sheetAmount j.snapshot c first →
      extra = (amount - (j.hold * 100000 - j.accrued) + 99999) / 100000 →
      s.pricedSheet j c =
          { seqNo := j.nextSeq, cls := c, firstOrdinal := first, impressions := impressions
            amount := amount } ∧
        KeepsAllBut [.accounts, .stations] s (s.priceSheet i j c) ∧
        KeepsOtherStations i s (s.priceSheet i j c) ∧
        KeepsOtherAccounts [j.user, j.billing] s (s.priceSheet i j c) ∧
        (s.priceSheet i j c).station i =
          { s.station i with
            alarms :=
              { (s.station i).alarms with
                overrun := (s.station i).alarms.overrun || decide (0 < extra) }
            job := some
              { j with
                hold := j.hold + extra
                overruns := if 0 < extra then min (j.overruns + 1) 65535 else j.overruns
                accrued := j.accrued + amount
                nextSeq := if j.nextSeq = 65535 then 1 else j.nextSeq + 1
                pricedSheets := min (j.pricedSheets + 1) 4294967295 } } ∧
        (s.priceSheet i j c).account j.billing =
          some
            { b with
              meter := min (b.meter + impressions) 16777215
              meterSaturated := b.meterSaturated || decide (16777215 ≤ b.meter + impressions)
              held := b.held + extra } ∧
        ∀ u, j.user ≠ j.billing → s.account j.user = some u →
          (s.priceSheet i j c).account j.user = some { u with memberHeld := u.memberHeld + extra }) ∧
  (∀ (s : State) (i : StationId) (j : Job) (b : Account) (x : Sheet),
    (s.station i).job = some j → s.account j.billing = some b →
    KeepsAllBut [.accounts, .stations] s (State.voidSheet i s x) ∧
    KeepsOtherStations i s (State.voidSheet i s x) ∧
    KeepsOtherAccounts [j.billing] s (State.voidSheet i s x) ∧
    (State.voidSheet i s x).account j.billing =
      some (if b.meterSaturated then b else { b with meter := b.meter - x.impressions }) ∧
    (State.voidSheet i s x).station i =
      { s.station i with
        job := some
          { j with
            accrued := j.accrued - x.amount
            voidedSheets := min (j.voidedSheets + 1) 4294967295
            voidedImpressions := min (j.voidedImpressions + x.impressions) 4294967295 } })

/-! ### Lines and timers of a station -/

/-- LINE_LEVEL_CHANGE (R97, R99): the pin takes the level; on a filtered line the filter timer starts with
the filter duration when the raw level differs from the filtered state, and stops when it equals it. The
model's choices of log 25: the level given is the pin's electrical one, and a change to the level that
stands already changes nothing. -/
def Obligations.LineLevelChangeStartsTheFilter : Prop :=
  ∀ (s : State) (i : StationId) (l : InputLine) (high : Bool), s.resetLow = false →
    ((s.station i).pins.get l = high → exec (.lineLevelChange i l high) s = .next s) ∧
    ((s.station i).pins.get l ≠ high →
      Happens (.lineLevelChange i l high) s [.stations] fun t =>
        KeepsOtherStations i s t ∧
          (t.station i).pins = (s.station i).pins.put l high ∧
          (t.station i).filtered = (s.station i).filtered ∧
          (∀ f, inputFiltered l = some f →
            (t.station i).filterTimers.get f =
                (if (t.station i).raw l = (s.station i).filtered.get f then none
                 else some (s.station i).config.filterSteps) ∧
              ∀ g, g ≠ f →
                (t.station i).filterTimers.get g = (s.station i).filterTimers.get g) ∧
          (inputFiltered l = none → (t.station i).filterTimers = (s.station i).filterTimers) ∧
          (t.station i).undriven =
            ({ s.station i with
                pins := (t.station i).pins, filterTimers := (t.station i).filterTimers } :
              Station).undriven)

/-- FILTER_TIMER_EXPIRY (R99, R100, R101): the filtered state takes the raw level. READY, an edge of FEED or
EXIT that is not counted, and a pulse that completes no sheet do no more than that; a pulse that completes
a sheet is the completed feed or exit, and an edge of JAM the jam entry or the clear (R104, R124, R128). -/
def Obligations.FilterExpiryFollowsTheLine : Prop :=
  (∀ (s : State) (i : StationId) (f : FilteredLine) (k : Nat) (active : Bool), s.resetLow = false →
    (s.station i).filterTimers.get f = some k → active = (s.station i).raw (filteredInput f) →
    ∀ followed : Station,
      followed = { s.station i with
        filterTimers := (s.station i).filterTimers.put f none
        filtered := (s.station i).filtered.put f active } →
      ((f = .ready ∨ active = (s.station i).filtered.get f ∨
          (f = .feed ∧ (s.station i).config.feedEdge = (if active then .trailing else .leading)) ∨
          (f = .exit ∧ (s.station i).config.exitEdge = (if active then .trailing else .leading)) ∨
          (f = .feed ∧ (s.station i).config.countMode = .exitOnly) ∨
          (f = .exit ∧ (s.station i).config.countMode = .feedOnly)) →
        Happens (.filterTimerExpiry i f) s [.stations] fun t =>
          KeepsOtherStations i s t ∧ (t.station i).undriven = followed.undriven) ∧
      (f = .feed → active ≠ (s.station i).filtered.get f →
        (s.station i).config.feedEdge = (if active then .leading else .trailing) →
        (s.station i).config.countMode ≠ .exitOnly →
        (s.station i).feedCounter + 1 < (s.station i).config.divisor →
        Happens (.filterTimerExpiry i f) s [.stations] fun t =>
          KeepsOtherStations i s t ∧
            (t.station i).undriven =
              ({ followed with feedCounter := (s.station i).feedCounter + 1 } : Station).undriven) ∧
      (f = .exit → active ≠ (s.station i).filtered.get f →
        (s.station i).config.exitEdge = (if active then .leading else .trailing) →
        (s.station i).config.countMode ≠ .feedOnly →
        (s.station i).exitCounter + 1 < (s.station i).config.divisor →
        Happens (.filterTimerExpiry i f) s [.stations] fun t =>
          KeepsOtherStations i s t ∧
            (t.station i).undriven =
              ({ followed with exitCounter := (s.station i).exitCounter + 1 } : Station).undriven)) ∧
  (∀ (s : State) (i : StationId) (f : FilteredLine) (k : Nat) (active : Bool) (u : State),
    s.resetLow = false → (s.station i).filterTimers.get f = some k →
    active = (s.station i).raw (filteredInput f) → active ≠ (s.station i).filtered.get f →
    u = s.setStation i
      { s.station i with
        filterTimers := (s.station i).filterTimers.put f none
        filtered := (s.station i).filtered.put f active } →
    (f = .feed → (s.station i).config.feedEdge = (if active then .leading else .trailing) →
      (s.station i).config.divisor ≤ (s.station i).feedCounter + 1 →
      (s.station i).config.countMode ≠ .exitOnly →
      exec (.filterTimerExpiry i f) s =
        .next ((u.setStation i { u.station i with feedCounter := 0 }).completedFeed i).drive) ∧
    (f = .exit → (s.station i).config.exitEdge = (if active then .leading else .trailing) →
      (s.station i).config.divisor ≤ (s.station i).exitCounter + 1 →
      ((s.station i).config.countMode = .tracked →
        exec (.filterTimerExpiry i f) s =
          .next ((u.setStation i { u.station i with exitCounter := 0 }).completedExit i).drive) ∧
      ((s.station i).config.countMode = .exitOnly →
        exec (.filterTimerExpiry i f) s =
          .next ((u.setStation i { u.station i with exitCounter := 0 }).completedFeed i).drive)) ∧
    (f = .jam → active = true → (s.station i).state ∈ [.running, .held, .closing] →
      exec (.filterTimerExpiry i f) s = .next (u.jamEntry i .jamLine).drive) ∧
    (f = .jam → active = false → (s.station i).state = .jammed →
      (s.station i).jamCause = some .jamLine →
      exec (.filterTimerExpiry i f) s = .next (u.jamClear i).drive) ∧
    (f = .jam →
      ((active = true ∧ (s.station i).state ∉ [.running, .held, .closing]) ∨
        (active = false ∧
          ((s.station i).state ≠ .jammed ∨ (s.station i).jamCause ≠ some .jamLine))) →
      exec (.filterTimerExpiry i f) s = .next u.drive))

/-- A completed feed by station state (Table 5-4, R106 to R108, R110, R114, R121, R127); under
INTERLOCKED and PARTIAL it starts the permit delay. `q` is the state after a pricing, before the cover
test that RUNNING and HELD make of it. -/
def Obligations.CompletedFeedByState : Prop :=
  ∀ (s : State) (i : StationId) (delayed : Station),
    delayed =
      (if (s.station i).config.permitMode = .level then s.station i
       else { s.station i with
          permitDelay := some
            (if (s.station i).config.tdSteps = 0 then 10 - s.subMs
             else (s.station i).config.tdSteps * 100) }) →
    ((s.station i).state ∈ [.disabled, .idle, .opening, .outOfService] →
      KeepsAllBut [.stations] s (s.completedFeed i) ∧ KeepsOtherStations i s (s.completedFeed i) ∧
        (s.completedFeed i).station i =
          { delayed with
            unauthorisedFeeds := min ((s.station i).unauthorisedFeeds + 1) 65535
            alarms := { (s.station i).alarms with unauthorisedFeed := true } }) ∧
    ∀ j, (s.station i).job = some j →
      ((s.station i).state = .jammed →
        KeepsAllBut [.stations] s (s.completedFeed i) ∧ KeepsOtherStations i s (s.completedFeed i) ∧
          (s.completedFeed i).station i =
            { delayed with job := some { j with unpricedFeeds := min (j.unpricedFeeds + 1) 65535 } }) ∧
      ((s.station i).state ∈ [.running, .held, .closing] →
        ((s.station i).config.countMode = .tracked →
          8 ≤ (s.station i).path.length + (s.station i).disputed.length →
          KeepsAllBut [.stations, .readers] s (s.completedFeed i) ∧
            KeepsOtherStations i s (s.completedFeed i) ∧
            KeepsOtherReaders i s (s.completedFeed i) ∧
            (s.completedFeed i).station i =
              { delayed with
                state := .jammed, jamCause := some .pathOverflow, drainTimer := none, path := []
                disputed := (s.station i).disputed ++ (s.station i).path
                jamTimer := some (s.globals.jamTimeout * 600000)
                alarms := { (s.station i).alarms with pathOverflow := true, jamEntered := true }
                job := some
                  { j with
                    unpricedFeeds := min (j.unpricedFeeds + 1) 65535, idleTimer := none
                    jams := min (j.jams + 1) 65535 } } ∧
            ShownOn i (.jam ((s.station i).disputed ++ (s.station i).path).length) s
              (s.completedFeed i)) ∧
        ((s.station i).config.countMode ≠ .tracked ∨
            (s.station i).path.length + (s.station i).disputed.length < 8 →
          ∀ priced x k restarted, priced = s.priceSheet i j (s.station i).sheetClass →
            x = s.pricedSheet j (s.station i).sheetClass → (priced.station i).job = some k →
            restarted = (if (s.station i).state = .closing then k.idleTimer
              else some (s.globals.idleTimeout * 10000)) →
            ∃ q : State, KeepsAllBut [.accounts, .stations, .readers] s q ∧
              KeepsOtherStations i s q ∧ KeepsOtherReaders i s q ∧ q.accounts = priced.accounts ∧
              ((s.station i).config.countMode = .tracked →
                q.reader i = s.reader i ∧
                  q.station i =
                    { priced.station i with
                      permitDelay := delayed.permitDelay, path := (s.station i).path ++ [x]
                      job := some { k with idleTimer := restarted } }) ∧
              ((s.station i).config.countMode ≠ .tracked →
                ShownOn i (.charge (toCents k.accrued)) s q ∧
                  q.station i =
                    { priced.station i with
                      permitDelay := delayed.permitDelay
                      job := some
                        { k with
                          billed := k.billed.set x.cls.index (min (k.billed[x.cls.index] + 1) 4294967295)
                          billedImpressions := min (k.billedImpressions + x.impressions) 4294967295
                          idleTimer := restarted } }) ∧
              ((s.station i).state = .closing → s.completedFeed i = q) ∧
              ((s.station i).state = .running → (q.coverTest i).2 = true →
                s.completedFeed i = (q.coverTest i).1) ∧
              ((s.station i).state = .held → (q.coverTest i).2 = true →
                KeepsAllBut [.stations, .readers] (q.coverTest i).1 (s.completedFeed i) ∧
                  KeepsOtherStations i q (s.completedFeed i) ∧
                  KeepsOtherReaders i q (s.completedFeed i) ∧
                  (s.completedFeed i).station i =
                    { (q.coverTest i).1.station i with state := .running } ∧
                  ShownOn i (.charge (toCents k.accrued)) q (s.completedFeed i)) ∧
              ((s.station i).state ≠ .closing → (q.coverTest i).2 = false →
                KeepsAllBut [.stations, .readers] q (s.completedFeed i) ∧
                  KeepsOtherStations i q (s.completedFeed i) ∧
                  KeepsOtherReaders i q (s.completedFeed i) ∧
                  (s.completedFeed i).station i = { q.station i with state := .held } ∧
                  ShownOn i (.stoppedNoCredit (toCents k.headroom)) q (s.completedFeed i))))

/-- A completed exit in TRACKED mode by station state (R109, R111, R120, R126). The exit that empties
the path in CLOSING settles, as SettlementClosesTheAccounts says. -/
def Obligations.CompletedExitByState : Prop :=
  ∀ (s : State) (i : StationId),
    ((s.station i).state ∈ [.disabled, .idle, .opening, .outOfService] →
      KeepsAllBut [.stations] s (s.completedExit i) ∧ KeepsOtherStations i s (s.completedExit i) ∧
        (s.completedExit i).station i =
          { s.station i with
            strayExits := min ((s.station i).strayExits + 1) 65535
            alarms := { (s.station i).alarms with strayExit := true } }) ∧
    ∀ j, (s.station i).job = some j → ∀ restarted : Timer,
      restarted = (if (s.station i).state = .running ∨ (s.station i).state = .held then
        some (s.globals.idleTimeout * 10000) else j.idleTimer) →
      ((s.station i).state ∈ [.running, .held, .jammed] →
        (if (s.station i).state = .jammed then (s.station i).disputed else (s.station i).path) = [] →
        KeepsAllBut [.stations] s (s.completedExit i) ∧ KeepsOtherStations i s (s.completedExit i) ∧
          (s.completedExit i).station i =
            { s.station i with
              job := some { j with strayExits := min (j.strayExits + 1) 65535, idleTimer := restarted }
              alarms := { (s.station i).alarms with strayExit := true } }) ∧
      ∀ x rest billedJob,
        billedJob =
          { j with
            billed := j.billed.set x.cls.index (min (j.billed[x.cls.index] + 1) 4294967295)
            billedImpressions := min (j.billedImpressions + x.impressions) 4294967295
            idleTimer := restarted } →
        ((s.station i).state = .running ∨ (s.station i).state = .held ∨
            ((s.station i).state = .closing ∧ rest ≠ []) → (s.station i).path = x :: rest →
          KeepsAllBut [.stations, .readers] s (s.completedExit i) ∧
            KeepsOtherStations i s (s.completedExit i) ∧ KeepsOtherReaders i s (s.completedExit i) ∧
            (s.completedExit i).station i = { s.station i with path := rest, job := some billedJob } ∧
            ShownOn i (.charge ((j.accrued + 50000) / 100000)) s (s.completedExit i)) ∧
        ((s.station i).state = .jammed → (s.station i).disputed = x :: rest →
          KeepsAllBut [.stations, .readers] s (s.completedExit i) ∧
            KeepsOtherStations i s (s.completedExit i) ∧ KeepsOtherReaders i s (s.completedExit i) ∧
            (s.completedExit i).station i =
              { s.station i with disputed := rest, job := some billedJob } ∧
            ShownOn i (.charge ((j.accrued + 50000) / 100000)) s (s.completedExit i)) ∧
        ((s.station i).state = .closing → (s.station i).path = [x] → ∃ m : State,
          s.completedExit i = m.settle i .idle ∧
            KeepsAllBut [.stations, .readers] s m ∧ KeepsOtherStations i s m ∧
            KeepsOtherReaders i s m ∧ ShownOn i (.charge ((j.accrued + 50000) / 100000)) s m ∧
            m.station i =
              { s.station i with path := [], drainTimer := none, job := some billedJob })

/-- DRAIN_TIMER_EXPIRY enters a jam by the steps of R125 (R122), PERMIT_DELAY_EXPIRY drives PERMIT anew
(R112, R114), IDLE_TIMER_EXPIRY raises IDLE_TIMEOUT (R69, R70, R72). -/
def Obligations.StationTimersExpire : Prop :=
  ∀ (s : State) (i : StationId), s.resetLow = false →
    (∀ j k, (s.station i).drainTimer = some k → (s.station i).job = some j →
      Happens (.drainTimerExpiry i) s [.stations, .readers] fun t =>
        KeepsOtherStations i s t ∧ KeepsOtherReaders i s t ∧
          (t.station i).undriven =
            ({ s.station i with
                state := .jammed, jamCause := some .drainTimeout, drainTimer := none, path := []
                disputed := (s.station i).disputed ++ (s.station i).path
                jamTimer := some (s.globals.jamTimeout * 600000)
                alarms := { (s.station i).alarms with jamEntered := true }
                job := some { j with idleTimer := none, jams := min (j.jams + 1) 65535 } } :
              Station).undriven ∧
          (t.station i).permit = false ∧
          ShownOn i (.jam ((s.station i).disputed ++ (s.station i).path).length) s t) ∧
    (Happens (.permitDelayExpiry i) s [.stations] fun t =>
      KeepsOtherStations i s t ∧
        (t.station i).undriven = ({ s.station i with permitDelay := none } : Station).undriven ∧
        ((t.station i).permit = true ↔
          (s.station i).state = .running ∧
            ((s.station i).config.permitMode = .interlocked → (s.station i).filtered.ready = true))) ∧
    ∀ j k cause, (s.station i).job = some j → j.idleTimer = some k →
      (s.station i).state = .running ∨ (s.station i).state = .held →
      cause = j.endRequest.getD .idleTimeout →
      ((s.station i).path ≠ [] →
        Happens (.idleTimerExpiry i) s [.stations] fun t =>
          KeepsOtherStations i s t ∧
            (t.station i).undriven =
              ({ s.station i with
                  state := .closing, drainTimer := some (s.globals.drainTimeout * 10000)
                  job := some { j with endRequest := some cause, idleTimer := none } } :
                Station).undriven) ∧
      ((s.station i).path = [] →
        Happens (.idleTimerExpiry i) s [.accounts, .tokens, .stations, .readers] fun t =>
          (t.station i).state = .idle ∧ (t.station i).job = none ∧ (t.station i).sessionToken = none ∧
            ((t.station i).lastJob.bind LastJob.endCause) = some cause ∧
            ShownOn i (.goodbye (settlementCharge j).1) s t ∧
            ∃ m, KeepsAllBut [.stations] s m ∧ KeepsOtherStations i s m ∧
              (m.station i).job = some { j with endRequest := some cause, idleTimer := none } ∧
              SettledFrom m i .idle t)

/-- JAM_TIMEOUT (R132): the disputed sheets voided, in list order, which leaves `v` with job `k`; jam cause and
timer gone and JAM_TIMEOUT recorded unless a cause stands (`m`); the job settled, the station OUT_OF_SERVICE
with its alarm and display. One sheet's void is said by PricingAccruesAndVoidsWithdraw and the settlement by
SettlementClosesTheAccounts. -/
def Obligations.JamTimeoutTakesStationOut : Prop :=
  ∀ (s : State) (i : StationId) (j : Job) (left : Nat) (v : State), s.resetLow = false →
    (s.station i).job = some j → (s.station i).jamTimer = some left →
    v = (s.station i).disputed.foldl (State.voidSheet i) s →
    ∃ k m, (v.station i).job = some k ∧
      m = v.setStation i
        { v.station i with
          disputed := [], jamTimer := none, jamCause := none
          job := some { k with endRequest := some (j.endRequest.getD .jamTimeout) } } ∧
      k.accrued = (s.station i).disputed.foldl (fun acc x => acc - x.amount) j.accrued ∧
      k = { j with accrued := k.accrued, voidedSheets := k.voidedSheets
                   voidedImpressions := k.voidedImpressions } ∧
      (j.voidedSheets + (s.station i).disputed.length ≤ 4294967295 →
        k.voidedSheets = j.voidedSheets + (s.station i).disputed.length) ∧
      Happens (.jamTimeout i) s [.accounts, .tokens, .stations, .readers] fun t =>
        SettledFrom m i .outOfService t ∧
          (t.station i).undriven =
            ({ (m.settle i .outOfService).station i with
                alarms := { (s.station i).alarms with outOfService := true } } : Station).undriven ∧
          (∃ balanceAfter, (t.station i).undriven =
            ({ s.station i with
                state := .outOfService, sessionToken := none, job := none, disputed := []
                lastJob := some
                  (({ k with endRequest := some (j.endRequest.getD .jamTimeout) } :
                    Job).lastRecord balanceAfter)
                jamTimer := none, jamCause := none
                alarms := { (s.station i).alarms with outOfService := true } } : Station).undriven) ∧
          ShownOn i .outOfService s t

/-- AUTH_TIMER_EXPIRY removes the PENDING record with NO_RESPONSE, WAITING or TAKEN alike (R173, R174). -/
def Obligations.AuthExpiryRemovesTheRecord : Prop :=
  ∀ (s : State) (n k : Nat) (a : Account) (w : Walkup), s.resetLow = false → s.account n = some a →
    a.kind = .transient → a.state = .pending → a.walkup = some w → w.authTimer = some k →
    a.payer = none →
    Happens (.authTimerExpiry n) s [.accounts, .tokens, .stations, .readers, .walkup] fun t =>
      t.account n = none ∧ KeepsOtherAccounts [n] s t ∧
        t.tokens = (s.tokens.filter fun e => !a.tokens.contains e.token) ∧
        t.wau = { s.wau with waiting := s.wau.waiting.filter fun m => m != n } ∧
        KeepsOtherStations w.station s t ∧ KeepsOtherReaders w.station s t ∧
        (t.station w.station).undriven =
          ({ s.station w.station with state := .idle, sessionToken := none } : Station).undriven ∧
        ShownOn w.station .noResponse s t

/-! ### Readers and the reader bus -/

/-- CONFIGURE READER, READ READER, PRESET READER COUNTERS and SEND SHOP MESSAGE (R148, R151, R157, R160);
READ READER where no retry is owed, with its results in the order of R160. The model's choices: the
strict-header setting is sent ON as 0 and OFF as 1 (log 21), and an absent display and an empty broadcast
slot are sent as zeros (log 22). -/
def Obligations.ReaderAndMessageCommands : Prop :=
  (∀ (s : State) (i : StationId) (x : Nat), s.ready (.configureReader i.val x) →
    (2 ≤ x → Refuses (.configureReader i.val x) s .invalid) ∧
    (x < 2 →
      Answers (.configureReader i.val x) s .ok (be 1 x) [.readers] fun t =>
        t.reader i = { s.reader i with strictHeader := x == 0 } ∧ KeepsOtherReaders i s t)) ∧
  (∀ (s : State) (i : StationId) (r : Reader) (display broadcast : List Byte), s.retryOwed = [] →
    s.ready (.readReader i.val) → r = s.reader i →
    (r.display = none → display = List.replicate 7 0#8) →
    (∀ d, r.display = some d → display = 1#8 :: displayPayload d) →
    (s.bus.broadcast = none → broadcast = [0#8, 0#8]) →
    (∀ x, s.bus.broadcast = some x → broadcast = 1#8 :: be 1 (min x 255)) →
    Answers (.readReader i.val) s .ok
      ([if r.polled then 1#8 else 0#8, if r.link = .inService then 0#8 else 1#8] ++
        be 1 (min r.consecutive 255) ++ be 1 (min r.hdrCorrected 255) ++ be 1 (min r.hdrBad 255) ++
        be 1 (min r.crcBad 255) ++ be 1 (min r.noAnswer 255) ++ [if r.strictHeader then 0#8 else 1#8] ++
        display ++
        [BitVec.ofNat 8 ((if r.linkLost then 1 else 0) + (if r.counterSaturated then 2 else 0))] ++
        broadcast) [.readers] fun t =>
      t.reader i =
          { r with linkLost := r.linkLost && r.link == .lost, counterSaturated := false } ∧
        KeepsOtherReaders i s t) ∧
  (∀ a c : Nat,
    displayPayload (.welcome a) = 0#8 :: be 4 a ++ [0#8] ∧
    displayPayload (.charge a) = 1#8 :: be 4 a ++ [0#8] ∧
    displayPayload (.stoppedNoCredit a) = 2#8 :: be 4 a ++ [0#8] ∧
    displayPayload (.jam c) = [3#8, 0#8, 0#8, 0#8, 0#8] ++ be 1 c ∧
    displayPayload (.jamCleared c) = [4#8, 0#8, 0#8, 0#8, 0#8] ++ be 1 c ∧
    displayPayload (.goodbye a) = 13#8 :: be 4 a ++ [0#8] ∧
    [Display.declined, .noResponse, .unknownCard, .accountBlocked, .stationBusy, .cardInUse,
        .walkupUnavailable, .authorising, .outOfService].map displayPayload =
      ([5, 6, 7, 8, 9, 10, 11, 12, 14] : List Byte).map fun code => [code, 0#8, 0#8, 0#8, 0#8, 0#8]) ∧
  (∀ (s : State) (i : StationId) (w x y z : Nat), s.ready (.presetReaderCounters i.val w x y z) →
    ((255 < w ∨ 255 < x ∨ 255 < y ∨ 255 < z) →
      Refuses (.presetReaderCounters i.val w x y z) s .invalid) ∧
    (w ≤ 255 → x ≤ 255 → y ≤ 255 → z ≤ 255 → (s.reader i).inRange →
      Answers (.presetReaderCounters i.val w x y z) s .ok
        (be 1 (s.reader i).hdrCorrected ++ be 1 (s.reader i).hdrBad ++ be 1 (s.reader i).crcBad ++
          be 1 (s.reader i).noAnswer) [.readers] fun t =>
        t.reader i =
            { s.reader i with hdrCorrected := w, hdrBad := x, crcBad := y, noAnswer := z } ∧
          KeepsOtherReaders i s t)) ∧
  ∀ (s : State) (x : Nat), s.ready (.sendShopMessage x) →
    (15 < x → Refuses (.sendShopMessage x) s .invalid) ∧
    (x ≤ 15 →
      Answers (.sendShopMessage x) s .ok [if s.bus.broadcast = none then 0#8 else 1#8] [.bus] fun t =>
        t.bus = { s.bus with broadcast := some x })

/-- RESET READER BUS (R158), POLL_PERIOD_START and PERIOD_TIMER_EXPIRY (R141, R154), SLOT_START (R142,
R156). `list` is the poll list. The model's choice of log 27: while the reader of an abandoned answer holds the
clock no slot begins, and RESET READER BUS ends that holding. -/
def Obligations.PollPeriodsAndSlotsBegin : Prop :=
  ∀ (s : State) (list : List StationId), s.resetLow = false →
    list = (allStations.filter fun i => (s.station i).state != .disabled) →
    (s.ready .resetReaderBus →
      Answers .resetReaderBus s .ok [] [.readers, .bus] fun t =>
        t.bus =
            { phase := if list = [] then .atRest else .betweenSlots, clockHeld := false, toServe := list
              periodTimer := some (s.globals.pollPeriod * 10), broadcast := none } ∧
          ∀ i, t.reader i =
            { s.reader i with
              polled := (s.station i).state != .disabled, link := .lost, consecutive := 0
              display := none, displayReplaced := false }) ∧
    (s.bus.phase = .atRest → s.bus.periodTimer = none →
      Happens .pollPeriodStart s [.readers, .bus] fun t =>
        (∀ i, ((s.station i).state ≠ .disabled →
            t.reader i = { s.reader i with polled := true }) ∧
          ((s.station i).state = .disabled → (s.reader i).polled = false →
            t.reader i = s.reader i) ∧
          ((s.station i).state = .disabled → (s.reader i).polled = true →
            t.reader i =
              { s.reader i with
                polled := false, link := .lost, consecutive := 0, display := none
                displayReplaced := false })) ∧
        t.bus.toServe = list ∧ t.bus.periodTimer = some (s.globals.pollPeriod * 10) ∧
        t.bus.clockHeld = s.bus.clockHeld ∧ t.bus.broadcast = none ∧
        (∀ x, s.bus.broadcast = some x → t.bus.phase = .broadcasting x) ∧
        (s.bus.broadcast = none → t.bus.phase = if list = [] then .atRest else .betweenSlots)) ∧
    (Happens .periodTimerExpiry s [.bus] fun t => t.bus = { s.bus with periodTimer := none }) ∧
    (s.bus.clockHeld = true → Happens .slotStart s [] fun _ => True) ∧
    ∀ i rest, s.bus.phase = .betweenSlots → s.bus.toServe = i :: rest → s.bus.clockHeld = false →
      (∀ d, (s.reader i).link = .inService → (s.reader i).display = some d →
        Happens .slotStart s [.readers, .bus] fun t =>
          t.bus = { s.bus with phase := .displaying i d, toServe := rest } ∧
            t.reader i = { s.reader i with displayReplaced := false } ∧ KeepsOtherReaders i s t ∧
            busFrame t.bus.phase = some (makeFrame i.val 2 (displayPayload d))) ∧
      ((s.reader i).link = .lost ∨ (s.reader i).display = none →
        Happens .slotStart s [.bus] fun t =>
          t.bus = { s.bus with phase := .polling i, toServe := rest } ∧
            busFrame t.bus.phase = some (makeFrame i.val 1 []))

/-- BROADCAST_TRANSFER_END, DISPLAY_TRANSFER_END, POLL_TRANSFER_END, ANSWER_LIMIT_EXPIRY and
CLOCK_RELEASED (R142 to R144, R149, R152, R156, R157). `after` is the phase once a slot has ended and
`unanswered` the reader record after the outcome NO_ANSWER. The model's choice of log 27: the answer limit ends
the slot, and from it to CLOCK_RELEASED the clock is held, in which time no BROADCAST ends. -/
def Obligations.TransfersEndByTheirOutcome : Prop :=
  ∀ (s : State) (i : StationId) (after : BusPhase) (unanswered : Reader), s.resetLow = false →
    after = (if s.bus.toServe = [] then .atRest else .betweenSlots) →
    unanswered =
      { s.reader i with
        noAnswer := min ((s.reader i).noAnswer + 1) 255
        counterSaturated := (s.reader i).counterSaturated || decide (255 ≤ (s.reader i).noAnswer)
        link :=
          if (s.reader i).link = .inService ∧ (s.reader i).consecutive < 2 then .inService else .lost
        consecutive :=
          if (s.reader i).link = .inService ∧ (s.reader i).consecutive < 2
          then (s.reader i).consecutive + 1 else 0
        linkLost := (s.reader i).linkLost ||
          decide ((s.reader i).link = .inService ∧ 2 ≤ (s.reader i).consecutive) } →
    (∀ x, s.bus.phase = .broadcasting x →
      (s.bus.clockHeld = false →
        Happens .broadcastTransferEnd s [.bus] fun t => t.bus = { s.bus with phase := after }) ∧
      (s.bus.clockHeld = true → Happens .broadcastTransferEnd s [] fun _ => True)) ∧
    (∀ d delivered, s.bus.phase = .displaying i d →
      Happens (.displayTransferEnd delivered) s [.readers, .bus] fun t =>
        t.bus = { s.bus with phase := .polling i } ∧ KeepsOtherReaders i s t ∧
          t.reader i =
            (if delivered = true ∧ (s.reader i).displayReplaced = false
             then { s.reader i with display := none } else s.reader i)) ∧
    (s.bus.phase = .polling i →
      (Happens (.pollTransferEnd true) s [.bus] fun t =>
        t.bus = { s.bus with phase := .reading i s.globals.answerLimit }) ∧
      Happens (.pollTransferEnd false) s [.readers, .bus] fun t =>
        t.bus = { s.bus with phase := after } ∧ t.reader i = unanswered ∧ KeepsOtherReaders i s t) ∧
    (∀ limit, s.bus.phase = .reading i limit →
      Happens .answerLimitExpiry s [.readers, .bus] fun t =>
        t.bus = { s.bus with phase := after, clockHeld := true } ∧ t.reader i = unanswered ∧
          KeepsOtherReaders i s t) ∧
    Happens .clockReleased s [.bus] fun t => t.bus = { s.bus with clockHeld := false }

/-- What an answer is judged to be (R145 to R147, R149, R195). First: every answer of Table 7-3 that the
polled reader sends is GOOD with its event, also with any one bit of its header flipped on the way, which
is then counted; a wrong CRC makes it BAD. Then, for any frame: syndrome and parity of the received header
and check byte written out; the finding with the header to go on with and the fault it counts; an
UNCORRECTABLE header under strict-header ON is BAD with HDR_BAD whatever follows; otherwise the CRC over
that header and the payload decides first, then the header faults and payload faults of the content check,
each looked for by itself (log 16 for an answer with both). -/
def Obligations.AnswersAreJudgedByTheirFrame : Prop :=
  (∀ (i : StationId) (strict : Bool) (type : Nat) (payload : List Byte) (event : Option ReaderEvent),
    ((type = 4 ∧ payload = [] ∧ event = none) ∨
      (∃ (k : Token) (kind : CardKind) (style : SessionStyle), type = 5 ∧ k ≠ 0#64 ∧
        payload = be 8 k.toNat ++ [if kind = .shop then 0#8 else 1#8, if style = .tap then 0#8 else 1#8] ∧
        event = some (.card k kind style)) ∨
      (type = 6 ∧ payload = [] ∧ event = some .cardOut) ∨
      (type = 7 ∧ payload = [0#8] ∧ event = some (.key .endKey)) ∨
      (type = 7 ∧ payload = [1#8] ∧ event = some (.key .cancel))) →
    ∀ (header : BitVec 16) (frame : List Byte),
      header = BitVec.ofNat 16 (i.val * 2048 + type * 256 + payload.length) →
      frame = be 2 header.toNat ++ [headerCheckByte header] ++ payload ++
        crcBytes (be 2 header.toNat ++ payload) →
      judgeAnswer i strict frame = { good := true, faults := [], event := event } ∧
      (∀ bit : Fin 16,
        judgeAnswer i strict
            (be 2 (header ^^^ (1#16 <<< bit.val)).toNat ++ [headerCheckByte header] ++ payload ++
              crcBytes (be 2 header.toNat ++ payload)) =
          { good := true, faults := [.hdrCorrected], event := event }) ∧
      ∀ crc : BitVec 16, crc ≠ crc16 (be 2 header.toNat ++ payload) →
        judgeAnswer i strict
            (be 2 header.toNat ++ [headerCheckByte header] ++ payload ++ be 2 crc.toNat) =
          { good := false, faults := [.crcBad], event := none }) ∧
  ∀ (i : StationId) (strict : Bool) (received : BitVec 16) (check : Byte) (odd : List Nat → Bool)
    (syn : Nat) (even uncorrectable : Bool),
    (∀ places, odd places = places.foldl (fun b n => xor b (received.getLsbD n)) false) →
    syn = (xor (check.getLsbD 0) (odd [15, 14, 12, 11, 9, 7, 5, 4, 2, 0])).toNat +
      2 * (xor (check.getLsbD 1) (odd [15, 13, 12, 10, 9, 6, 5, 3, 2])).toNat +
      4 * (xor (check.getLsbD 2) (odd [14, 13, 12, 8, 7, 6, 5, 1, 0])).toNat +
      8 * (xor (check.getLsbD 3) (odd [11, 10, 9, 8, 7, 6, 5])).toNat +
      16 * (xor (check.getLsbD 4) (odd [4, 3, 2, 1, 0])).toNat →
    even = (check.getLsbD 5 ==
      [0, 1, 2, 3, 4].foldl (fun b n => xor b (check.getLsbD n))
        (odd [15, 14, 13, 12, 11, 10, 9, 8, 7, 6, 5, 4, 3, 2, 1, 0])) →
    uncorrectable = (if even then decide (syn ≠ 0) else decide (21 < syn)) →
    (uncorrectable = true → strict = true → ∀ rest : List Byte,
      judgeAnswer i strict (be 2 received.toNat ++ [check] ++ rest) =
        { good := false, faults := [.hdrBad], event := none }) ∧
    ∀ (header : BitVec 16) (found : List ErrorCounter),
      ((even = true ∧ syn = 0 ∧ header = received ∧ found = []) ∨
        (even = false ∧ syn ∈ [0, 1, 2, 4, 8, 16] ∧ header = received ∧ found = [.hdrCorrected]) ∨
        (even = false ∧ ∃ n : Fin 16, [3, 5, 6, 7, 9, 10, 11, 12, 13, 14, 15, 17, 18, 19, 20, 21][n]? = some syn ∧
          header = received ^^^ (1#16 <<< (15 - n.val)) ∧ found = [.hdrCorrected]) ∨
        (uncorrectable = true ∧ strict = false ∧ header = received ∧ found = [.hdrBad])) →
      ∀ (payload rest : List Byte) (crc : BitVec 16) (address type spare length : Nat),
        address = header.toNat / 2048 → type = header.toNat / 256 % 8 →
        spare = header.toNat / 32 % 8 → length = header.toNat % 32 →
        payload.length = (if uncorrectable then min length 16 else length) →
        ∀ frame, frame = be 2 received.toNat ++ [check] ++ payload ++ be 2 crc.toNat ++ rest →
        (crc ≠ crc16 (be 2 header.toNat ++ payload) →
          judgeAnswer i strict frame =
            { good := false, faults := found ++ [.crcBad], event := none }) ∧
        (crc = crc16 (be 2 header.toNat ++ payload) →
          ∀ headerFault payloadFault : Bool,
            (headerFault = true ↔
              address ≠ i.val ∨ spare ≠ 0 ∨
                (type, length) ∉ [((4 : Nat), (0 : Nat)), (5, 10), (6, 0), (7, 1)]) →
            (payloadFault = true ↔
              (type = 5 ∧ length = 10 ∧
                (payload.take 8 = List.replicate 8 0#8 ∨ 1 < numberAt payload 8 1 ∨
                  1 < numberAt payload 9 1)) ∨
              (type = 7 ∧ length = 1 ∧ 1 < numberAt payload 0 1)) →
            (headerFault = true ∨ payloadFault = true →
              judgeAnswer i strict frame =
                { good := false
                  faults := found ++ (if headerFault then [.hdrBad] else []) ++
                    (if payloadFault then [.crcBad] else [])
                  event := none }) ∧
            (headerFault = false → payloadFault = false →
              (judgeAnswer i strict frame).good = true ∧
                (judgeAnswer i strict frame).faults = found ∧
                (type = 4 → (judgeAnswer i strict frame).event = none) ∧
                (∀ (k : Token) (kind : CardKind) (style : SessionStyle), type = 5 →
                  payload =
                    be 8 k.toNat ++
                      [if kind = .shop then 0#8 else 1#8, if style = .tap then 0#8 else 1#8] →
                  (judgeAnswer i strict frame).event = some (.card k kind style)) ∧
                (type = 6 → (judgeAnswer i strict frame).event = some .cardOut) ∧
                (type = 7 → payload = [0#8] →
                  (judgeAnswer i strict frame).event = some (.key .endKey)) ∧
                (type = 7 → payload = [1#8] →
                  (judgeAnswer i strict frame).event = some (.key .cancel))))

/-- ANSWER_RECEIVED (R142, R146, R149, R150, R152, R153): the faults counted under the link state as it
stood, each on its counter, the outcome applied to the link state, and the event of a GOOD answer handed
to the station when the reader is then IN_SERVICE. `m` is the state in which the station takes the event. -/
def Obligations.AnswerOutcomeIsApplied : Prop :=
  ∀ (s : State) (i : StationId) (limit : Nat) (frame : List Byte) (j : Judgement), s.resetLow = false →
    s.bus.phase = .reading i limit → j = judgeAnswer i (s.reader i).strictHeader frame →
    ∃ m t : State, exec (.answerReceived frame) s = .next t ∧ PinsLaw t ∧
      KeepsAllBut [.readers] s m ∧ KeepsOtherReaders i s m ∧
      m.reader i = (s.reader i).judged j.good j.faults ∧
      t.bus = { s.bus with phase := if s.bus.toServe = [] then .atRest else .betweenSlots } ∧
      (∀ e, j.good = true → j.event = some e → (m.reader i).link = .inService →
        KeepsAllBut [.bus] (m.readerEvent i e) t) ∧
      (j.good = false ∨ j.event = none ∨ (m.reader i).link = .lost → KeepsAllBut [.bus] m t) ∧
      ((s.reader i).link = .inService → j.good = true →
        (m.reader i).link = .inService ∧ (m.reader i).consecutive = 0) ∧
      ((s.reader i).link = .inService → j.good = false →
        ((s.reader i).consecutive < 2 →
          (m.reader i).link = .inService ∧ (m.reader i).consecutive = (s.reader i).consecutive + 1 ∧
            (m.reader i).linkLost = (s.reader i).linkLost) ∧
        (2 ≤ (s.reader i).consecutive →
          (m.reader i).link = .lost ∧ (m.reader i).consecutive = 0 ∧ (m.reader i).linkLost = true)) ∧
      ((s.reader i).link = .lost → j.good = false →
        (m.reader i).link = .lost ∧ (m.reader i).consecutive = 0) ∧
      ((s.reader i).link = .lost → j.good = true →
        ((s.reader i).consecutive < 2 →
          (m.reader i).link = .lost ∧ (m.reader i).consecutive = (s.reader i).consecutive + 1) ∧
        (2 ≤ (s.reader i).consecutive →
          (m.reader i).link = .inService ∧ (m.reader i).consecutive = 0)) ∧
      ((s.reader i).link = .inService → (s.reader i).inRange →
        ∀ corrected bad crc : Nat,
          corrected = (s.reader i).hdrCorrected + j.faults.count .hdrCorrected →
          bad = (s.reader i).hdrBad + j.faults.count .hdrBad →
          crc = (s.reader i).crcBad + j.faults.count .crcBad →
          m.reader i =
            { s.reader i with
              link := (m.reader i).link, consecutive := (m.reader i).consecutive
              linkLost := (m.reader i).linkLost
              hdrCorrected := min corrected 255, hdrBad := min bad 255, crcBad := min crc 255
              counterSaturated :=
                (s.reader i).counterSaturated || decide (255 < corrected) || decide (255 < bad) ||
                  decide (255 < crc) }) ∧
      ((s.reader i).link = .inService → j.good = true →
        (m.reader i).linkLost = (s.reader i).linkLost) ∧
      ((s.reader i).link = .lost →
        m.reader i =
          { s.reader i with
            link := (m.reader i).link, consecutive := (m.reader i).consecutive })

/-! ### Reader events at the station -/

/-- A CARD of matching style at an IDLE station (R82 to R84, R165, R166): the display of a refusal, the
job of the bound account, or the walk-up of a bank card that is not in the index. Its number and its reference
are the first on their rotors, above where each stands, that are not taken (R163, R164). -/
def Obligations.CardAtAnIdleStation : Prop :=
  ∀ (s : State) (i : StationId) (k : Token) (kind : CardKind) (style : SessionStyle) (t : State),
    (s.station i).state = .idle → style = (s.station i).config.style →
    t = s.readerEvent i (.card k kind style) →
    (∀ n u, s.tokenAccount k = some n → s.account n = some u →
      (u.kind = .transient →
        KeepsAllBut [.readers] s t ∧ KeepsOtherReaders i s t ∧ ShownOn i .cardInUse s t) ∧
      (u.kind ≠ .transient →
        (∀ check, s.openingCheck i u false = some check →
          KeepsAllBut [.readers] s t ∧ KeepsOtherReaders i s t ∧
            (check = 2 → ShownOn i .outOfService s t) ∧
            (check = 3 ∨ check = 4 → ShownOn i .accountBlocked s t) ∧
            (check = 5 → ShownOn i .declined s t)) ∧
        (s.openingCheck i u false = none →
          KeepsAllBut [.accounts, .stations, .readers] s t ∧ KeepsOtherStations i s t ∧
            KeepsOtherReaders i s t ∧ KeepsOtherAccounts [n, u.payer.getD n] s t ∧
            ShownOn i (.welcome (s.available u).toNat) s t ∧
            ∀ (b : Account) (d : Tariff) (hold : Nat), s.account (u.payer.getD n) = some b →
              d = s.tariffs[(s.station i).tariff] →
              hold = min d.holdQuantum (min (s.available u).toNat 1000000) →
              t.station i =
                { s.station i with
                  state := .running, sessionToken := some k
                  job := some
                    { user := n, billing := u.payer.getD n, kind := .account, openedBy := .reader
                      authRef := u.walkup.map Walkup.authRef
                      snapshot :=
                        { letter := (s.station i).tariff, scheduleNumber := b.schedule
                          prices := d.prices, reserve := d.reserve, holdQuantum := d.holdQuantum
                          jobMinimum := d.jobMinimum, schedule := s.schedules[b.schedule] }
                      hold := hold, accrued := 0, nextSeq := 1, pricedSheets := 0
                      billed := #v[0, 0, 0, 0, 0, 0, 0, 0], billedImpressions := 0, voidedSheets := 0
                      voidedImpressions := 0, jams := 0, overruns := 0, unpricedFeeds := 0
                      strayExits := 0, endRequest := none
                      idleTimer := some (s.globals.idleTimeout * 10000) } } ∧
              (u.payer = none →
                t.account n = some { u with held := u.held + hold, openJobs := u.openJobs + 1 }) ∧
              ∀ p, u.payer = some p → p ≠ n →
                t.account n =
                    some { u with memberHeld := u.memberHeld + hold, openJobs := u.openJobs + 1 } ∧
                  t.account p = some { b with held := b.held + hold, openJobs := b.openJobs + 1 }))) ∧
    (s.tokenAccount k = none →
      (kind = .shop ∨ (s.station i).config.walkupAllowed = false →
        KeepsAllBut [.readers] s t ∧ KeepsOtherReaders i s t ∧ ShownOn i .unknownCard s t) ∧
      (kind = .bank → (s.station i).config.walkupAllowed = true →
        ((s.tariffOf i).isDefined = false ∨ 32 ≤ s.transientCount ∨ 1024 ≤ s.accounts.length ∨
            2048 ≤ s.tokens.length →
          KeepsAllBut [.readers] s t ∧ KeepsOtherReaders i s t ∧ ShownOn i .walkupUnavailable s t) ∧
        ((s.tariffOf i).isDefined = true → s.transientCount < 32 → s.accounts.length < 1024 →
          s.tokens.length < 2048 →
          (∀ a ∈ s.accounts, 60000 ≤ a.number → a.kind = .transient) →
          ∀ (nextNumber nextRef : Nat → Nat) (pendingRef : Nat → Prop),
            nextNumber = (fun x => if x < 60000 ∨ 60999 ≤ x then 60000 else x + 1) →
            nextRef = (fun x => if 65535 ≤ x then 1 else x + 1) →
            pendingRef = (fun r => ∃ a ∈ s.accounts, a.kind = .transient ∧ a.state = .pending ∧
              a.walkup.map Walkup.authRef = some r) →
            ∃ (n ref : Nat) (w : Walkup), n = s.freshNumber ∧ ref = s.freshReference ∧
              (∃ x, n = nextNumber^[x + 1] s.wau.numberRotor ∧ s.account n = none ∧
                ∀ y, y < x → s.account (nextNumber^[y + 1] s.wau.numberRotor) ≠ none) ∧
              (∃ x, ref = nextRef^[x + 1] s.wau.referenceRotor ∧ ¬pendingRef ref ∧
                ∀ y, y < x → pendingRef (nextRef^[y + 1] s.wau.referenceRotor)) ∧
              60000 ≤ n ∧ n ≤ 60999 ∧ 1 ≤ ref ∧ ref ≤ 65535 ∧
              KeepsAllBut [.accounts, .tokens, .stations, .readers, .walkup] s t ∧
              KeepsOtherStations i s t ∧ KeepsOtherReaders i s t ∧ KeepsOtherAccounts [n] s t ∧
              t.wau =
                { numberRotor := n, referenceRotor := ref, waiting := s.wau.waiting ++ [n] } ∧
              t.tokens = s.tokens ++ [{ token := k, account := n }] ∧
              t.station i = { s.station i with state := .opening, sessionToken := some k } ∧
              w = { authRef := ref, requested := s.globals.preAuthAmount, granted := none
                    requestState := some .waiting, finalCharge := none
                    authTimer := some (s.globals.authTimeout * 10000), station := i } ∧
              t.account n = some
                { number := n, kind := .transient, state := .pending, balance := 0, creditLimit := 0
                  held := 0, payer := none, memberHeld := 0, periodCap := none, memberCount := 0
                  schedule := 0, meter := 0, meterSaturated := false, periodCharges := 0
                  classCounts := #v[0, 0, 0, 0, 0, 0, 0, 0], tokens := [k], openJobs := 0
                  walkup := some w } ∧
              ShownOn i .authorising s t)))

/-- Cards at a station that is not IDLE, removals and keys, by station state (R81, R85 to R87, R134). -/
def Obligations.ReaderEventsByStationState : Prop :=
  ∀ (s : State) (i : StationId) (e : ReaderEvent) (live : State),
    live = (if (s.station i).state = .running ∨ (s.station i).state = .held then
      s.setStation i { s.station i with
        job := (s.station i).job.map fun j =>
          { j with idleTimer := some (s.globals.idleTimeout * 10000) } } else s) →
    ((s.station i).state = .disabled → s.readerEvent i e = s) ∧
    (∀ k kind style, e = .card k kind style → (s.station i).state = .outOfService →
      s.readerEvent i e = s.placeDisplay i .outOfService) ∧
    (∀ k kind style, e = .card k kind style → (s.station i).state ≠ .disabled →
      (s.station i).state ≠ .outOfService → style ≠ (s.station i).config.style →
      s.readerEvent i e = live.placeDisplay i .unknownCard) ∧
    (∀ k kind style, e = .card k kind style → style = (s.station i).config.style →
      (s.station i).state ∈ [.opening, .running, .held, .closing, .jammed] →
      ((s.station i).sessionToken ≠ some k → s.readerEvent i e = live.placeDisplay i .stationBusy) ∧
      ((s.station i).sessionToken = some k →
        ((s.station i).state = .opening → s.readerEvent i e = s.placeDisplay i .authorising) ∧
        ((s.station i).state = .closing → s.readerEvent i e = s) ∧
        ((s.station i).state = .jammed →
          s.readerEvent i e = s.placeDisplay i (.jam (s.station i).disputed.length)) ∧
        ((s.station i).state = .running ∨ (s.station i).state = .held →
          (style = .inserted → s.readerEvent i e = live) ∧
          (style = .tap → s.tokenAccount k = none →
            s.readerEvent i e = live.placeDisplay i .stationBusy) ∧
          (style = .tap → s.tokenAccount k ≠ none →
            s.readerEvent i e = live.requestEnd i .cardTap)))) ∧
    (e = .cardOut →
      ((s.station i).config.style = .tap → s.readerEvent i e = live) ∧
      ((s.station i).config.style = .inserted →
        ((s.station i).state = .opening → s.readerEvent i e = s.cancelWalkup i) ∧
        ((s.station i).state ∈ [.running, .held, .jammed] → (s.station i).sessionToken ≠ none →
          s.readerEvent i e = live.requestEnd i .cardRemoved) ∧
        ((s.station i).state ∈ [.running, .held, .jammed] → (s.station i).sessionToken = none →
          s.readerEvent i e = live) ∧
        ((s.station i).state ∈ [.idle, .closing, .outOfService] → s.readerEvent i e = s))) ∧
    (∀ key, e = .key key →
      ((s.station i).state = .opening → s.readerEvent i e = s.cancelWalkup i) ∧
      ((s.station i).state ∈ [.running, .held, .jammed] → key = .endKey →
        s.readerEvent i e = live.requestEnd i .endKey) ∧
      ((s.station i).state ∈ [.running, .held, .jammed] → key = .cancel →
        s.readerEvent i e = live) ∧
      ((s.station i).state ∈ [.idle, .closing, .outOfService] → s.readerEvent i e = s))

/-! ### Walk-up commands and reports -/

/-- TAKE AUTH REQUEST takes the oldest WAITING request (R168, R169). AUTH RESULT: the two checks of R170, and
a result applied to its TAKEN record (R171 to R173). The model's choices: the time left is rounded up to whole
ms (log 4), and which of the two forms of AUTH RESULT is malformed (log 19). -/
def Obligations.WalkupRequestsAreTakenAndDecided : Prop :=
  (∀ s : State, s.ready .takeAuthRequest →
    (s.wau.waiting = [] → Refuses .takeAuthRequest s .notFound) ∧
    ∀ n rest a w k left, s.wau.waiting = n :: rest → s.account n = some a → a.walkup = some w →
      a.tokens = [k] → w.authTimer = some left → n ≤ 65535 → w.authRef ≤ 65535 → left ≤ 600000 →
      Answers .takeAuthRequest s .ok
        (be 2 w.authRef ++ be 1 w.station.val ++ be 8 k.toNat ++ beCents w.requested ++ be 2 n ++
          be 4 (max 1 ((left + 9) / 10))) [.accounts, .walkup] fun t =>
        t.wau = { s.wau with waiting := rest } ∧ KeepsOtherAccounts [n] s t ∧
          t.account n = some { a with walkup := some { w with requestState := some .taken } }) ∧
  (∀ (s : State) (ref outcome : Nat) (granted : Option Int), s.ready (.authResult ref outcome granted) →
    (ref = 0 ∨ 2 ≤ outcome ∨ (outcome = 0 ∧ granted = none) ∨
        (outcome = 0 ∧ ∃ g, granted = some g ∧ (g < 0 ∨ 1000000 < g)) →
      Refuses (.authResult ref outcome granted) s .invalid) ∧
    (ref ≠ 0 → outcome = 1 ∨ (outcome = 0 ∧ ∃ g, granted = some g ∧ 0 ≤ g ∧ g ≤ 1000000) →
      (∀ a ∈ s.accounts, a.kind = .transient → a.state = .pending →
        ∀ w, a.walkup = some w → w.authRef = ref → w.requestState ≠ some .taken) →
      Refuses (.authResult ref outcome granted) s .noRequest) ∧
    ∀ a w i, ref ≠ 0 → s.takenRecord ref = some (a, w) → i = w.station →
      s.account a.number = some a → a.payer = none →
      ∀ removed : State → Prop,
        removed = (fun t =>
          t.account a.number = none ∧ KeepsOtherAccounts [a.number] s t ∧
            t.tokens = (s.tokens.filter fun e => !a.tokens.contains e.token) ∧
            t.wau = { s.wau with waiting := s.wau.waiting.filter fun m => m != a.number } ∧
            KeepsOtherStations i s t ∧ KeepsOtherReaders i s t ∧
            (t.station i).undriven =
              ({ s.station i with state := .idle, sessionToken := none } : Station).undriven ∧
            ShownOn i .declined s t) →
        (outcome = 1 →
          Answers (.authResult ref outcome granted) s .ok (be 1 i.val)
            [.accounts, .tokens, .stations, .readers, .walkup] removed) ∧
        ∀ given grant : Nat, outcome = 0 → granted = some (given : Int) → given ≤ 1000000 →
          grant = min given w.requested → a.kind = .transient → a.state = .pending →
          a.creditLimit = 0 → a.held = 0 → (s.station i).state = .opening →
          ((s.tariffOf i).isDefined = false ∨ grant < (s.tariffOf i).startThreshold →
            Answers (.authResult ref outcome granted) s .approvedUnused (be 1 i.val ++ beCents grant)
              [.accounts, .tokens, .stations, .readers, .walkup] removed) ∧
          ((s.tariffOf i).isDefined = true → (s.tariffOf i).startThreshold ≤ grant →
            Answers (.authResult ref outcome granted) s
              (if w.requested < given then .clamped else .ok)
              (be 1 i.val ++ be 2 (min a.number 65535) ++ beCents grant)
              [.accounts, .stations, .readers] fun t =>
              KeepsOtherAccounts [a.number] s t ∧ KeepsOtherStations i s t ∧
                KeepsOtherReaders i s t ∧
                t.account a.number =
                  some { a with
                    state := .opened, balance := grant, held := grant, openJobs := a.openJobs + 1
                    walkup := some
                      { w with granted := some grant, requestState := none, authTimer := none } } ∧
                ShownOn i (.welcome grant) s t ∧
                ∃ j, (t.station i).undriven =
                    ({ s.station i with state := .running, job := some j } : Station).undriven ∧
                  j.user = a.number ∧ j.billing = a.number ∧ j.kind = .card ∧ j.openedBy = .reader ∧
                  j.authRef = some w.authRef ∧ j.hold = grant ∧ j.accrued = 0 ∧
                  j.snapshot.scheduleNumber = s.globals.walkupSchedule ∧
                  j.snapshot.prices = (s.tariffOf i).prices ∧
                  j.snapshot.schedule = s.schedules[s.globals.walkupSchedule]))

/-- READ ACCOUNT and LIST ACCOUNTS (R28, R29), READ STATION and READ STATION ALARMS, which clears the flags
whose keeping condition does not hold (R95, R139), and STATUS SUMMARY (R190), with the layouts of R190, R196
and R197; those that read after the retries owed, where none is owed. `fig` is a figure in its bytes (R188),
`mask` a mask from bit 0 (R198), `left` a time left in ms. The model's choices: a time left is rounded up
(log 4), the alarm flags of R139 stand last in READ STATION (log 20), walk-up allowed is sent there as YES 1
and NO 0 (log 21), and an absent session token is sent as zeros (log 22). -/
def Obligations.ReportsReadTheRecords : Prop :=
  ∀ (fig : Nat → Nat → List Byte) (mask : Nat → List Bool → List Byte) (left : Timer → Nat),
    fig = (fun k n => be k (min n (256 ^ k - 1))) →
    mask = (fun k bits => be k (bits.zipIdx.map fun b => if b.1 then 2 ^ b.2 else 0).sum) →
    left = (fun t => t.elim 0 fun x => max 1 ((x + 9) / 10)) →
    (∀ (s : State) (n : Nat), s.ready (.readAccount n) → s.retryOwed = [] →
      (s.account n = none → Refuses (.readAccount n) s .notFound) ∧
      ∀ (a : Account) (own member named : Bool), s.account n = some a →
        (own = true ↔ a.kind ≠ .member) → (member = true ↔ a.kind = .member) →
        (named = true ↔ a.kind = .prepaid ∨ a.kind = .credit) →
        ∀ w, w = a.walkup →
        ∀ bytes, bytes =
          fig 2 a.number ++ fig 1 ([AccountKind.prepaid, .credit, .member, .transient].idxOf a.kind) ++
            fig 1 ([AccountState.active, .blocked, .closing, .pending, .opened, .settled].idxOf a.state) ++
            mask 2 [own, a.kind == .credit, own, member, member, member && a.periodCap.isSome, named,
              named, w.isSome, w.isSome, (w.bind Walkup.granted).isSome,
              (w.bind Walkup.requestState).isSome, (w.bind Walkup.finalCharge).isSome] ++
            beCents (if own then a.balance else 0) ++
            beCents (if a.kind = .credit then (a.creditLimit : Int) else 0) ++
            beCents (if own then (a.held : Int) else 0) ++ fig 2 (a.payer.getD 0) ++
            beCents (if member then (a.memberHeld : Int) else 0) ++ beCents (a.periodCap.getD 0 : Nat) ++
            fig 2 (if named then a.memberCount else 0) ++ fig 1 (if named then a.schedule.val else 0) ++
            fig 3 a.meter ++ fig 1 (if a.meterSaturated then 1 else 0) ++
            beCents (a.periodCharges : Int) ++ a.classCounts.toList.flatMap (fig 3) ++
            fig 1 a.tokens.length ++
            ((a.tokens ++ List.replicate 4 0#64).take 4).flatMap (fun k => be 8 k.toNat) ++
            fig 1 a.openJobs ++ fig 2 ((w.map Walkup.authRef).getD 0) ++
            beCents ((w.map Walkup.requested).getD 0 : Nat) ++
            beCents ((w.bind Walkup.granted).getD 0 : Nat) ++
            fig 1 (if w.bind Walkup.requestState = some .taken then 1 else 0) ++
            beCents ((w.bind Walkup.finalCharge).getD 0 : Nat) ++ beCents (s.available a) →
          bytes.length = 116 ∧ Answers (.readAccount n) s .ok bytes [] fun _ => True) ∧
    (∀ (s : State) (n : Nat), s.ready (.listAccounts n) →
      ((∀ a ∈ s.accounts, a.number ≤ n) → Refuses (.listAccounts n) s .notFound) ∧
      ∀ a, AccountsInOrder s → a ∈ s.accounts → n < a.number →
        (∀ b ∈ s.accounts, n < b.number → a.number ≤ b.number) →
        Answers (.listAccounts n) s .ok
          (fig 2 a.number ++
            fig 1 ([AccountKind.prepaid, .credit, .member, .transient].idxOf a.kind) ++
            fig 1 ([AccountState.active, .blocked, .closing, .pending, .opened, .settled].idxOf a.state) ++
            fig 1 a.openJobs) [] fun _ => True) ∧
    (∀ (s : State) (i : StationId) (st : Station) (permit : Bool)
        (prices : Prices → List Byte) (counts : Vector Nat 8 → List Byte) (sheet : Sheet → List Byte)
        (config port job lastJob : List Byte),
      s.retryOwed = [] → s.ready (.readStation i.val) → st = s.station i →
      config =
        mask 1 [st.config.permitPolarity == .activeLow, st.config.polarity.ready == .activeLow,
            st.config.polarity.feed == .activeLow, st.config.polarity.exit == .activeLow,
            st.config.polarity.jam == .activeLow, st.config.polarity.classL == .activeLow,
            st.config.polarity.classC == .activeLow, st.config.polarity.classD == .activeLow] ++
          mask 1 [st.config.feedEdge == .trailing, st.config.exitEdge == .trailing] ++
          fig 2 st.config.filterSteps ++ fig 1 st.config.divisor ++
          fig 1 ([CountMode.tracked, .feedOnly, .exitOnly].idxOf st.config.countMode) ++
          fig 1 ([ClassSource.lines, .fixed].idxOf st.config.classSource) ++
          fig 1 st.config.fixedClass.index.val ++
          fig 1 ([PermitMode.level, .interlocked, .partialMode].idxOf st.config.permitMode) ++
          fig 2 st.config.tdSteps ++ fig 1 (if st.config.walkupAllowed then 1 else 0) ++
          fig 1 ([SessionStyle.tap, .inserted].idxOf st.config.style) →
      (permit = true ↔ st.state = .running ∧
        (st.config.permitMode = .level ∨
          (st.config.permitMode = .interlocked ∧ st.filtered.ready = true ∧ st.permitDelay = none) ∨
          (st.config.permitMode = .partialMode ∧ st.permitDelay = none))) →
      port =
        mask 1 [false, st.raw .ready, st.raw .feed, st.raw .exit, st.raw .jam, st.raw .classL,
            st.raw .classC, st.raw .classD] ++
          mask 1 [false, st.filtered.ready, st.filtered.feed, st.filtered.exit, st.filtered.jam] ++
          mask 1 [false, st.filterTimers.ready.isSome, st.filterTimers.feed.isSome,
            st.filterTimers.exit.isSome, st.filterTimers.jam.isSome] ++
          fig 1 st.feedCounter ++ fig 1 st.exitCounter ++ fig 1 (if permit then 1 else 0) ++
          fig 2 (left st.permitDelay) ++ fig 2 st.unauthorisedFeeds ++ fig 2 st.strayExits →
      prices = (fun p => [p.sm, p.sc, p.lm, p.lc].flatMap fun c => fig 2 c.front ++ fig 2 c.back) →
      counts = (fun v => v.toList.flatMap (fig 4)) →
      sheet = (fun x =>
        fig 2 x.seqNo ++ fig 1 x.cls.index.val ++ fig 3 x.firstOrdinal ++ fig 1 x.impressions ++
          fig 6 x.amount) →
      (st.job = none → job = [0#8]) →
      (∀ j, st.job = some j → job =
        [1#8] ++ fig 1 i.val ++ fig 2 j.user ++ fig 2 j.billing ++
          fig 1 (if j.kind = .card then 1 else 0) ++ fig 1 (if j.openedBy = .host then 1 else 0) ++
          fig 2 (j.authRef.getD 0) ++ fig 1 j.snapshot.letter.val ++ fig 1 j.snapshot.scheduleNumber.val ++
          prices j.snapshot.prices ++ fig 6 j.snapshot.reserve ++
          beCents (j.snapshot.holdQuantum : Int) ++ beCents (j.snapshot.jobMinimum : Int) ++
          mask 1 [j.snapshot.schedule.t1.isSome, j.snapshot.schedule.t2.isSome,
            j.snapshot.schedule.t3.isSome] ++
          [j.snapshot.schedule.t1, j.snapshot.schedule.t2, j.snapshot.schedule.t3].flatMap
            (fun x => fig 3 (x.getD 0)) ++
          [j.snapshot.schedule.d0, j.snapshot.schedule.d1, j.snapshot.schedule.d2,
            j.snapshot.schedule.d3].flatMap (fig 2) ++
          beCents (j.hold : Int) ++ fig 6 j.accrued ++ fig 2 j.nextSeq ++ fig 4 j.pricedSheets ++
          counts j.billed ++ fig 4 j.billedImpressions ++ fig 4 j.voidedSheets ++
          fig 4 j.voidedImpressions ++ fig 2 j.jams ++ fig 2 j.overruns ++ fig 2 j.unpricedFeeds ++
          fig 2 j.strayExits ++ fig 1 (j.endRequest.elim 0 fun c => c.place + 1) ++
          fig 4 (left j.idleTimer)) →
      (st.lastJob = none → lastJob = [0#8]) →
      (∀ l, st.lastJob = some l → lastJob =
        [1#8] ++ fig 2 l.user ++ fig 2 l.billing ++ fig 1 (if l.kind = .card then 1 else 0) ++
          fig 1 (if l.openedBy = .host then 1 else 0) ++ fig 2 (l.authRef.getD 0) ++
          fig 1 (l.endCause.elim 0 fun c => c.place + 1) ++ counts l.billed ++
          fig 4 l.billedImpressions ++ fig 4 l.voidedSheets ++ fig 4 l.voidedImpressions ++
          fig 2 l.jams ++ fig 2 l.overruns ++ fig 2 l.unpricedFeeds ++ fig 2 l.strayExits ++
          beCents (l.hold : Int) ++ beCents (l.charge : Int) ++
          fig 1 (if l.minimumApplied then 1 else 0) ++ beCents l.balanceAfter) →
      Answers (.readStation i.val) s .ok
        (fig 1 ([StationState.disabled, .idle, .opening, .running, .held, .closing, .jammed,
              .outOfService].idxOf st.state) ++
          fig 1 ([SessionStyle.tap, .inserted].idxOf st.config.style) ++ fig 1 st.tariff.val ++
          (st.sessionToken.elim (List.replicate 9 0#8) fun k => 1#8 :: be 8 k.toNat) ++
          fig 2 (if st.state = .opening
            then (((s.walkupOf i).bind Account.walkup).map Walkup.authRef).getD 0 else 0) ++
          config ++ port ++
          fig 1 ([none, some JamCause.jamLine, some .pathOverflow, some .drainTimeout].idxOf
            st.jamCause) ++
          fig 4 (left st.jamTimer) ++ fig 2 (left st.drainTimer) ++ job ++
          fig 1 st.path.length ++ st.path.flatMap sheet ++
          fig 1 st.disputed.length ++ st.disputed.flatMap sheet ++ lastJob ++
          mask 1 [st.alarms.jamEntered, st.alarms.outOfService, st.alarms.unauthorisedFeed,
            st.alarms.strayExit, st.alarms.pathOverflow, st.alarms.overrun])
        [] fun _ => True) ∧
    [EndCause.endKey, .cardTap, .cardRemoved, .idleTimeout, .hostEnd, .accountBlocked, .jamTimeout,
        .stationReset].map EndCause.place = [0, 1, 2, 3, 4, 5, 6, 7] ∧
    (∀ c : SheetClass, c.index.val =
      (if c.large then 4 else 0) + (if c.colour then 2 else 0) + if c.duplex then 1 else 0) ∧
    (∀ (s : State) (i : StationId), s.retryOwed = [] → s.ready (.readStationAlarms i.val) →
      Answers (.readStationAlarms i.val) s .ok
        (mask 1 [(s.station i).alarms.jamEntered, (s.station i).alarms.outOfService,
            (s.station i).alarms.unauthorisedFeed, (s.station i).alarms.strayExit,
            (s.station i).alarms.pathOverflow, (s.station i).alarms.overrun] ++
          fig 1 ([StationState.disabled, .idle, .opening, .running, .held, .closing, .jammed,
            .outOfService].idxOf (s.station i).state))
        [.stations] fun t =>
          KeepsOtherStations i s t ∧
            (t.station i).undriven =
              { s.station i with
                permit := false
                alarms :=
                  { jamEntered := (s.station i).alarms.jamEntered && (s.station i).state == .jammed
                    outOfService :=
                      (s.station i).alarms.outOfService && (s.station i).state == .outOfService
                    unauthorisedFeed := false, strayExit := false, pathOverflow := false
                    overrun := false } }) ∧
    ∀ s : State, s.retryOwed = [] → s.ready .statusSummary →
      Answers .statusSummary s .ok
        (fig 1 s.wau.waiting.length ++
          fig 1 (s.accounts.filter fun a => a.kind == .transient && a.state == .settled).length ++
          fig 2 (1024 - s.accounts.length) ++ fig 2 (2048 - s.tokens.length) ++
          mask 2 (allStations.map fun i =>
            (s.station i).alarms != ⟨false, false, false, false, false, false⟩) ++
          mask 2 (allStations.map fun i => (s.reader i).linkLost || (s.reader i).counterSaturated) ++
          allStations.flatMap fun i =>
            fig 1 ([StationState.disabled, .idle, .opening, .running, .held, .closing, .jammed,
              .outOfService].idxOf (s.station i).state)) [] fun _ => True
end

