-- ==== Sys2Proof/Laws/State.lean ====
section
/-! SUPPORT. One lemma per field per update of the state, true by definition, and what a lookup gives
after an update. -/

namespace Sys2Proof.Machine

variable (s : State)

/-! ### Fields that `setStation` leaves -/

@[simp] theorem State.setStation_pending (i : StationId) (st : Station) : (s.setStation i st).pending = s.pending := rfl
@[simp] theorem State.setStation_resetLow (i : StationId) (st : Station) : (s.setStation i st).resetLow = s.resetLow := rfl
@[simp] theorem State.setStation_link (i : StationId) (st : Station) : (s.setStation i st).link = s.link := rfl
@[simp] theorem State.setStation_globals (i : StationId) (st : Station) : (s.setStation i st).globals = s.globals := rfl
@[simp] theorem State.setStation_accounts (i : StationId) (st : Station) : (s.setStation i st).accounts = s.accounts := rfl
@[simp] theorem State.setStation_tokens (i : StationId) (st : Station) : (s.setStation i st).tokens = s.tokens := rfl
@[simp] theorem State.setStation_tariffs (i : StationId) (st : Station) : (s.setStation i st).tariffs = s.tariffs := rfl
@[simp] theorem State.setStation_schedules (i : StationId) (st : Station) : (s.setStation i st).schedules = s.schedules := rfl
@[simp] theorem State.setStation_retryOwed (i : StationId) (st : Station) : (s.setStation i st).retryOwed = s.retryOwed := rfl
@[simp] theorem State.setStation_readers (i : StationId) (st : Station) : (s.setStation i st).readers = s.readers := rfl
@[simp] theorem State.setStation_bus (i : StationId) (st : Station) : (s.setStation i st).bus = s.bus := rfl
@[simp] theorem State.setStation_wau (i : StationId) (st : Station) : (s.setStation i st).wau = s.wau := rfl
@[simp] theorem State.setStation_subMs (i : StationId) (st : Station) : (s.setStation i st).subMs = s.subMs := rfl

/-! ### Fields that `modifyStation` leaves -/

@[simp] theorem State.modifyStation_pending (i : StationId) (f : Station → Station) : (s.modifyStation i f).pending = s.pending := rfl
@[simp] theorem State.modifyStation_resetLow (i : StationId) (f : Station → Station) : (s.modifyStation i f).resetLow = s.resetLow := rfl
@[simp] theorem State.modifyStation_link (i : StationId) (f : Station → Station) : (s.modifyStation i f).link = s.link := rfl
@[simp] theorem State.modifyStation_globals (i : StationId) (f : Station → Station) : (s.modifyStation i f).globals = s.globals := rfl
@[simp] theorem State.modifyStation_accounts (i : StationId) (f : Station → Station) : (s.modifyStation i f).accounts = s.accounts := rfl
@[simp] theorem State.modifyStation_tokens (i : StationId) (f : Station → Station) : (s.modifyStation i f).tokens = s.tokens := rfl
@[simp] theorem State.modifyStation_tariffs (i : StationId) (f : Station → Station) : (s.modifyStation i f).tariffs = s.tariffs := rfl
@[simp] theorem State.modifyStation_schedules (i : StationId) (f : Station → Station) : (s.modifyStation i f).schedules = s.schedules := rfl
@[simp] theorem State.modifyStation_retryOwed (i : StationId) (f : Station → Station) : (s.modifyStation i f).retryOwed = s.retryOwed := rfl
@[simp] theorem State.modifyStation_readers (i : StationId) (f : Station → Station) : (s.modifyStation i f).readers = s.readers := rfl
@[simp] theorem State.modifyStation_bus (i : StationId) (f : Station → Station) : (s.modifyStation i f).bus = s.bus := rfl
@[simp] theorem State.modifyStation_wau (i : StationId) (f : Station → Station) : (s.modifyStation i f).wau = s.wau := rfl
@[simp] theorem State.modifyStation_subMs (i : StationId) (f : Station → Station) : (s.modifyStation i f).subMs = s.subMs := rfl

/-! ### Fields that `modifyJob` leaves -/

@[simp] theorem State.modifyJob_pending (i : StationId) (f : Job → Job) : (s.modifyJob i f).pending = s.pending := rfl
@[simp] theorem State.modifyJob_resetLow (i : StationId) (f : Job → Job) : (s.modifyJob i f).resetLow = s.resetLow := rfl
@[simp] theorem State.modifyJob_link (i : StationId) (f : Job → Job) : (s.modifyJob i f).link = s.link := rfl
@[simp] theorem State.modifyJob_globals (i : StationId) (f : Job → Job) : (s.modifyJob i f).globals = s.globals := rfl
@[simp] theorem State.modifyJob_accounts (i : StationId) (f : Job → Job) : (s.modifyJob i f).accounts = s.accounts := rfl
@[simp] theorem State.modifyJob_tokens (i : StationId) (f : Job → Job) : (s.modifyJob i f).tokens = s.tokens := rfl
@[simp] theorem State.modifyJob_tariffs (i : StationId) (f : Job → Job) : (s.modifyJob i f).tariffs = s.tariffs := rfl
@[simp] theorem State.modifyJob_schedules (i : StationId) (f : Job → Job) : (s.modifyJob i f).schedules = s.schedules := rfl
@[simp] theorem State.modifyJob_retryOwed (i : StationId) (f : Job → Job) : (s.modifyJob i f).retryOwed = s.retryOwed := rfl
@[simp] theorem State.modifyJob_readers (i : StationId) (f : Job → Job) : (s.modifyJob i f).readers = s.readers := rfl
@[simp] theorem State.modifyJob_bus (i : StationId) (f : Job → Job) : (s.modifyJob i f).bus = s.bus := rfl
@[simp] theorem State.modifyJob_wau (i : StationId) (f : Job → Job) : (s.modifyJob i f).wau = s.wau := rfl
@[simp] theorem State.modifyJob_subMs (i : StationId) (f : Job → Job) : (s.modifyJob i f).subMs = s.subMs := rfl

/-! ### Fields that `modifyAlarms` leaves -/

@[simp] theorem State.modifyAlarms_pending (i : StationId) (f : StationAlarms → StationAlarms) : (s.modifyAlarms i f).pending = s.pending := rfl
@[simp] theorem State.modifyAlarms_resetLow (i : StationId) (f : StationAlarms → StationAlarms) : (s.modifyAlarms i f).resetLow = s.resetLow := rfl
@[simp] theorem State.modifyAlarms_link (i : StationId) (f : StationAlarms → StationAlarms) : (s.modifyAlarms i f).link = s.link := rfl
@[simp] theorem State.modifyAlarms_globals (i : StationId) (f : StationAlarms → StationAlarms) : (s.modifyAlarms i f).globals = s.globals := rfl
@[simp] theorem State.modifyAlarms_accounts (i : StationId) (f : StationAlarms → StationAlarms) : (s.modifyAlarms i f).accounts = s.accounts := rfl
@[simp] theorem State.modifyAlarms_tokens (i : StationId) (f : StationAlarms → StationAlarms) : (s.modifyAlarms i f).tokens = s.tokens := rfl
@[simp] theorem State.modifyAlarms_tariffs (i : StationId) (f : StationAlarms → StationAlarms) : (s.modifyAlarms i f).tariffs = s.tariffs := rfl
@[simp] theorem State.modifyAlarms_schedules (i : StationId) (f : StationAlarms → StationAlarms) : (s.modifyAlarms i f).schedules = s.schedules := rfl
@[simp] theorem State.modifyAlarms_retryOwed (i : StationId) (f : StationAlarms → StationAlarms) : (s.modifyAlarms i f).retryOwed = s.retryOwed := rfl
@[simp] theorem State.modifyAlarms_readers (i : StationId) (f : StationAlarms → StationAlarms) : (s.modifyAlarms i f).readers = s.readers := rfl
@[simp] theorem State.modifyAlarms_bus (i : StationId) (f : StationAlarms → StationAlarms) : (s.modifyAlarms i f).bus = s.bus := rfl
@[simp] theorem State.modifyAlarms_wau (i : StationId) (f : StationAlarms → StationAlarms) : (s.modifyAlarms i f).wau = s.wau := rfl
@[simp] theorem State.modifyAlarms_subMs (i : StationId) (f : StationAlarms → StationAlarms) : (s.modifyAlarms i f).subMs = s.subMs := rfl

/-! ### Fields that `enter` leaves -/

@[simp] theorem State.enter_pending (i : StationId) (x : StationState) : (s.enter i x).pending = s.pending := rfl
@[simp] theorem State.enter_resetLow (i : StationId) (x : StationState) : (s.enter i x).resetLow = s.resetLow := rfl
@[simp] theorem State.enter_link (i : StationId) (x : StationState) : (s.enter i x).link = s.link := rfl
@[simp] theorem State.enter_globals (i : StationId) (x : StationState) : (s.enter i x).globals = s.globals := rfl
@[simp] theorem State.enter_accounts (i : StationId) (x : StationState) : (s.enter i x).accounts = s.accounts := rfl
@[simp] theorem State.enter_tokens (i : StationId) (x : StationState) : (s.enter i x).tokens = s.tokens := rfl
@[simp] theorem State.enter_tariffs (i : StationId) (x : StationState) : (s.enter i x).tariffs = s.tariffs := rfl
@[simp] theorem State.enter_schedules (i : StationId) (x : StationState) : (s.enter i x).schedules = s.schedules := rfl
@[simp] theorem State.enter_retryOwed (i : StationId) (x : StationState) : (s.enter i x).retryOwed = s.retryOwed := rfl
@[simp] theorem State.enter_readers (i : StationId) (x : StationState) : (s.enter i x).readers = s.readers := rfl
@[simp] theorem State.enter_bus (i : StationId) (x : StationState) : (s.enter i x).bus = s.bus := rfl
@[simp] theorem State.enter_wau (i : StationId) (x : StationState) : (s.enter i x).wau = s.wau := rfl
@[simp] theorem State.enter_subMs (i : StationId) (x : StationState) : (s.enter i x).subMs = s.subMs := rfl

/-! ### Fields that `modifyReader` leaves -/

@[simp] theorem State.modifyReader_pending (i : StationId) (f : Reader → Reader) : (s.modifyReader i f).pending = s.pending := rfl
@[simp] theorem State.modifyReader_resetLow (i : StationId) (f : Reader → Reader) : (s.modifyReader i f).resetLow = s.resetLow := rfl
@[simp] theorem State.modifyReader_link (i : StationId) (f : Reader → Reader) : (s.modifyReader i f).link = s.link := rfl
@[simp] theorem State.modifyReader_globals (i : StationId) (f : Reader → Reader) : (s.modifyReader i f).globals = s.globals := rfl
@[simp] theorem State.modifyReader_accounts (i : StationId) (f : Reader → Reader) : (s.modifyReader i f).accounts = s.accounts := rfl
@[simp] theorem State.modifyReader_tokens (i : StationId) (f : Reader → Reader) : (s.modifyReader i f).tokens = s.tokens := rfl
@[simp] theorem State.modifyReader_tariffs (i : StationId) (f : Reader → Reader) : (s.modifyReader i f).tariffs = s.tariffs := rfl
@[simp] theorem State.modifyReader_schedules (i : StationId) (f : Reader → Reader) : (s.modifyReader i f).schedules = s.schedules := rfl
@[simp] theorem State.modifyReader_stations (i : StationId) (f : Reader → Reader) : (s.modifyReader i f).stations = s.stations := rfl
@[simp] theorem State.modifyReader_retryOwed (i : StationId) (f : Reader → Reader) : (s.modifyReader i f).retryOwed = s.retryOwed := rfl
@[simp] theorem State.modifyReader_bus (i : StationId) (f : Reader → Reader) : (s.modifyReader i f).bus = s.bus := rfl
@[simp] theorem State.modifyReader_wau (i : StationId) (f : Reader → Reader) : (s.modifyReader i f).wau = s.wau := rfl
@[simp] theorem State.modifyReader_subMs (i : StationId) (f : Reader → Reader) : (s.modifyReader i f).subMs = s.subMs := rfl

/-! ### Fields that `placeDisplay` leaves -/

@[simp] theorem State.placeDisplay_pending (i : StationId) (d : Display) : (s.placeDisplay i d).pending = s.pending := rfl
@[simp] theorem State.placeDisplay_resetLow (i : StationId) (d : Display) : (s.placeDisplay i d).resetLow = s.resetLow := rfl
@[simp] theorem State.placeDisplay_link (i : StationId) (d : Display) : (s.placeDisplay i d).link = s.link := rfl
@[simp] theorem State.placeDisplay_globals (i : StationId) (d : Display) : (s.placeDisplay i d).globals = s.globals := rfl
@[simp] theorem State.placeDisplay_accounts (i : StationId) (d : Display) : (s.placeDisplay i d).accounts = s.accounts := rfl
@[simp] theorem State.placeDisplay_tokens (i : StationId) (d : Display) : (s.placeDisplay i d).tokens = s.tokens := rfl
@[simp] theorem State.placeDisplay_tariffs (i : StationId) (d : Display) : (s.placeDisplay i d).tariffs = s.tariffs := rfl
@[simp] theorem State.placeDisplay_schedules (i : StationId) (d : Display) : (s.placeDisplay i d).schedules = s.schedules := rfl
@[simp] theorem State.placeDisplay_stations (i : StationId) (d : Display) : (s.placeDisplay i d).stations = s.stations := rfl
@[simp] theorem State.placeDisplay_retryOwed (i : StationId) (d : Display) : (s.placeDisplay i d).retryOwed = s.retryOwed := rfl
@[simp] theorem State.placeDisplay_bus (i : StationId) (d : Display) : (s.placeDisplay i d).bus = s.bus := rfl
@[simp] theorem State.placeDisplay_wau (i : StationId) (d : Display) : (s.placeDisplay i d).wau = s.wau := rfl
@[simp] theorem State.placeDisplay_subMs (i : StationId) (d : Display) : (s.placeDisplay i d).subMs = s.subMs := rfl

/-! ### Fields that `modifyAccount` leaves -/

@[simp] theorem State.modifyAccount_pending (n : Nat) (f : Account → Account) : (s.modifyAccount n f).pending = s.pending := rfl
@[simp] theorem State.modifyAccount_resetLow (n : Nat) (f : Account → Account) : (s.modifyAccount n f).resetLow = s.resetLow := rfl
@[simp] theorem State.modifyAccount_link (n : Nat) (f : Account → Account) : (s.modifyAccount n f).link = s.link := rfl
@[simp] theorem State.modifyAccount_globals (n : Nat) (f : Account → Account) : (s.modifyAccount n f).globals = s.globals := rfl
@[simp] theorem State.modifyAccount_tokens (n : Nat) (f : Account → Account) : (s.modifyAccount n f).tokens = s.tokens := rfl
@[simp] theorem State.modifyAccount_tariffs (n : Nat) (f : Account → Account) : (s.modifyAccount n f).tariffs = s.tariffs := rfl
@[simp] theorem State.modifyAccount_schedules (n : Nat) (f : Account → Account) : (s.modifyAccount n f).schedules = s.schedules := rfl
@[simp] theorem State.modifyAccount_stations (n : Nat) (f : Account → Account) : (s.modifyAccount n f).stations = s.stations := rfl
@[simp] theorem State.modifyAccount_retryOwed (n : Nat) (f : Account → Account) : (s.modifyAccount n f).retryOwed = s.retryOwed := rfl
@[simp] theorem State.modifyAccount_readers (n : Nat) (f : Account → Account) : (s.modifyAccount n f).readers = s.readers := rfl
@[simp] theorem State.modifyAccount_bus (n : Nat) (f : Account → Account) : (s.modifyAccount n f).bus = s.bus := rfl
@[simp] theorem State.modifyAccount_wau (n : Nat) (f : Account → Account) : (s.modifyAccount n f).wau = s.wau := rfl
@[simp] theorem State.modifyAccount_subMs (n : Nat) (f : Account → Account) : (s.modifyAccount n f).subMs = s.subMs := rfl

/-! ### Fields that `addAccount` leaves -/

@[simp] theorem State.addAccount_pending (a : Account) : (s.addAccount a).pending = s.pending := rfl
@[simp] theorem State.addAccount_resetLow (a : Account) : (s.addAccount a).resetLow = s.resetLow := rfl
@[simp] theorem State.addAccount_link (a : Account) : (s.addAccount a).link = s.link := rfl
@[simp] theorem State.addAccount_globals (a : Account) : (s.addAccount a).globals = s.globals := rfl
@[simp] theorem State.addAccount_tokens (a : Account) : (s.addAccount a).tokens = s.tokens := rfl
@[simp] theorem State.addAccount_tariffs (a : Account) : (s.addAccount a).tariffs = s.tariffs := rfl
@[simp] theorem State.addAccount_schedules (a : Account) : (s.addAccount a).schedules = s.schedules := rfl
@[simp] theorem State.addAccount_stations (a : Account) : (s.addAccount a).stations = s.stations := rfl
@[simp] theorem State.addAccount_retryOwed (a : Account) : (s.addAccount a).retryOwed = s.retryOwed := rfl
@[simp] theorem State.addAccount_readers (a : Account) : (s.addAccount a).readers = s.readers := rfl
@[simp] theorem State.addAccount_bus (a : Account) : (s.addAccount a).bus = s.bus := rfl
@[simp] theorem State.addAccount_wau (a : Account) : (s.addAccount a).wau = s.wau := rfl
@[simp] theorem State.addAccount_subMs (a : Account) : (s.addAccount a).subMs = s.subMs := rfl

/-! ### Fields that `askRetry` leaves -/

@[simp] theorem State.askRetry_pending (n : Nat) : (s.askRetry n).pending = s.pending := rfl
@[simp] theorem State.askRetry_resetLow (n : Nat) : (s.askRetry n).resetLow = s.resetLow := rfl
@[simp] theorem State.askRetry_link (n : Nat) : (s.askRetry n).link = s.link := rfl
@[simp] theorem State.askRetry_globals (n : Nat) : (s.askRetry n).globals = s.globals := rfl
@[simp] theorem State.askRetry_accounts (n : Nat) : (s.askRetry n).accounts = s.accounts := rfl
@[simp] theorem State.askRetry_tokens (n : Nat) : (s.askRetry n).tokens = s.tokens := rfl
@[simp] theorem State.askRetry_tariffs (n : Nat) : (s.askRetry n).tariffs = s.tariffs := rfl
@[simp] theorem State.askRetry_schedules (n : Nat) : (s.askRetry n).schedules = s.schedules := rfl
@[simp] theorem State.askRetry_stations (n : Nat) : (s.askRetry n).stations = s.stations := rfl
@[simp] theorem State.askRetry_readers (n : Nat) : (s.askRetry n).readers = s.readers := rfl
@[simp] theorem State.askRetry_bus (n : Nat) : (s.askRetry n).bus = s.bus := rfl
@[simp] theorem State.askRetry_wau (n : Nat) : (s.askRetry n).wau = s.wau := rfl
@[simp] theorem State.askRetry_subMs (n : Nat) : (s.askRetry n).subMs = s.subMs := rfl

/-! ### Fields that `bindToken` leaves -/

@[simp] theorem State.bindToken_pending (t : Token) (n : Nat) : (s.bindToken t n).pending = s.pending := rfl
@[simp] theorem State.bindToken_resetLow (t : Token) (n : Nat) : (s.bindToken t n).resetLow = s.resetLow := rfl
@[simp] theorem State.bindToken_link (t : Token) (n : Nat) : (s.bindToken t n).link = s.link := rfl
@[simp] theorem State.bindToken_globals (t : Token) (n : Nat) : (s.bindToken t n).globals = s.globals := rfl
@[simp] theorem State.bindToken_tariffs (t : Token) (n : Nat) : (s.bindToken t n).tariffs = s.tariffs := rfl
@[simp] theorem State.bindToken_schedules (t : Token) (n : Nat) : (s.bindToken t n).schedules = s.schedules := rfl
@[simp] theorem State.bindToken_stations (t : Token) (n : Nat) : (s.bindToken t n).stations = s.stations := rfl
@[simp] theorem State.bindToken_retryOwed (t : Token) (n : Nat) : (s.bindToken t n).retryOwed = s.retryOwed := rfl
@[simp] theorem State.bindToken_readers (t : Token) (n : Nat) : (s.bindToken t n).readers = s.readers := rfl
@[simp] theorem State.bindToken_bus (t : Token) (n : Nat) : (s.bindToken t n).bus = s.bus := rfl
@[simp] theorem State.bindToken_wau (t : Token) (n : Nat) : (s.bindToken t n).wau = s.wau := rfl
@[simp] theorem State.bindToken_subMs (t : Token) (n : Nat) : (s.bindToken t n).subMs = s.subMs := rfl

/-! ### Fields that `unbindToken` leaves -/

@[simp] theorem State.unbindToken_pending (t : Token) (n : Nat) : (s.unbindToken t n).pending = s.pending := rfl
@[simp] theorem State.unbindToken_resetLow (t : Token) (n : Nat) : (s.unbindToken t n).resetLow = s.resetLow := rfl
@[simp] theorem State.unbindToken_link (t : Token) (n : Nat) : (s.unbindToken t n).link = s.link := rfl
@[simp] theorem State.unbindToken_globals (t : Token) (n : Nat) : (s.unbindToken t n).globals = s.globals := rfl
@[simp] theorem State.unbindToken_tariffs (t : Token) (n : Nat) : (s.unbindToken t n).tariffs = s.tariffs := rfl
@[simp] theorem State.unbindToken_schedules (t : Token) (n : Nat) : (s.unbindToken t n).schedules = s.schedules := rfl
@[simp] theorem State.unbindToken_stations (t : Token) (n : Nat) : (s.unbindToken t n).stations = s.stations := rfl
@[simp] theorem State.unbindToken_retryOwed (t : Token) (n : Nat) : (s.unbindToken t n).retryOwed = s.retryOwed := rfl
@[simp] theorem State.unbindToken_readers (t : Token) (n : Nat) : (s.unbindToken t n).readers = s.readers := rfl
@[simp] theorem State.unbindToken_bus (t : Token) (n : Nat) : (s.unbindToken t n).bus = s.bus := rfl
@[simp] theorem State.unbindToken_wau (t : Token) (n : Nat) : (s.unbindToken t n).wau = s.wau := rfl
@[simp] theorem State.unbindToken_subMs (t : Token) (n : Nat) : (s.unbindToken t n).subMs = s.subMs := rfl

/-! ### Fields that `addMember` leaves -/

@[simp] theorem State.addMember_pending (p : Nat) : (s.addMember p).pending = s.pending := rfl
@[simp] theorem State.addMember_resetLow (p : Nat) : (s.addMember p).resetLow = s.resetLow := rfl
@[simp] theorem State.addMember_link (p : Nat) : (s.addMember p).link = s.link := rfl
@[simp] theorem State.addMember_globals (p : Nat) : (s.addMember p).globals = s.globals := rfl
@[simp] theorem State.addMember_tokens (p : Nat) : (s.addMember p).tokens = s.tokens := rfl
@[simp] theorem State.addMember_tariffs (p : Nat) : (s.addMember p).tariffs = s.tariffs := rfl
@[simp] theorem State.addMember_schedules (p : Nat) : (s.addMember p).schedules = s.schedules := rfl
@[simp] theorem State.addMember_stations (p : Nat) : (s.addMember p).stations = s.stations := rfl
@[simp] theorem State.addMember_retryOwed (p : Nat) : (s.addMember p).retryOwed = s.retryOwed := rfl
@[simp] theorem State.addMember_readers (p : Nat) : (s.addMember p).readers = s.readers := rfl
@[simp] theorem State.addMember_bus (p : Nat) : (s.addMember p).bus = s.bus := rfl
@[simp] theorem State.addMember_wau (p : Nat) : (s.addMember p).wau = s.wau := rfl
@[simp] theorem State.addMember_subMs (p : Nat) : (s.addMember p).subMs = s.subMs := rfl

/-! ### Fields that `dropMember` leaves -/

@[simp] theorem State.dropMember_pending (p : Nat) : (s.dropMember p).pending = s.pending := rfl
@[simp] theorem State.dropMember_resetLow (p : Nat) : (s.dropMember p).resetLow = s.resetLow := rfl
@[simp] theorem State.dropMember_link (p : Nat) : (s.dropMember p).link = s.link := rfl
@[simp] theorem State.dropMember_globals (p : Nat) : (s.dropMember p).globals = s.globals := rfl
@[simp] theorem State.dropMember_tokens (p : Nat) : (s.dropMember p).tokens = s.tokens := rfl
@[simp] theorem State.dropMember_tariffs (p : Nat) : (s.dropMember p).tariffs = s.tariffs := rfl
@[simp] theorem State.dropMember_schedules (p : Nat) : (s.dropMember p).schedules = s.schedules := rfl
@[simp] theorem State.dropMember_stations (p : Nat) : (s.dropMember p).stations = s.stations := rfl
@[simp] theorem State.dropMember_retryOwed (p : Nat) : (s.dropMember p).retryOwed = s.retryOwed := rfl
@[simp] theorem State.dropMember_readers (p : Nat) : (s.dropMember p).readers = s.readers := rfl
@[simp] theorem State.dropMember_bus (p : Nat) : (s.dropMember p).bus = s.bus := rfl
@[simp] theorem State.dropMember_wau (p : Nat) : (s.dropMember p).wau = s.wau := rfl
@[simp] theorem State.dropMember_subMs (p : Nat) : (s.dropMember p).subMs = s.subMs := rfl

/-! ### Fields that `dropTokens` leaves -/

@[simp] theorem State.dropTokens_pending (ts : List Token) : (s.dropTokens ts).pending = s.pending := rfl
@[simp] theorem State.dropTokens_resetLow (ts : List Token) : (s.dropTokens ts).resetLow = s.resetLow := rfl
@[simp] theorem State.dropTokens_link (ts : List Token) : (s.dropTokens ts).link = s.link := rfl
@[simp] theorem State.dropTokens_globals (ts : List Token) : (s.dropTokens ts).globals = s.globals := rfl
@[simp] theorem State.dropTokens_accounts (ts : List Token) : (s.dropTokens ts).accounts = s.accounts := rfl
@[simp] theorem State.dropTokens_tariffs (ts : List Token) : (s.dropTokens ts).tariffs = s.tariffs := rfl
@[simp] theorem State.dropTokens_schedules (ts : List Token) : (s.dropTokens ts).schedules = s.schedules := rfl
@[simp] theorem State.dropTokens_stations (ts : List Token) : (s.dropTokens ts).stations = s.stations := rfl
@[simp] theorem State.dropTokens_retryOwed (ts : List Token) : (s.dropTokens ts).retryOwed = s.retryOwed := rfl
@[simp] theorem State.dropTokens_readers (ts : List Token) : (s.dropTokens ts).readers = s.readers := rfl
@[simp] theorem State.dropTokens_bus (ts : List Token) : (s.dropTokens ts).bus = s.bus := rfl
@[simp] theorem State.dropTokens_wau (ts : List Token) : (s.dropTokens ts).wau = s.wau := rfl
@[simp] theorem State.dropTokens_subMs (ts : List Token) : (s.dropTokens ts).subMs = s.subMs := rfl

/-! ### Fields that `dropAccount` leaves -/

@[simp] theorem State.dropAccount_pending (n : Nat) : (s.dropAccount n).pending = s.pending := rfl
@[simp] theorem State.dropAccount_resetLow (n : Nat) : (s.dropAccount n).resetLow = s.resetLow := rfl
@[simp] theorem State.dropAccount_link (n : Nat) : (s.dropAccount n).link = s.link := rfl
@[simp] theorem State.dropAccount_globals (n : Nat) : (s.dropAccount n).globals = s.globals := rfl
@[simp] theorem State.dropAccount_tokens (n : Nat) : (s.dropAccount n).tokens = s.tokens := rfl
@[simp] theorem State.dropAccount_tariffs (n : Nat) : (s.dropAccount n).tariffs = s.tariffs := rfl
@[simp] theorem State.dropAccount_schedules (n : Nat) : (s.dropAccount n).schedules = s.schedules := rfl
@[simp] theorem State.dropAccount_stations (n : Nat) : (s.dropAccount n).stations = s.stations := rfl
@[simp] theorem State.dropAccount_retryOwed (n : Nat) : (s.dropAccount n).retryOwed = s.retryOwed := rfl
@[simp] theorem State.dropAccount_readers (n : Nat) : (s.dropAccount n).readers = s.readers := rfl
@[simp] theorem State.dropAccount_bus (n : Nat) : (s.dropAccount n).bus = s.bus := rfl
@[simp] theorem State.dropAccount_wau (n : Nat) : (s.dropAccount n).wau = s.wau := rfl
@[simp] theorem State.dropAccount_subMs (n : Nat) : (s.dropAccount n).subMs = s.subMs := rfl

/-! ### Fields that `setWalkupUnit` leaves -/

@[simp] theorem State.setWalkupUnit_pending (w : WalkupUnit) : (s.setWalkupUnit w).pending = s.pending := rfl
@[simp] theorem State.setWalkupUnit_resetLow (w : WalkupUnit) : (s.setWalkupUnit w).resetLow = s.resetLow := rfl
@[simp] theorem State.setWalkupUnit_link (w : WalkupUnit) : (s.setWalkupUnit w).link = s.link := rfl
@[simp] theorem State.setWalkupUnit_globals (w : WalkupUnit) : (s.setWalkupUnit w).globals = s.globals := rfl
@[simp] theorem State.setWalkupUnit_accounts (w : WalkupUnit) : (s.setWalkupUnit w).accounts = s.accounts := rfl
@[simp] theorem State.setWalkupUnit_tokens (w : WalkupUnit) : (s.setWalkupUnit w).tokens = s.tokens := rfl
@[simp] theorem State.setWalkupUnit_tariffs (w : WalkupUnit) : (s.setWalkupUnit w).tariffs = s.tariffs := rfl
@[simp] theorem State.setWalkupUnit_schedules (w : WalkupUnit) : (s.setWalkupUnit w).schedules = s.schedules := rfl
@[simp] theorem State.setWalkupUnit_stations (w : WalkupUnit) : (s.setWalkupUnit w).stations = s.stations := rfl
@[simp] theorem State.setWalkupUnit_retryOwed (w : WalkupUnit) : (s.setWalkupUnit w).retryOwed = s.retryOwed := rfl
@[simp] theorem State.setWalkupUnit_readers (w : WalkupUnit) : (s.setWalkupUnit w).readers = s.readers := rfl
@[simp] theorem State.setWalkupUnit_bus (w : WalkupUnit) : (s.setWalkupUnit w).bus = s.bus := rfl
@[simp] theorem State.setWalkupUnit_subMs (w : WalkupUnit) : (s.setWalkupUnit w).subMs = s.subMs := rfl

/-! ### Fields that `drive` leaves -/

@[simp] theorem State.drive_pending : (s.drive).pending = s.pending := rfl
@[simp] theorem State.drive_resetLow : (s.drive).resetLow = s.resetLow := rfl
@[simp] theorem State.drive_globals : (s.drive).globals = s.globals := rfl
@[simp] theorem State.drive_accounts : (s.drive).accounts = s.accounts := rfl
@[simp] theorem State.drive_tokens : (s.drive).tokens = s.tokens := rfl
@[simp] theorem State.drive_tariffs : (s.drive).tariffs = s.tariffs := rfl
@[simp] theorem State.drive_schedules : (s.drive).schedules = s.schedules := rfl
@[simp] theorem State.drive_retryOwed : (s.drive).retryOwed = s.retryOwed := rfl
@[simp] theorem State.drive_readers : (s.drive).readers = s.readers := rfl
@[simp] theorem State.drive_bus : (s.drive).bus = s.bus := rfl
@[simp] theorem State.drive_wau : (s.drive).wau = s.wau := rfl
@[simp] theorem State.drive_subMs : (s.drive).subMs = s.subMs := rfl

/-! ### Lookups by station and reader number -/

@[simp] theorem State.station_setStation_self (i : StationId) (st : Station) :
    (s.setStation i st).station i = st := by
  simp [State.station, State.setStation]

theorem State.station_setStation_ne {i k : StationId} (h : k ≠ i) (st : Station) :
    (s.setStation i st).station k = s.station k := by
  simp [State.station, State.setStation, Fin.val_inj, h.symm]

/-- A lookup after a station update, the station number decided. -/
theorem State.station_modifyStation (i k : StationId) (f : Station → Station) :
    (s.modifyStation i f).station k = if k = i then f (s.station i) else s.station k := by
  by_cases h : k = i
  · subst h; simp [State.modifyStation]
  · simp [State.modifyStation, State.station_setStation_ne s h, h]

@[simp] theorem State.station_modifyStation_self (i : StationId) (f : Station → Station) :
    (s.modifyStation i f).station i = f (s.station i) := by
  simp [State.station_modifyStation]

@[simp] theorem State.station_modifyJob_self (i : StationId) (f : Job → Job) :
    (s.modifyJob i f).station i = { s.station i with job := (s.station i).job.map f } := by
  simp [State.modifyJob]

@[simp] theorem State.station_enter_self (i : StationId) (x : StationState) :
    (s.enter i x).station i = { s.station i with state := x } := by
  simp [State.enter]

/-- A lookup after a reader update, the address decided. -/
theorem State.reader_modifyReader (i k : StationId) (f : Reader → Reader) :
    (s.modifyReader i f).reader k = if k = i then f (s.reader i) else s.reader k := by
  by_cases h : k = i
  · subst h; simp [State.reader, State.modifyReader]
  · simp [State.reader, State.modifyReader, Fin.val_inj, Ne.symm h, h]

@[simp] theorem State.reader_modifyReader_self (i : StationId) (f : Reader → Reader) :
    (s.modifyReader i f).reader i = f (s.reader i) := by
  simp [State.reader_modifyReader]

@[simp] theorem State.station_modifyReader (i k : StationId) (f : Reader → Reader) :
    (s.modifyReader i f).station k = s.station k := rfl

@[simp] theorem State.station_placeDisplay (i k : StationId) (d : Display) :
    (s.placeDisplay i d).station k = s.station k := rfl

@[simp] theorem State.station_modifyAccount (n : Nat) (f : Account → Account) (k : StationId) :
    (s.modifyAccount n f).station k = s.station k := rfl

@[simp] theorem State.reader_drive (k : StationId) : s.drive.reader k = s.reader k := rfl

@[simp] theorem State.reader_modifyStation (i k : StationId) (f : Station → Station) :
    (s.modifyStation i f).reader k = s.reader k := rfl

@[simp] theorem State.account_drive (n : Nat) : s.drive.account n = s.account n := rfl

@[simp] theorem State.account_modifyStation (i : StationId) (f : Station → Station) (n : Nat) :
    (s.modifyStation i f).account n = s.account n := rfl

/-! ### Sixteen places -/

@[simp] theorem mapSixteen_get {α β : Type} (f : StationId → α → β) (v : Vector α 16) (i : StationId) :
    (mapSixteen f v)[i] = f i v[i] := by
  fin_cases i <;> rfl

/-- The places of `allStations` are all the station numbers. -/
theorem mem_allStations (i : StationId) : i ∈ allStations := by
  fin_cases i <;> decide

/-! ### Driving the pins -/

@[simp] theorem State.station_drive (k : StationId) :
    s.drive.station k = { s.station k with permit := !s.resetLow && (s.station k).permitCondition } := by
  show (mapSixteen _ s.stations)[k] = _
  rw [mapSixteen_get]; rfl

@[simp] theorem State.drive_undriven (k : StationId) :
    (s.drive.station k).undriven = (s.station k).undriven := by
  simp [Station.undriven]

@[simp] theorem State.drive_link_undriven : s.drive.link.undriven = s.link.undriven := rfl

@[simp] theorem State.drive_judged : s.drive.link.judged = s.link.judged := rfl
@[simp] theorem State.drive_response : s.drive.link.response = s.link.response := rfl
@[simp] theorem State.drive_collision : s.drive.link.collision = s.link.collision := rfl
@[simp] theorem State.drive_select : s.drive.link.select = s.link.select := rfl
@[simp] theorem State.drive_misoOut : s.drive.link.misoOut = s.link.misoOut := rfl
@[simp] theorem State.drive_rdy : s.drive.link.rdy = (!s.resetLow && s.link.judged.isNone) := rfl
@[simp] theorem State.drive_attn : s.drive.link.attn = (!s.resetLow && s.attnCause) := rfl
@[simp] theorem State.drive_misoDriven :
    s.drive.link.misoDriven = (!s.resetLow && s.link.select.isSome) := rfl

@[simp] theorem State.drive_attnCause : s.drive.attnCause = s.attnCause := by
  simp [State.attnCause]

/-! ### The bus at the end of a slot and after the clock is let go -/

@[simp] theorem State.endSlot_phase : s.endSlot.bus.phase = restOrNext s.bus.toServe := rfl
@[simp] theorem State.endSlot_clockHeld : s.endSlot.bus.clockHeld = s.bus.clockHeld := rfl
@[simp] theorem State.endSlot_toServe : s.endSlot.bus.toServe = s.bus.toServe := rfl
@[simp] theorem State.endSlot_periodTimer : s.endSlot.bus.periodTimer = s.bus.periodTimer := rfl
@[simp] theorem State.endSlot_broadcast : s.endSlot.bus.broadcast = s.bus.broadcast := rfl
@[simp] theorem State.clockFree_phase : s.clockFree.bus.phase = s.bus.phase := rfl
@[simp] theorem State.clockFree_clockHeld : s.clockFree.bus.clockHeld = false := rfl
@[simp] theorem State.clockFree_toServe : s.clockFree.bus.toServe = s.bus.toServe := rfl
@[simp] theorem State.clockFree_periodTimer : s.clockFree.bus.periodTimer = s.bus.periodTimer := rfl
@[simp] theorem State.clockFree_broadcast : s.clockFree.bus.broadcast = s.bus.broadcast := rfl

/-! ### Accounts by number -/

/-- A lookup after a record update that keeps numbers. -/
theorem State.account_modifyAccount (n m : Nat) (f : Account → Account)
    (hf : ∀ a, (f a).number = a.number) :
    (s.modifyAccount n f).account m = if m = n then (s.account m).map f else s.account m := by
  have hg : ((fun a : Account => a.number == m) ∘ fun a => if a.number = n then f a else a) =
      fun a => a.number == m := by
    funext a
    by_cases h : a.number = n <;> simp [h, hf]
  show (s.accounts.map _).find? _ = _
  rw [List.find?_map, hg]
  show (s.account m).map _ = _
  cases h : s.account m with
  | none => simp
  | some a =>
    have := List.find?_some h
    by_cases hmn : m = n <;> simp_all

/-- The record a lookup finds has the number asked for. -/
theorem State.account_number {n : Nat} {a : Account} (h : s.account n = some a) : a.number = n := by
  have := List.find?_some h
  simpa using this

/-- The record a lookup finds is in the table. -/
theorem State.account_mem {n : Nat} {a : Account} (h : s.account n = some a) : a ∈ s.accounts :=
  List.mem_of_find?_eq_some h

end Sys2Proof.Machine
end

