-- ==== Sys2Proof/Laws/Frames.lean ====
section
/-! SUPPORT. What the operations of jobs, paths, walk-ups and sessions never touch: the queue, the host
link, the settings, the tariffs and schedules, the bus, the clock and the owed retries. One lemma for
each shared operation. -/

namespace Sys2Proof.Machine

/-- Everything but accounts, tokens, stations, readers and the walk-up unit. -/
def State.board (s : State) : List Instr × Bool × Link × Globals × Vector Tariff 4 × Vector Schedule 4 ×
    List Nat × Bus × Nat :=
  (s.pending, s.resetLow, s.link, s.globals, s.tariffs, s.schedules, s.retryOwed, s.bus, s.subMs)

/-- What an equal board says, part by part. -/
theorem board_eq {s t : State} (h : t.board = s.board) :
    t.pending = s.pending ∧ t.resetLow = s.resetLow ∧ t.link = s.link ∧ t.globals = s.globals ∧
      t.tariffs = s.tariffs ∧ t.schedules = s.schedules ∧ t.retryOwed = s.retryOwed ∧ t.bus = s.bus ∧
      t.subMs = s.subMs := by
  simpa only [State.board, Prod.mk.injEq] using h

/-- A fold of steps that leave the board. -/
theorem board_foldl {α : Type} (f : State → α → State) (hf : ∀ s a, (f s a).board = s.board) (l : List α)
    (s : State) : (l.foldl f s).board = s.board := by
  induction l generalizing s with
  | nil => rfl
  | cons a l ih => exact (ih _).trans (hf s a)

variable (s : State)

@[simp] theorem board_modifyStation (i : StationId) (f : Station → Station) : (s.modifyStation i f).board = s.board := rfl
@[simp] theorem board_modifyJob (i : StationId) (f : Job → Job) : (s.modifyJob i f).board = s.board := rfl
@[simp] theorem board_modifyAlarms (i : StationId) (f : StationAlarms → StationAlarms) : (s.modifyAlarms i f).board = s.board := rfl
@[simp] theorem board_enter (i : StationId) (x : StationState) : (s.enter i x).board = s.board := rfl
@[simp] theorem board_modifyReader (i : StationId) (f : Reader → Reader) : (s.modifyReader i f).board = s.board := rfl
@[simp] theorem board_placeDisplay (i : StationId) (d : Display) : (s.placeDisplay i d).board = s.board := rfl
@[simp] theorem board_placeCharge (i : StationId) : (s.placeCharge i).board = s.board := rfl
@[simp] theorem board_placeStopped (i : StationId) : (s.placeStopped i).board = s.board := rfl
@[simp] theorem board_modifyAccount (n : Nat) (f : Account → Account) : (s.modifyAccount n f).board = s.board := rfl
@[simp] theorem board_addAccount (a : Account) : (s.addAccount a).board = s.board := rfl
@[simp] theorem board_bindToken (t : Token) (n : Nat) : (s.bindToken t n).board = s.board := rfl
@[simp] theorem board_unbindToken (t : Token) (n : Nat) : (s.unbindToken t n).board = s.board := rfl
@[simp] theorem board_enterHeld (i : StationId) : (s.enterHeld i).board = s.board := rfl
@[simp] theorem board_enterRunning (i : StationId) : (s.enterRunning i).board = s.board := rfl
@[simp] theorem board_recordEnd (i : StationId) (c : EndCause) : (s.recordEnd i c).board = s.board := rfl
@[simp] theorem board_billSheet (i : StationId) (x : Sheet) : (s.billSheet i x).board = s.board := rfl
@[simp] theorem board_jamEntry (i : StationId) (c : JamCause) : (s.jamEntry i c).board = s.board := rfl
@[simp] theorem board_unauthorisedFeed (i : StationId) : (s.unauthorisedFeed i).board = s.board := rfl
@[simp] theorem board_unpricedFeed (i : StationId) : (s.unpricedFeed i).board = s.board := rfl
@[simp] theorem board_strayExitOfJob (i : StationId) : (s.strayExitOfJob i).board = s.board := rfl
@[simp] theorem board_strayExitOfStation (i : StationId) : (s.strayExitOfStation i).board = s.board := rfl
@[simp] theorem board_addMember (p : Nat) : (s.addMember p).board = s.board := rfl
@[simp] theorem board_dropMember (p : Nat) : (s.dropMember p).board = s.board := rfl
@[simp] theorem board_dropTokens (ts : List Token) : (s.dropTokens ts).board = s.board := rfl
@[simp] theorem board_dropAccount (n : Nat) : (s.dropAccount n).board = s.board := rfl
@[simp] theorem board_setWalkupUnit (w : WalkupUnit) : (s.setWalkupUnit w).board = s.board := rfl

@[simp] theorem board_leavePayer (a : Account) : (s.leavePayer a).board = s.board := by
  simp only [State.leavePayer]; (repeat' split) <;> simp

@[simp] theorem board_removeAccount (n : Nat) : (s.removeAccount n).board = s.board := by
  simp only [State.removeAccount]; (repeat' split) <;> simp

@[simp] theorem board_restartIdle (i : StationId) : (s.restartIdle i).board = s.board := by
  simp only [State.restartIdle]; (repeat' split) <;> simp

@[simp] theorem board_raiseHold (i : StationId) (j : Job) (c : Nat) : (s.raiseHold i j c).board = s.board := by
  simp only [State.raiseHold]; (repeat' split) <;> simp

@[simp] theorem board_coverTest (i : StationId) : ((s.coverTest i).1).board = s.board := by
  simp only [State.coverTest]; (repeat' split) <;> simp

@[simp] theorem board_coverAfterPricing (i : StationId) : (s.coverAfterPricing i).board = s.board := by
  simp only [State.coverAfterPricing]; (repeat' split) <;> simp

@[simp] theorem board_retryAt (n : Nat) (i : StationId) : (State.retryAt n s i).board = s.board := by
  simp only [State.retryAt]; (repeat' split) <;> simp

@[simp] theorem board_retry (n : Nat) : (s.retry n).board = s.board :=
  board_foldl (State.retryAt n) (fun s i => board_retryAt s n i) allStations s

@[simp] theorem board_forceHold (i : StationId) (j : Job) (a : Nat) : (s.forceHold i j a).board = s.board := by
  simp only [State.forceHold]; (repeat' split) <;> simp

@[simp] theorem board_priceSheet (i : StationId) (j : Job) (c : SheetClass) : (s.priceSheet i j c).board = s.board := by
  simp only [State.priceSheet]; simp

@[simp] theorem board_voidSheet (i : StationId) (x : Sheet) : (State.voidSheet i s x).board = s.board := by
  simp only [State.voidSheet]; (repeat' split) <;> simp

@[simp] theorem board_voidDisputed (i : StationId) : (s.voidDisputed i).board = s.board :=
  board_foldl (State.voidSheet i) (fun s x => board_voidSheet s i x) _ s

@[simp] theorem board_voidPath (i : StationId) : (s.voidPath i).board = s.board :=
  board_foldl (State.voidSheet i) (fun s x => board_voidSheet s i x) _ s

@[simp] theorem board_settleMoney (j : Job) : (s.settleMoney j).board = s.board := by
  simp only [State.settleMoney]; (repeat' split) <;> simp

@[simp] theorem board_settlePeriod (j : Job) : (s.settlePeriod j).board = s.board := by
  simp only [State.settlePeriod]; (repeat' split) <;> simp

@[simp] theorem board_settleTransient (n : Nat) (a : Account) (c : Nat) : (s.settleTransient n a c).board = s.board := by
  simp only [State.settleTransient]; simp

@[simp] theorem board_closeAccount (c n : Nat) : (s.closeAccount c n).board = s.board := by
  simp only [State.closeAccount]; (repeat' split) <;> simp

@[simp] theorem board_retryIfPresent (n : Nat) : (s.retryIfPresent n).board = s.board := by
  simp only [State.retryIfPresent]; (repeat' split) <;> simp

@[simp] theorem board_settleJob (i : StationId) (d : StationState) (j : Job) : (s.settleJob i d j).board = s.board := by
  simp only [State.settleJob]; (repeat' split) <;> simp

@[simp] theorem board_settle (i : StationId) (d : StationState) : (s.settle i d).board = s.board := by
  simp only [State.settle]; (repeat' split) <;> simp

@[simp] theorem board_enterClosing (i : StationId) : (s.enterClosing i).board = s.board := by
  simp only [State.enterClosing]; (repeat' split) <;> simp

@[simp] theorem board_requestEnd (i : StationId) (c : EndCause) : (s.requestEnd i c).board = s.board := by
  simp only [State.requestEnd]; (repeat' split) <;> simp

@[simp] theorem board_placeHold (j : Job) : (s.placeHold j).board = s.board := by
  simp only [State.placeHold]; (repeat' split) <;> simp

@[simp] theorem board_openAt (i : StationId) (u : Account) (o : OpenedBy) : (s.openAt i u o).board = s.board := by
  simp only [State.openAt]; simp

@[simp] theorem board_resumeAfterJam (i : StationId) : (s.resumeAfterJam i).board = s.board := by
  simp only [State.resumeAfterJam]; (repeat' split) <;> simp

@[simp] theorem board_jamClear (i : StationId) : (s.jamClear i).board = s.board := by
  simp only [State.jamClear]; (repeat' split) <;> simp

@[simp] theorem board_jamTimedOut (i : StationId) : (s.jamTimedOut i).board = s.board := by
  simp only [State.jamTimedOut]; simp

@[simp] theorem board_resetJob (i : StationId) : (s.resetJob i).board = s.board := by
  simp only [State.resetJob]; simp

@[simp] theorem board_startPermitDelay (i : StationId) : (s.startPermitDelay i).board = s.board := by
  simp only [State.startPermitDelay]; (repeat' split) <;> simp

@[simp] theorem board_queueOrBill (i : StationId) (x : Sheet) : (s.queueOrBill i x).board = s.board := by
  simp only [State.queueOrBill]; (repeat' split) <;> simp

@[simp] theorem board_pricingRequest (i : StationId) : (s.pricingRequest i).board = s.board := by
  simp only [State.pricingRequest]; (repeat' split) <;> simp

@[simp] theorem board_pathOverflow (i : StationId) : (s.pathOverflow i).board = s.board := by
  simp only [State.pathOverflow]; simp

@[simp] theorem board_feedWithJob (i : StationId) : (s.feedWithJob i).board = s.board := by
  simp only [State.feedWithJob]; (repeat' split) <;> simp

@[simp] theorem board_completedFeed (i : StationId) : (s.completedFeed i).board = s.board := by
  simp only [State.completedFeed]; (repeat' split) <;> simp

@[simp] theorem board_exitFromPath (i : StationId) : (s.exitFromPath i).board = s.board := by
  simp only [State.exitFromPath]; (repeat' split) <;> simp

@[simp] theorem board_exitInClosing (i : StationId) : (s.exitInClosing i).board = s.board := by
  simp only [State.exitInClosing]; (repeat' split) <;> simp

@[simp] theorem board_exitFromDisputed (i : StationId) : (s.exitFromDisputed i).board = s.board := by
  simp only [State.exitFromDisputed]; (repeat' split) <;> simp

@[simp] theorem board_completedExit (i : StationId) : (s.completedExit i).board = s.board := by
  simp only [State.completedExit]; (repeat' split) <;> simp

@[simp] theorem board_feedPulse (i : StationId) : (s.feedPulse i).board = s.board := by
  simp only [State.feedPulse]; (repeat' split) <;> simp

@[simp] theorem board_exitPulse (i : StationId) : (s.exitPulse i).board = s.board := by
  simp only [State.exitPulse]; (repeat' split) <;> simp

@[simp] theorem board_jamActivation (i : StationId) : (s.jamActivation i).board = s.board := by
  simp only [State.jamActivation]; (repeat' split) <;> simp

@[simp] theorem board_jamRelease (i : StationId) : (s.jamRelease i).board = s.board := by
  simp only [State.jamRelease]; (repeat' split) <;> simp

@[simp] theorem board_lineEdge (i : StationId) (l : FilteredLine) (a : Bool) : (s.lineEdge i l a).board = s.board := by
  simp only [State.lineEdge]; (repeat' split) <;> simp

@[simp] theorem board_filterExpiry (i : StationId) (l : FilteredLine) : (s.filterExpiry i l).board = s.board := by
  simp only [State.filterExpiry]; (repeat' split) <;> simp

@[simp] theorem board_startWalkup (i : StationId) (t : Token) : (s.startWalkup i t).board = s.board := by
  simp only [State.startWalkup]; simp

@[simp] theorem board_requestWalkup (i : StationId) (t : Token) : (s.requestWalkup i t).board = s.board := by
  simp only [State.requestWalkup]; (repeat' split) <;> simp

@[simp] theorem board_endWalkup (a : Account) (i : StationId) (d : Display) : (s.endWalkup a i d).board = s.board := by
  simp only [State.endWalkup]; simp

@[simp] theorem board_cancelWalkup (i : StationId) : (s.cancelWalkup i).board = s.board := by
  simp only [State.cancelWalkup]; (repeat' split) <;> simp

@[simp] theorem board_openWalkup (i : StationId) (a : Account) : (s.openWalkup i a).board = s.board := by
  simp only [State.openWalkup]; simp

@[simp] theorem board_cardOpens (i : StationId) (t : Token) (u : Account) : (s.cardOpens i t u).board = s.board := by
  simp only [State.cardOpens]; (repeat' split) <;> simp

@[simp] theorem board_unknownCard (i : StationId) (t : Token) (k : CardKind) : (s.unknownCard i t k).board = s.board := by
  simp only [State.unknownCard]; (repeat' split) <;> simp

@[simp] theorem board_knownCard (i : StationId) (t : Token) (u : Account) : (s.knownCard i t u).board = s.board := by
  simp only [State.knownCard]; (repeat' split) <;> simp

@[simp] theorem board_cardAtIdle (i : StationId) (t : Token) (k : CardKind) : (s.cardAtIdle i t k).board = s.board := by
  simp only [State.cardAtIdle]; (repeat' split) <;> simp

@[simp] theorem board_ownCardRunning (i : StationId) (t : Token) : (s.ownCardRunning i t).board = s.board := by
  simp only [State.ownCardRunning]; (repeat' split) <;> simp

@[simp] theorem board_ownCard (i : StationId) (t : Token) : (s.ownCard i t).board = s.board := by
  simp only [State.ownCard]; (repeat' split) <;> simp

@[simp] theorem board_cardInSession (i : StationId) (t : Token) : (s.cardInSession i t).board = s.board := by
  simp only [State.cardInSession]; (repeat' split) <;> simp

@[simp] theorem board_cardEvent (i : StationId) (t : Token) (k : CardKind) (x : SessionStyle) : (s.cardEvent i t k x).board = s.board := by
  simp only [State.cardEvent]; (repeat' split) <;> simp

@[simp] theorem board_sessionCardOut (i : StationId) : (s.sessionCardOut i).board = s.board := by
  simp only [State.sessionCardOut]; (repeat' split) <;> simp

@[simp] theorem board_cardOutEvent (i : StationId) : (s.cardOutEvent i).board = s.board := by
  simp only [State.cardOutEvent]; (repeat' split) <;> simp

@[simp] theorem board_keyEvent (i : StationId) (k : Key) : (s.keyEvent i k).board = s.board := by
  simp only [State.keyEvent]; (repeat' split) <;> simp

@[simp] theorem board_readerEvent (i : StationId) (e : ReaderEvent) : (s.readerEvent i e).board = s.board := by
  simp only [State.readerEvent]; (repeat' split) <;> simp

@[simp] theorem board_idleExpiry (i : StationId) : (s.idleExpiry i).board = s.board := by
  simp only [State.idleExpiry]; (repeat' split) <;> simp

@[simp] theorem board_authExpiry (n : Nat) : (s.authExpiry n).board = s.board := by
  simp only [State.authExpiry]; (repeat' split) <;> simp

@[simp] theorem board_blockAt (n : Nat) (i : StationId) : (State.blockAt n s i).board = s.board := by
  simp only [State.blockAt]; (repeat' split) <;> simp

@[simp] theorem board_blockJobs (n : Nat) : (s.blockJobs n).board = s.board :=
  board_foldl (State.blockAt n) (fun s i => board_blockAt s n i) allStations s

end Sys2Proof.Machine
end

