-- ==== Sys2Proof/Laws/Commands.lean ====
section
/-! SUPPORT. What a host command and an event can do, said once: the three ways a host command ends, how
an event ends, and the two ways to an `Answers` or `Happens`. -/

namespace Sys2Proof.Machine

/-- Every way a host command can end: in reset, as a collision, or carried out (R184, R185, R193). -/
theorem hostCommand_cases (s : State) (i : Instr) (body : State → State × Response) :
    (s.resetLow = true ∧ s.hostCommand i body = .next s) ∨
    (s.resetLow = false ∧ s.link.occupiedFor i = true ∧
      s.hostCommand i body = .next { s with link := { s.link with collision := true } }.drive) ∨
    (s.ready i ∧ s.hostCommand i body =
      .next { (body s).1 with
        link := { (body s).1.link.place (body s).2 with judged := none } }.drive) := by
  unfold State.hostCommand State.ready
  cases s.resetLow <;> cases s.link.occupiedFor i <;> simp

/-- A host command that is carried out (R184). -/
theorem hostCommand_ready {s : State} {i : Instr} (h : s.ready i) (body : State → State × Response) :
    s.hostCommand i body =
      .next { (body s).1 with
        link := { (body s).1.link.place (body s).2 with judged := none } }.drive := by
  unfold State.hostCommand
  simp [h.1, h.2]

/-- The pins are what the state demands once it is driven. -/
theorem drive_pinsLaw (s : State) : PinsLaw s.drive :=
  ⟨rfl, by rw [State.drive_attnCause]; rfl, rfl, fun k => by simp [Station.permitCondition]⟩

/-- Driving the pins keeps every part. -/
theorem agrees_drive {p : Part} {s t : State} (h : p.agrees s t) : p.agrees s t.drive := by
  cases p <;> first | exact h | exact fun k => (State.drive_undriven t k).trans (h k)

/-- A response placed touches the link alone. -/
theorem agrees_withLink {p : Part} {s t : State} (l : Link) (hp : p ≠ .link) (h : p.agrees s t) :
    p.agrees s { t with link := l } := by
  cases p <;> first | exact h | exact absurd rfl hp

/-- A response placed in links that differ in their pins alone, the pins then driven. -/
theorem link_redriven {l m : Link} (h : l.undriven = m.undriven) (r : Response) {rdy attn : Bool} :
    { l.place r with
      judged := none, rdy := rdy, attn := attn, misoDriven := (l.place r).select.isSome } =
    { m.place r with
      judged := none, rdy := rdy, attn := attn, misoDriven := (m.place r).select.isSome } := by
  cases l; cases m
  simp only [Link.undriven, Link.mk.injEq] at h
  simp [Link.place, Link.dropResponse, h]

/-- How a command comes to `Answers`: it is ready, its work leaves the reset line and, pins apart, the
link, and what holds after the work is not touched by the link or by driving the pins. -/
theorem answers_of_work {i : Instr} {s : State} {status : Status} {results : List Byte}
    {changed : List Part} {holds : State → Prop} {body : State → State × Response}
    (hr : s.ready i) (hx : exec i s = s.hostCommand i body) (hb : (body s).2 = answer status results)
    (hl : (body s).1.link.undriven = s.link.undriven) (hz : (body s).1.resetLow = s.resetLow)
    (hk : KeepsAllBut changed s (body s).1)
    (hh : ∀ l, holds { (body s).1 with link := l }.drive) :
    Answers i s status results changed holds := by
  refine ⟨_, hx.trans (hostCommand_ready hr body), ?_, ?_, drive_pinsLaw _, hh _⟩
  · simp only [AnsweredWith, hb, State.drive_attnCause]
    simp only [State.drive, hz, hr.1]
    exact (link_redriven hl _).trans (by simp [Link.place, Link.dropResponse, Option.isSome_map])
  · intro p hp
    simp only [List.mem_cons, not_or] at hp
    exact agrees_drive (agrees_withLink _ hp.1 (hk p hp.2))

/-- A command that answers without any work. -/
theorem answers_of_unchanged {i : Instr} {s : State} {status : Status} {results : List Byte}
    {body : State → State × Response} (hr : s.ready i) (hx : exec i s = s.hostCommand i body)
    (hb : body s = (s, answer status results)) : Answers i s status results [] fun _ => True :=
  answers_of_work hr hx (by rw [hb]) (by rw [hb]) (by rw [hb])
    (fun p _ => by rw [hb]; cases p <;> simp [Part.agrees]) (fun _ => trivial)

/-- How an event comes to `Happens`. -/
theorem happens_of_event {i : Instr} {s : State} {changed : List Part} {holds : State → Prop}
    {after : State} (hr : s.resetLow = false) (hx : exec i s = s.event after)
    (hk : KeepsAllBut changed s after) (hh : holds after.drive) : Happens i s changed holds := by
  refine ⟨after.drive, ?_, fun p hp => agrees_drive (hk p hp), drive_pinsLaw _, hh⟩
  rw [hx]; simp [State.event, hr]

/-- Everything that placing a refusal does: an answer without results, and nothing but the link (R184). -/
theorem placeRefusal_facts {s : State} (status : Status) (hr : s.resetLow = false) :
    AnsweredWith s (s.placeRefusal status) status [] ∧ KeepsAllBut [.link] s (s.placeRefusal status) ∧
      PinsLaw (s.placeRefusal status) := by
  refine ⟨?_, fun p hp => ?_, drive_pinsLaw _⟩
  · simp only [AnsweredWith, State.placeRefusal, State.drive_attnCause]
    simp [State.drive, hr, Link.place, Link.dropResponse, bare, answer, Option.isSome_map]
  · simp only [List.mem_singleton] at hp
    exact agrees_drive (agrees_withLink _ hp (by cases p <;> simp [Part.agrees]))

/-- Every way a step on an empty queue can go: the refusal placed, the due event, or 0.1 ms (log 2). -/
theorem ownStep_cases (s : State) :
    (∃ status, s.resetLow = false ∧ s.link.judged = some (.refusal status) ∧
      s.ownStep = .next (s.placeRefusal status)) ∨
    (∃ c, s.resetLow = false ∧ s.dueRefusal = none ∧ s.dueEvent = some c ∧ s.ownStep = exec c s) ∨
    (s.dueRefusal = none ∧ s.dueEvent = none ∧ s.ownStep = .next s.tick) := by
  have hz : s.resetLow = true → s.dueEvent = none := fun h => by simp [State.dueEvent, h]
  unfold State.ownStep
  cases hd : s.dueRefusal with
  | some status =>
    refine .inl ⟨status, ?_⟩
    unfold State.dueRefusal at hd
    cases h : s.resetLow
    · simp only [h, Bool.false_eq_true, if_false] at hd
      split at hd
      · rename_i x hj
        cases hd
        exact ⟨rfl, hj, rfl⟩
      · cases hd
    · simp [h] at hd
  | none =>
    cases he : s.dueEvent with
    | none => exact .inr (.inr ⟨rfl, rfl, rfl⟩)
    | some c =>
      refine .inr (.inl ⟨c, ?_, rfl, rfl, rfl⟩)
      cases h : s.resetLow
      · rfl
      · rw [hz h] at he
        cases he

/-- What is in hand at the link decides first on an empty queue: a command taken is executed. -/
theorem ownStep_of_command {s : State} {c : Instr} (hr : s.resetLow = false)
    (hj : s.link.judged = some (.command c)) : s.ownStep = exec c s := by
  have hd : s.dueRefusal = none := by simp [State.dueRefusal, hr, hj]
  have he : s.dueEvent = some c := by simp [State.dueEvent, hr, Link.executing, hj]
  unfold State.ownStep
  rw [hd, he]

end Sys2Proof.Machine
end

