-- ==== Sys2Proof/Laws/Operations.lean ====
section
/-! SUPPORT. What each shared operation can do, said once: the algebra of frames, the account table, the
cover test and its retry, pricing and voiding, settlement and the end of a job or a walk-up. A proof
about a command cites these and does not unfold the operation. -/

namespace Sys2Proof.Machine

/-! ### The algebra of frames -/

theorem keepsAllBut_refl (ps : List Part) (s : State) : KeepsAllBut ps s s :=
  fun p _ => by cases p <;> simp [Part.agrees]

theorem keepsAllBut_trans {ps : List Part} {s t u : State} (h : KeepsAllBut ps s t)
    (g : KeepsAllBut ps t u) : KeepsAllBut ps s u := by
  intro p hp
  have a := h p hp
  have b := g p hp
  cases p <;> simp only [Part.agrees] at * <;> first | exact b.trans a | exact fun k => (b k).trans (a k)

theorem keepsAllBut_mono {ps qs : List Part} {s t : State} (h : KeepsAllBut ps s t)
    (hs : ∀ p ∈ ps, p ∈ qs) : KeepsAllBut qs s t :=
  fun p hp => h p fun hq => hp (hs p hq)

theorem keepsAllBut_modifyStation (s : State) (i : StationId) (f : Station → Station) :
    KeepsAllBut [.stations] s (s.modifyStation i f) := by
  intro p hp; cases p <;> first | rfl | exact fun _ => rfl | exact absurd (by decide) hp

theorem keepsAllBut_modifyAccount (s : State) (n : Nat) (f : Account → Account) :
    KeepsAllBut [.accounts] s (s.modifyAccount n f) := by
  intro p hp; cases p <;> first | rfl | exact fun _ => rfl | exact absurd (by decide) hp

theorem keepsAllBut_placeDisplay (s : State) (i : StationId) (d : Display) :
    KeepsAllBut [.readers] s (s.placeDisplay i d) := by
  intro p hp; cases p <;> first | rfl | exact fun _ => rfl | exact absurd (by decide) hp

theorem keepsOtherStations_refl (i : StationId) (s : State) : KeepsOtherStations i s s := fun _ _ => rfl

theorem keepsOtherStations_trans {i : StationId} {s t u : State} (h : KeepsOtherStations i s t)
    (g : KeepsOtherStations i t u) : KeepsOtherStations i s u :=
  fun k hk => (g k hk).trans (h k hk)

theorem keepsOtherStations_modifyStation (s : State) (i : StationId) (f : Station → Station) :
    KeepsOtherStations i s (s.modifyStation i f) :=
  fun k hk => by rw [State.station_modifyStation, if_neg hk]

/-- Driving the pins keeps the other stations. -/
theorem keepsOtherStations_drive {i : StationId} {s t : State} (h : KeepsOtherStations i s t) :
    KeepsOtherStations i s t.drive :=
  fun k hk => (State.drive_undriven _ k).trans (h k hk)

theorem keepsOtherReaders_refl (i : StationId) (s : State) : KeepsOtherReaders i s s := fun _ _ => rfl

theorem keepsOtherReaders_trans {i : StationId} {s t u : State} (h : KeepsOtherReaders i s t)
    (g : KeepsOtherReaders i t u) : KeepsOtherReaders i s u :=
  fun k hk => (g k hk).trans (h k hk)

theorem keepsOtherReaders_placeDisplay (s : State) (i : StationId) (d : Display) :
    KeepsOtherReaders i s (s.placeDisplay i d) :=
  fun k hk => by unfold State.placeDisplay; rw [State.reader_modifyReader, if_neg hk]

/-- A station, pins apart, after a response is placed and the pins are driven. -/
theorem undriven_answered {t : State} {i : StationId} {st : Station} (h : t.station i = st) (l : Link) :
    (({ t with link := l } : State).drive.station i).undriven = st.undriven := by
  rw [State.drive_undriven]
  show (t.station i).undriven = _
  rw [h]

/-! ### Displays (R96, R155) -/

/-- A display placed where neither reader nor bus has changed. -/
theorem shownOn_placeDisplay {s t : State} {i : StationId} {d e : Display} (hd : d = e)
    (hr : t.reader i = s.reader i) (hb : t.bus = s.bus) : ShownOn i e s (t.placeDisplay i d) := by
  unfold ShownOn State.placeDisplay
  rw [State.reader_modifyReader, if_pos rfl, hr, hb, hd]

/-- A later display takes the place of an earlier one. -/
theorem shownOn_placeDisplay_again {s t : State} {i : StationId} {d e : Display} (h : ShownOn i d s t)
    (hb : t.bus = s.bus) : ShownOn i e s (t.placeDisplay i e) := by
  unfold ShownOn State.placeDisplay at *
  rw [State.reader_modifyReader, if_pos rfl, h, hb]
  simp

/-- What reader `i` shows depends on its record alone. -/
theorem shownOn_congr {s t u : State} {i : StationId} {d : Display} (h : ShownOn i d s t)
    (e : u.reader i = t.reader i) : ShownOn i d s u := by
  unfold ShownOn at *
  rw [e, h]

/-! ### The account table (R1, R26) -/

theorem account_none_iff {s : State} {n : Nat} (h : s.account n = none) : ∀ b ∈ s.accounts, b.number ≠ n := by
  intro b hb
  have := List.find?_eq_none.1 h b hb
  simpa using this

/-- Looking up a number after an insertion into a table that lacks it. -/
theorem find_insertAccount (a : Account) (l : List Account) (hn : ∀ b ∈ l, b.number ≠ a.number) (m : Nat) :
    (insertAccount a l).find? (fun b => b.number == m) =
      if m = a.number then some a else l.find? fun b => b.number == m := by
  induction l with
  | nil =>
    simp only [insertAccount, List.find?_cons, List.find?_nil]
    split_ifs with h
    · simp [h]
    · have : (a.number == m) = false := by simpa using fun e => h e.symm
      rw [this]
  | cons b rest ih =>
    have hb := hn b (by simp)
    have ih := ih fun c hc => hn c (by simp [hc])
    simp only [insertAccount]
    by_cases h1 : a.number < b.number
    · rw [if_pos h1, List.find?_cons]
      split_ifs with h
      · simp [h]
      · have : (a.number == m) = false := by simpa using fun e => h e.symm
        rw [this]
    · rw [if_neg h1, if_pos (by omega), List.find?_cons, List.find?_cons, ih]
      by_cases h : m = a.number
      · have e : (b.number == m) = false := by simpa [h] using hb
        rw [e, if_pos h]
      · simp only [h, if_false]

/-- A lookup after a record not yet present is added. -/
theorem account_addAccount (s : State) (a : Account) (h : s.account a.number = none) (m : Nat) :
    (s.addAccount a).account m = if m = a.number then some a else s.account m :=
  find_insertAccount a s.accounts (account_none_iff h) m

/-- A lookup after a record is dropped. -/
theorem account_dropAccount (s : State) (n m : Nat) :
    (s.dropAccount n).account m = if m = n then none else s.account m := by
  show List.find? _ (List.filter _ _) = _
  rw [List.find?_filter]
  split_ifs with h
  · rw [List.find?_eq_none]
    intro b _
    simp [h]
  · show _ = List.find? _ _
    congr 1
    funext b
    by_cases hb : b.number = m
    · simp [hb, h]
    · simp [hb]

/-- A removed record is gone (R26). -/
theorem account_removeAccount_self (s : State) (n : Nat) : (s.removeAccount n).account n = none := by
  unfold State.removeAccount
  split
  · assumption
  · rw [account_dropAccount, if_pos rfl]

/-- The accounts and the token index are all that may differ. -/
def OnlyAccounts (s t : State) : Prop := t = { s with accounts := t.accounts, tokens := t.tokens }

namespace OnlyAccounts

theorem refl (s : State) : OnlyAccounts s s := rfl

theorem trans {s t u : State} (h : OnlyAccounts s t) (g : OnlyAccounts t u) : OnlyAccounts s u := by
  unfold OnlyAccounts at *; rw [g, h]

theorem station {s t : State} (h : OnlyAccounts s t) (i : StationId) : t.station i = s.station i := by
  rw [h]; rfl

theorem reader {s t : State} (h : OnlyAccounts s t) (i : StationId) : t.reader i = s.reader i := by
  rw [h]; rfl

theorem bus {s t : State} (h : OnlyAccounts s t) : t.bus = s.bus := by rw [h]

theorem keepsAllBut {s t : State} (h : OnlyAccounts s t) : KeepsAllBut [.accounts, .tokens] s t := by
  intro p hp
  rw [h]
  cases p <;> first | rfl | exact fun _ => rfl | exact absurd (by decide) hp

end OnlyAccounts

theorem onlyAccounts_removeAccount (s : State) (n : Nat) : OnlyAccounts s (s.removeAccount n) := by
  unfold State.removeAccount State.leavePayer
  (repeat' split) <;> exact rfl

theorem onlyAccounts_settleMoney (s : State) (j : Job) : OnlyAccounts s (s.settleMoney j) := by
  unfold State.settleMoney
  dsimp only
  split <;> exact rfl

theorem onlyAccounts_settlePeriod (s : State) (j : Job) : OnlyAccounts s (s.settlePeriod j) := by
  unfold State.settlePeriod
  dsimp only
  split <;> exact rfl

theorem onlyAccounts_closeAccount (s : State) (c n : Nat) : OnlyAccounts s (s.closeAccount c n) := by
  unfold State.closeAccount
  (repeat' split) <;> first | exact rfl | exact onlyAccounts_removeAccount _ _

/-- The three ways an account of a settled job ends: SETTLED, removed, or as it was (R26, R76). -/
theorem closeAccount_cases {s : State} {c n : Nat} {a : Account} (h : s.account n = some a) :
    (a.kind = .transient ∧ s.closeAccount c n = s.settleTransient n a c) ∨
      (a.kind ≠ .transient ∧ a.state = .closing ∧ a.openJobs = 0 ∧ s.closeAccount c n = s.removeAccount n) ∨
      (a.kind ≠ .transient ∧ ¬(a.state = .closing ∧ a.openJobs = 0) ∧ s.closeAccount c n = s) := by
  unfold State.closeAccount
  rw [h]
  simp only
  split_ifs <;> simp_all

/-! ### Holds and the cover test (R59 to R63) -/

/-- A raised hold at the stations: on the job of station `i` and nowhere else (R61). -/
theorem station_raiseHold (s : State) (i k : StationId) (j : Job) (c : Nat) :
    (s.raiseHold i j c).station k =
      if k = i then { s.station i with job := (s.station i).job.map fun q => { q with hold := q.hold + c } }
      else s.station k := by
  unfold State.raiseHold
  dsimp only
  split <;> (show (s.modifyJob i _).station k = _; unfold State.modifyJob; rw [State.station_modifyStation])

theorem reader_raiseHold (s : State) (i k : StationId) (j : Job) (c : Nat) :
    (s.raiseHold i j c).reader k = s.reader k := by
  unfold State.raiseHold
  dsimp only
  split <;> rfl

theorem keepsAllBut_raiseHold (s : State) (i : StationId) (j : Job) (c : Nat) :
    KeepsAllBut [.accounts, .stations] s (s.raiseHold i j c) := by
  unfold State.raiseHold
  dsimp only
  split <;> (intro p hp; cases p <;> first | rfl | exact fun _ => rfl | exact absurd (by decide) hp)

/-- A raised hold in the table: on the held of the billing account, and on the member held of another
user account (R61, R63). -/
theorem account_raiseHold (s : State) (i : StationId) (j : Job) (c m : Nat) :
    (s.raiseHold i j c).account m =
      (s.account m).map fun a =>
        if m = j.billing then { a with held := a.held + c }
        else if m = j.user then { a with memberHeld := a.memberHeld + c } else a := by
  unfold State.raiseHold
  dsimp only
  split
  · rename_i h
    rw [State.account_modifyAccount _ _ _ _ (by intro a; rfl)]
    by_cases hm : m = j.billing
    · subst hm; simp; rfl
    · have : m ≠ j.user := by rw [h]; exact hm
      simp [hm, this]; rfl
  · rename_i h
    rw [State.account_modifyAccount _ _ _ _ (by intro a; rfl),
      State.account_modifyAccount _ _ _ _ (by intro a; rfl)]
    by_cases hm : m = j.billing
    · subst hm; simp [Ne.symm h]; rfl
    · by_cases hm2 : m = j.user
      · subst hm2; simp [hm]; rfl
      · simp [hm, hm2]; rfl

/-- Everything a cover test can do: fail and change nothing, pass and change nothing, or pass with the
hold raised by the grant (R59 to R61). -/
theorem coverTest_cases (s : State) (i : StationId) :
    s.coverTest i = (s, false) ∨ s.coverTest i = (s, true) ∨
      ∃ j, (s.station i).job = some j ∧ s.coverTest i = (s.raiseHold i j (s.grantFor j), true) := by
  unfold State.coverTest
  split
  · simp
  · rename_i j hj
    split_ifs <;> simp [hj]

/-- A failed cover test changes nothing (R61). -/
theorem coverTest_failed {s : State} {i : StationId} (h : (s.coverTest i).2 = false) :
    (s.coverTest i).1 = s := by
  rcases coverTest_cases s i with e | e | ⟨j, _, e⟩ <;> rw [e] at h ⊢
  all_goals simp at h

/-- A cover test touches accounts and stations. -/
theorem keepsAllBut_coverTest (s : State) (i : StationId) :
    KeepsAllBut [.accounts, .stations] s (s.coverTest i).1 := by
  rcases coverTest_cases s i with e | e | ⟨j, _, e⟩ <;> rw [e]
  · exact keepsAllBut_refl _ _
  · exact keepsAllBut_refl _ _
  · exact keepsAllBut_raiseHold _ _ _ _

theorem reader_coverTest (s : State) (i k : StationId) : (s.coverTest i).1.reader k = s.reader k := by
  rcases coverTest_cases s i with e | e | ⟨j, _, e⟩ <;> rw [e]
  exact reader_raiseHold _ _ _ _ _

theorem station_coverTest_other (s : State) {i k : StationId} (h : k ≠ i) :
    (s.coverTest i).1.station k = s.station k := by
  rcases coverTest_cases s i with e | e | ⟨j, _, e⟩ <;> rw [e]
  rw [station_raiseHold, if_neg h]

/-- The tested station differs by the hold of its job and by nothing else. -/
theorem station_coverTest (s : State) (i : StationId) :
    ∃ c, (s.coverTest i).1.station i =
      { s.station i with job := (s.station i).job.map fun q => { q with hold := q.hold + c } } := by
  have h0 : s.station i =
      { s.station i with job := (s.station i).job.map fun q => { q with hold := q.hold + 0 } } := by
    cases hh : (s.station i).job <;> simp [← hh]
  rcases coverTest_cases s i with e | e | ⟨j, _, e⟩ <;> rw [e]
  · exact ⟨0, h0⟩
  · exact ⟨0, h0⟩
  · exact ⟨_, by rw [station_raiseHold, if_pos rfl]⟩

/-! ### The retry of held stations (R65) -/

/-- A station that is not HELD for this account has no turn. -/
theorem retryAt_skips {n : Nat} {s : State} {i : StationId}
    (h : ¬((s.station i).state = .held ∧ (s.station i).job.map Job.billing = some n)) :
    State.retryAt n s i = s := by
  unfold State.retryAt; rw [if_neg h]

theorem keepsAllBut_retryAt (n : Nat) (s : State) (i : StationId) :
    KeepsAllBut [.accounts, .stations, .readers] s (State.retryAt n s i) := by
  have hc := keepsAllBut_mono (keepsAllBut_coverTest s i) (qs := [.accounts, .stations, .readers]) (by decide)
  unfold State.retryAt
  split_ifs
  · refine keepsAllBut_trans hc ?_
    unfold State.enterRunning State.placeCharge
    intro p hp; cases p <;> first | rfl | exact fun _ => rfl | exact absurd (by decide) hp
  · exact hc
  · exact keepsAllBut_refl _ _

/-- One station's turn leaves every other station and reader. -/
theorem retryAt_other (n : Nat) (s : State) {i k : StationId} (h : k ≠ i) :
    (State.retryAt n s i).station k = s.station k ∧ (State.retryAt n s i).reader k = s.reader k := by
  unfold State.retryAt
  split_ifs
  · constructor
    · show ((s.coverTest i).1.enter i .running).station k = _
      unfold State.enter
      rw [State.station_modifyStation, if_neg h]
      exact station_coverTest_other s h
    · show (State.placeDisplay _ i _).reader k = _
      unfold State.placeDisplay
      rw [State.reader_modifyReader, if_neg h]
      exact reader_coverTest s i k
  · exact ⟨station_coverTest_other s h, reader_coverTest s i k⟩
  · exact ⟨rfl, rfl⟩

theorem keepsAllBut_retries (n : Nat) (l : List StationId) (s : State) :
    KeepsAllBut [.accounts, .stations, .readers] s (l.foldl (State.retryAt n) s) := by
  induction l generalizing s with
  | nil => exact keepsAllBut_refl _ _
  | cons i l ih => exact keepsAllBut_trans (keepsAllBut_retryAt n s i) (ih _)

/-- A retry touches accounts, stations and readers. -/
theorem keepsAllBut_retry (n : Nat) (s : State) :
    KeepsAllBut [.accounts, .stations, .readers] s (s.retry n) :=
  keepsAllBut_retries n allStations s

theorem retries_other (n : Nat) (l : List StationId) (s : State) {k : StationId} (h : k ∉ l) :
    (l.foldl (State.retryAt n) s).station k = s.station k ∧
      (l.foldl (State.retryAt n) s).reader k = s.reader k := by
  induction l generalizing s with
  | nil => exact ⟨rfl, rfl⟩
  | cons i l ih =>
    simp only [List.mem_cons, not_or] at h
    have g := ih (State.retryAt n s i) h.2
    exact ⟨g.1.trans (retryAt_other n s h.1).1, g.2.trans (retryAt_other n s h.1).2⟩

/-- Station `i` stands once in the order of a retry, after the stations below it. -/
theorem allStations_split (i : StationId) : ∃ rest,
    allStations = allStations.take i.val ++ i :: rest ∧ i ∉ allStations.take i.val ∧ i ∉ rest := by
  refine ⟨allStations.drop (i.val + 1), ?_⟩
  fin_cases i <;> decide

/-- After a retry, station and reader `i` are as its own turn left them, which began with both as they
were, after the turns of the stations below it (R65). -/
theorem retry_at (n : Nat) (s : State) (i : StationId) :
    ∃ m : State, m = (allStations.take i.val).foldl (State.retryAt n) s ∧
      (s.retry n).station i = (State.retryAt n m i).station i ∧
      (s.retry n).reader i = (State.retryAt n m i).reader i ∧
      m.station i = s.station i ∧ m.reader i = s.reader i := by
  obtain ⟨rest, h, h1, h2⟩ := allStations_split i
  have e : s.retry n = rest.foldl (State.retryAt n)
      (State.retryAt n ((allStations.take i.val).foldl (State.retryAt n) s) i) := by
    unfold State.retry
    conv_lhs => rw [h, List.foldl_append]
    rfl
  rw [e]
  exact ⟨_, rfl, (retries_other n rest _ h2).1, (retries_other n rest _ h2).2, retries_other n _ s h1⟩

/-- A retry leaves every station that is not HELD for the account (R65). -/
theorem retry_skips {n : Nat} {s : State} {i : StationId}
    (h : ¬((s.station i).state = .held ∧ (s.station i).job.map Job.billing = some n)) :
    (s.retry n).station i = s.station i ∧ (s.retry n).reader i = s.reader i := by
  obtain ⟨m, _, h1, h2, h3, h4⟩ := retry_at n s i
  rw [retryAt_skips (by rw [h3]; exact h)] at h1 h2
  exact ⟨h1.trans h3, h2.trans h4⟩

/-! ### Pricing and billing a sheet (R41, R42, R46, R52, R63) -/

/-- A forced hold at its station: nothing when the headroom covers the amount, otherwise hold, overruns
and the OVERRUN alarm (R63). -/
theorem station_forceHold (s : State) (i : StationId) (j : Job) (x : Nat)
    (h : (s.station i).job = some j) :
    (s.forceHold i j x).station i =
      { s.station i with
        alarms :=
          { (s.station i).alarms with overrun := (s.station i).alarms.overrun || decide (j.headroom < x) }
        job := some { j with
          hold := j.hold + (if j.headroom < x then j.overrunCents x else 0)
          overruns := if j.headroom < x then min (j.overruns + 1) 65535 else j.overruns } } := by
  unfold State.forceHold
  split_ifs with hc
  · unfold State.modifyAlarms
    rw [State.station_modifyStation_self, State.station_modifyJob_self, station_raiseHold, if_pos rfl, h]
    simp [hc]
    rfl
  · simp [hc, ← h]

theorem account_forceHold (s : State) (i : StationId) (j : Job) (x m : Nat) :
    (s.forceHold i j x).account m =
      (if j.headroom < x then s.raiseHold i j (j.overrunCents x) else s).account m := by
  unfold State.forceHold
  split_ifs <;> rfl

theorem forceHold_frame (s : State) (i : StationId) (j : Job) (x : Nat) :
    KeepsAllBut [.accounts, .stations] s (s.forceHold i j x) ∧
      KeepsOtherStations i s (s.forceHold i j x) := by
  unfold State.forceHold
  split_ifs with hc
  · refine ⟨keepsAllBut_trans (keepsAllBut_raiseHold s i j (j.overrunCents x)) ?_, fun k hk => ?_⟩
    · intro p hp; cases p <;> first | rfl | exact fun _ => rfl | exact absurd (by decide) hp
    · show Station.undriven (State.station (State.modifyStation (State.modifyStation _ i _) i _) k) = _
      rw [State.station_modifyStation, if_neg hk, State.station_modifyStation, if_neg hk,
        station_raiseHold, if_neg hk]
  · exact ⟨keepsAllBut_refl _ _, keepsOtherStations_refl _ _⟩

/-- A priced sheet touches accounts and its own station. -/
theorem priceSheet_frame (s : State) (i : StationId) (j : Job) (c : SheetClass) :
    KeepsAllBut [.accounts, .stations] s (s.priceSheet i j c) ∧
      KeepsOtherStations i s (s.priceSheet i j c) := by
  obtain ⟨h1, h2⟩ := forceHold_frame s i j (s.pricedSheet j c).amount
  unfold State.priceSheet
  refine ⟨keepsAllBut_trans h1 ?_, keepsOtherStations_trans h2 (keepsOtherStations_modifyStation _ i _)⟩
  intro p hp; cases p <;> first | rfl | exact fun _ => rfl | exact absurd (by decide) hp

/-- The table after a priced sheet: a forced hold first, then the ordinals from the billing meter. -/
theorem account_priceSheet (s : State) (i : StationId) (j : Job) (c : SheetClass) (m : Nat) :
    (s.priceSheet i j c).account m =
      ((s.forceHold i j (s.pricedSheet j c).amount).account m).map fun a =>
        if m = j.billing then a.withMeter (a.meterFigure.advanceBy (s.pricedSheet j c).impressions)
        else a := by
  show (State.modifyAccount _ _ _).account m = _
  rw [State.account_modifyAccount _ _ _ _ (by intro a; rfl)]
  split <;> simp

/-- Only the accounts of the job differ after a priced sheet. -/
theorem keepsOtherAccounts_priceSheet (s : State) (i : StationId) (j : Job) (c : SheetClass) :
    KeepsOtherAccounts [j.user, j.billing] s (s.priceSheet i j c) := by
  intro m hm
  simp only [List.mem_cons, List.not_mem_nil, or_false, not_or] at hm
  rw [account_priceSheet, account_forceHold]
  simp only [hm.2, if_false, Option.map_id']
  split_ifs
  · rw [account_raiseHold]; simp [hm]
  · rfl

/-- The meter after a priced sheet: it takes one step for each impression and stays, flagged, at its top
(R42, R47). -/
theorem withMeter_advanceBy (a : Account) (c : SheetClass)
    (hm : a.meterSaturated = false → a.meter < 16777215)
    (ht : a.meterSaturated = true → a.meter = 16777215) :
    a.withMeter (a.meterFigure.advanceBy c.impressions) =
      { a with
        meter := min (a.meter + c.impressions) 16777215
        meterSaturated := a.meterSaturated || decide (16777215 ≤ a.meter + c.impressions) } := by
  obtain ⟨l, k, d⟩ := c
  cases h : a.meterSaturated
  · have := hm h
    cases d <;>
      simp [Account.withMeter, SheetClass.impressions, MeterFigure.advanceBy, MeterFigure.advance,
        Account.meterFigure, h, Config.meterTop]
    split <;> simp <;> omega
  · cases d <;>
      simp [Account.withMeter, SheetClass.impressions, MeterFigure.advanceBy, MeterFigure.advance,
        Account.meterFigure, h, Config.meterTop, ht h]

/-- The station after a priced sheet. -/
theorem station_priceSheet (s : State) (i : StationId) (j : Job) (c : SheetClass)
    (h : (s.station i).job = some j) :
    (s.priceSheet i j c).station i =
      { s.station i with
        alarms :=
          { (s.station i).alarms with
            overrun := (s.station i).alarms.overrun || decide (j.headroom < (s.pricedSheet j c).amount) }
        job := some { j with
          hold := j.hold + (if j.headroom < (s.pricedSheet j c).amount
            then j.overrunCents (s.pricedSheet j c).amount else 0)
          overruns := if j.headroom < (s.pricedSheet j c).amount then min (j.overruns + 1) 65535
            else j.overruns
          accrued := j.accrued + (s.pricedSheet j c).amount
          nextSeq := nextSequence j.nextSeq
          pricedSheets := min (j.pricedSheets + 1) 4294967295 } } := by
  unfold State.priceSheet
  rw [State.station_modifyJob_self]
  show ({ (s.forceHold i j (s.pricedSheet j c).amount).station i with
    job := ((s.forceHold i j (s.pricedSheet j c).amount).station i).job.map _ } : Station) = _
  rw [station_forceHold _ _ _ _ h]
  rfl

/-- A sheet counted as billed: everything it does (R52, R108, R120, R126). -/
theorem billSheet_facts (s : State) (i : StationId) (x : Sheet) (j : Job)
    (hj : (s.station i).job = some j) :
    KeepsAllBut [.stations, .readers] s (s.billSheet i x) ∧ KeepsOtherStations i s (s.billSheet i x) ∧
      KeepsOtherReaders i s (s.billSheet i x) ∧
      (s.billSheet i x).station i =
        { s.station i with
          job := some { j with
            billed := j.billed.set x.cls.index (min (j.billed[x.cls.index] + 1) 4294967295)
            billedImpressions := min (j.billedImpressions + x.impressions) 4294967295 } } ∧
      ShownOn i (.charge (toCents j.accrued)) s (s.billSheet i x) := by
  unfold State.billSheet State.placeCharge
  refine ⟨?_, ?_, ?_, ?_, ?_⟩
  · intro p hp; cases p <;> first | rfl | exact fun _ => rfl | exact absurd (by decide) hp
  · intro k hk
    rw [State.station_placeDisplay]
    exact keepsOtherStations_modifyStation s i _ k hk
  · intro k hk
    exact keepsOtherReaders_placeDisplay _ i _ k hk
  · rw [State.station_placeDisplay, State.station_modifyJob_self, hj]
    rfl
  · refine shownOn_placeDisplay ?_ rfl rfl
    rw [State.station_modifyJob_self, hj]
    rfl

/-! ### Voids (R48, R52) -/

/-- A void at a station with a job. -/
theorem voidSheet_eq {i : StationId} {s : State} {x : Sheet} {j : Job} (hj : (s.station i).job = some j) :
    State.voidSheet i s x =
      (s.modifyAccount j.billing fun a => a.withMeter (a.meterFigure.withdraw x.impressions)).modifyJob i
        fun k =>
          { k with
            accrued := k.accrued - x.amount
            voidedSheets := satAdd Config.sheetCountTop k.voidedSheets 1
            voidedImpressions := satAdd Config.sheetCountTop k.voidedImpressions x.impressions } := by
  unfold State.voidSheet
  rw [hj]

/-- The meter of a record after a void (R48). -/
theorem withMeter_withdraw (a : Account) (n : Nat) :
    a.withMeter (a.meterFigure.withdraw n) =
      if a.meterSaturated then a else { a with meter := a.meter - n } := by
  unfold Account.withMeter MeterFigure.withdraw Account.meterFigure
  cases h : a.meterSaturated
  · simp only [Bool.false_eq_true, if_false]
  · simp only [if_true]
    rw [← h]

/-- The accounts after one void: the meter of the billing account withdrawn (R48). -/
theorem account_voidSheet {i : StationId} {s : State} {x : Sheet} {j : Job} (hj : (s.station i).job = some j)
    (m : Nat) :
    (State.voidSheet i s x).account m =
      if m = j.billing then (s.account m).map fun a =>
        if a.meterSaturated then a else { a with meter := a.meter - x.impressions }
      else s.account m := by
  rw [voidSheet_eq hj]
  refine (State.account_modifyAccount s j.billing m
    (fun a => a.withMeter (a.meterFigure.withdraw x.impressions)) fun _ => rfl).trans ?_
  simp only [withMeter_withdraw]

/-- What a run of voids does to the accounts: the impressions of all its sheets leave the meter of the
billing account unless that is saturated, and no other account changes (R48). -/
theorem account_voidSheets (i : StationId) (xs : List Sheet) (s : State) (j : Job)
    (hj : (s.station i).job = some j) (m : Nat) :
    (xs.foldl (State.voidSheet i) s).account m =
      if m = j.billing then (s.account m).map fun a =>
        if a.meterSaturated then a else { a with meter := a.meter - (xs.map Sheet.impressions).sum }
      else s.account m := by
  induction xs generalizing s j with
  | nil =>
    rw [List.foldl_nil]
    split
    · cases s.account m <;> simp
    · rfl
  | cons x xs ih =>
    have hk : ((State.voidSheet i s x).station i).job = some
        { j with
          accrued := j.accrued - x.amount
          voidedSheets := satAdd Config.sheetCountTop j.voidedSheets 1
          voidedImpressions := satAdd Config.sheetCountTop j.voidedImpressions x.impressions } := by
      rw [voidSheet_eq hj, State.station_modifyJob_self]
      show ((s.station i).job.map _) = _
      rw [hj]
      rfl
    rw [List.foldl_cons, ih _ _ hk, account_voidSheet hj]
    split
    · cases s.account m with
      | none => rfl
      | some a =>
        cases h : a.meterSaturated <;> simp [h, Nat.sub_sub]
    · rfl

/-- Everything a run of voids at station `i` can do to the rest: the accrued amount less each sheet's, the
counts raised, and nothing else (its accounts: `account_voidSheets`). -/
theorem voidSheets_facts (i : StationId) (xs : List Sheet) (s : State) (j : Job)
    (hj : (s.station i).job = some j) :
    ∃ v w,
      (xs.foldl (State.voidSheet i) s).station i =
        { s.station i with
          job := some { j with
            accrued := xs.foldl (fun acc x => acc - x.amount) j.accrued
            voidedSheets := v, voidedImpressions := w } } ∧
      (j.voidedSheets + xs.length ≤ 4294967295 → v = j.voidedSheets + xs.length) ∧
      (j.voidedImpressions + (xs.map Sheet.impressions).sum ≤ 4294967295 →
        w = j.voidedImpressions + (xs.map Sheet.impressions).sum) ∧
      KeepsAllBut [.accounts, .stations] s (xs.foldl (State.voidSheet i) s) ∧
      KeepsOtherStations i s (xs.foldl (State.voidSheet i) s) := by
  induction xs generalizing s j with
  | nil =>
    exact ⟨j.voidedSheets, j.voidedImpressions, by simp [← hj], by simp, by simp, keepsAllBut_refl _ _,
      keepsOtherStations_refl _ _⟩
  | cons x xs ih =>
    have e := voidSheet_eq (x := x) hj
    have hs : (State.voidSheet i s x).station i =
        { s.station i with
          job := some { j with
            accrued := j.accrued - x.amount
            voidedSheets := min (j.voidedSheets + 1) 4294967295
            voidedImpressions := min (j.voidedImpressions + x.impressions) 4294967295 } } := by
      rw [e, State.station_modifyJob_self]
      show ({ s.station i with job := (s.station i).job.map _ } : Station) = _
      rw [hj]
      rfl
    obtain ⟨v, w, h1, h2, hw, h3, h4⟩ := ih (State.voidSheet i s x) _ (by rw [hs])
    refine ⟨v, w, ?_, ?_, ?_, keepsAllBut_trans ?_ h3, keepsOtherStations_trans ?_ h4⟩
    · rw [List.foldl_cons, h1, hs]; rfl
    · intro hl
      simp only [List.length_cons] at hl
      have := h2
      simp only at this
      rw [this (by omega)]
      simp only [List.length_cons]
      omega
    · intro hl
      simp only [List.map_cons, List.sum_cons] at hl ⊢
      simp only at hw
      rw [hw (by omega)]
      omega
    · rw [e]
      intro p hp; cases p <;> first | rfl | exact fun _ => rfl | exact absurd (by decide) hp
    · rw [e]; exact keepsOtherStations_modifyStation _ i _

/-! ### Settlement (R73 to R77) -/

theorem settle_eq {s : State} {i : StationId} {dest : StationState} {j : Job}
    (h : (s.station i).job = some j) :
    s.settle i dest = (s.settleJob i dest j).retryIfPresent j.billing := by
  simp only [State.settle, h]

/-- A settlement up to its retry: the station, the display and the frame (R74 to R76). -/
theorem settleJob_facts (s : State) (i : StationId) (dest : StationState) (j : Job) :
    KeepsAllBut [.accounts, .tokens, .stations, .readers] s (s.settleJob i dest j) ∧
      KeepsOtherStations i s (s.settleJob i dest j) ∧ KeepsOtherReaders i s (s.settleJob i dest j) ∧
      ShownOn i (.goodbye (settlementCharge j).1) s (s.settleJob i dest j) ∧
      (s.settleJob i dest j).station i =
        { s.station i with
          state := dest, sessionToken := none, job := none
          lastJob := some (j.lastRecord
            (((((s.settleMoney j).settlePeriod j).account j.billing).map Account.balance).getD 0)) } := by
  unfold State.settleJob
  extract_lets charge s1 ba s2 s3 s4 s5
  have h1 : OnlyAccounts s s1 := (onlyAccounts_settleMoney s j).trans (onlyAccounts_settlePeriod _ j)
  have h3 : OnlyAccounts s2 s4 := by
    by_cases h : j.user = j.billing
    · simp only [s4, h, if_true]; exact onlyAccounts_closeAccount _ _ _
    · simp only [s4, h, if_false]
      exact (onlyAccounts_closeAccount _ _ _).trans (onlyAccounts_closeAccount _ _ _)
  refine ⟨?_, ?_, ?_, ?_, ?_⟩
  · refine keepsAllBut_trans (keepsAllBut_mono h1.keepsAllBut (by decide))
      (keepsAllBut_trans (t := s2) ?_ (keepsAllBut_trans (keepsAllBut_mono h3.keepsAllBut (by decide)) ?_)) <;>
    (intro p hp; cases p <;> first | rfl | exact fun _ => rfl | exact absurd (by decide) hp)
  · intro k hk
    rw [State.station_modifyStation, if_neg hk]
    show Station.undriven (s4.station k) = _
    rw [h3.station]
    show Station.undriven (State.station (s1.modifyStation _ _) k) = _
    rw [State.station_modifyStation, if_neg hk, h1.station]
  · intro k hk
    show (s4.placeDisplay i _).reader k = _
    rw [keepsOtherReaders_placeDisplay _ _ _ k hk, h3.reader]
    exact h1.reader k
  · refine shownOn_congr (t := s4.placeDisplay i _) (shownOn_placeDisplay rfl ?_ ?_) rfl
    · rw [h3.reader]; exact h1.reader i
    · rw [h3.bus]; exact h1.bus
  · rw [State.station_modifyStation_self]
    have e : s5.station i = { s.station i with job := none, lastJob := some (j.lastRecord ba) } := by
      show s4.station i = _
      rw [h3.station, State.station_modifyStation_self, h1.station]
    rw [e]

/-- A whole settlement: the station itself is out of the retry of R77 unless it settles into HELD, which
no rule asks for. -/
theorem settle_facts (s : State) (i : StationId) (dest : StationState) (j : Job)
    (hj : (s.station i).job = some j) (hd : dest ≠ .held) :
    KeepsAllBut [.accounts, .tokens, .stations, .readers] s (s.settle i dest) ∧
      ShownOn i (.goodbye (settlementCharge j).1) s (s.settle i dest) ∧
      ∃ balanceAfter, (s.settle i dest).station i =
        { s.station i with
          state := dest, sessionToken := none, job := none, lastJob := some (j.lastRecord balanceAfter) } := by
  rw [settle_eq hj]
  obtain ⟨f1, _, _, f4, f5⟩ := settleJob_facts s i dest j
  generalize s.settleJob i dest j = m at *
  have hn : ¬((m.station i).state = .held ∧ (m.station i).job.map Job.billing = some j.billing) := by
    rw [f5]; simp [hd]
  unfold State.retryIfPresent
  split_ifs
  · obtain ⟨e1, e2⟩ := retry_skips hn
    exact ⟨keepsAllBut_trans f1 (keepsAllBut_mono (keepsAllBut_retry _ m) (by decide)),
      shownOn_congr f4 e2, _, e1.trans f5⟩
  · exact ⟨f1, f4, _, f5⟩

/-! ### The end of a job (R68 to R70) -/

/-- Entry to CLOSING, up to the choice between settling and draining. -/
def State.closed (s : State) (i : StationId) (c : EndCause) : State :=
  ((s.recordEnd i c).enter i .closing).modifyJob i fun j => { j with idleTimer := none }

/-- The station as it enters CLOSING: the first cause kept, the idle timer stopped (R68, R70). -/
theorem station_closed (s : State) (i : StationId) (c : EndCause) (j : Job)
    (hj : (s.station i).job = some j) :
    (s.closed i c).station i =
      { s.station i with
        state := .closing
        job := some { j with endRequest := some (j.endRequest.getD c), idleTimer := none } } := by
  unfold State.closed State.recordEnd
  rw [State.station_modifyJob_self, State.station_enter_self, State.station_modifyJob_self, hj]
  rfl

theorem closed_frame (s : State) (i : StationId) (c : EndCause) :
    KeepsAllBut [.stations] s (s.closed i c) ∧ KeepsOtherStations i s (s.closed i c) := by
  unfold State.closed State.recordEnd
  refine ⟨?_, keepsOtherStations_trans (keepsOtherStations_modifyStation _ i _)
    (keepsOtherStations_trans (keepsOtherStations_modifyStation _ i _)
      (keepsOtherStations_modifyStation _ i _))⟩
  intro p hp; cases p <;> first | rfl | exact fun _ => rfl | exact absurd (by decide) hp

/-- An end request in RUNNING or HELD: settled at once on an empty path, otherwise draining (R69, R70). -/
theorem requestEnd_eq {s : State} {i : StationId} (c : EndCause)
    (h : (s.station i).state = .running ∨ (s.station i).state = .held) :
    s.requestEnd i c =
      if ((s.closed i c).station i).path.isEmpty then (s.closed i c).settle i .idle
      else (s.closed i c).modifyStation i fun st => { st with drainTimer := some s.globals.drainSteps } := by
  unfold State.requestEnd
  rcases h with h | h <;> simp only [h] <;> rfl

/-- Everything a station's turn in a BLOCK can do (R23, R68 to R70): nothing, a cause recorded, or the entry
to CLOSING, which settles on an empty path and drains otherwise. -/
theorem blockAt_cases (n : Nat) (s : State) (i : StationId) :
    (((s.station i).job.any fun j => j.concerns n) = false ∧ State.blockAt n s i = s) ∨
    (((s.station i).job.any fun j => j.concerns n) = true ∧
      (((s.station i).state ≠ .running ∧ (s.station i).state ≠ .held ∧
          State.blockAt n s i = s.recordEnd i .accountBlocked) ∨
        (((s.station i).state = .running ∨ (s.station i).state = .held) ∧
          State.blockAt n s i =
            if ((s.closed i .accountBlocked).station i).path.isEmpty then
              (s.closed i .accountBlocked).settle i .idle
            else (s.closed i .accountBlocked).modifyStation i fun st =>
              { st with drainTimer := some s.globals.drainSteps }))) := by
  unfold State.blockAt
  cases h : (s.station i).job.any fun j => j.concerns n
  · exact .inl ⟨rfl, if_neg (by simp)⟩
  · refine .inr ⟨rfl, ?_⟩
    rw [if_pos rfl]
    by_cases hs : (s.station i).state = .running ∨ (s.station i).state = .held
    · exact .inr ⟨hs, requestEnd_eq _ hs⟩
    · refine .inl ⟨fun e => hs (.inl e), fun e => hs (.inr e), ?_⟩
      unfold State.requestEnd
      split <;> simp_all

/-! ### The retries owed (R66, R184) -/

/-- The retries owed touch accounts, stations and readers, and leave none owed. -/
theorem makeOwedRetries_facts (s : State) :
    KeepsAllBut [.link, .accounts, .stations, .readers, .retries] s s.makeOwedRetries ∧
      s.makeOwedRetries.retryOwed = [] ∧ PinsLaw s.makeOwedRetries := by
  have h : ∀ (l : List Nat) (u : State), KeepsAllBut [.accounts, .stations, .readers] u (l.foldl State.retry u) := by
    intro l
    induction l with
    | nil => exact fun u => keepsAllBut_refl _ _
    | cons n l ih =>
      intro u
      rw [List.foldl_cons]
      have g := keepsAllBut_retry n u
      generalize u.retry n = v at g ⊢
      exact keepsAllBut_trans g (ih v)
  have g := h s.retryOwed s
  unfold State.makeOwedRetries
  generalize s.retryOwed.foldl State.retry s = u at g ⊢
  refine ⟨fun p hp => agrees_drive ?_, rfl, drive_pinsLaw _⟩
  have hq : p ∉ ([.accounts, .stations, .readers] : List Part) := by
    intro hm
    exact hp (by simp only [List.mem_cons, List.not_mem_nil, or_false] at hm ⊢; tauto)
  have a := g p hq
  cases p <;> first | exact a | exact absurd (by decide) hp

/-- With no retry owed, a reading command looks at the state as it is, its pins driven. -/
theorem makeOwedRetries_of_none {s : State} (h : s.retryOwed = []) : s.makeOwedRetries = s.drive := by
  unfold State.makeOwedRetries
  rw [h]
  show ({ s with retryOwed := [] } : State).drive = _
  rw [← h]

/-! ### Masks (R198) -/

theorem maskOf_lt (bits : List Bool) : maskOf bits < 2 ^ bits.length := by
  induction bits with
  | nil => simp [maskOf]
  | cons b bits ih => cases b <;> simp [maskOf, pow_succ] at * <;> omega

/-- A mask is the sum of the powers of two of the bits set. -/
theorem maskOf_eq_sum (bits : List Bool) :
    maskOf bits = (bits.zipIdx.map fun b => if b.1 then 2 ^ b.2 else 0).sum := by
  have h : ∀ (l : List Bool) (o : Nat),
      ((l.zipIdx o).map fun b => if b.1 then 2 ^ b.2 else 0).sum = 2 ^ o * maskOf l := by
    intro l
    induction l with
    | nil => simp [maskOf]
    | cons b l ih =>
      intro o
      simp only [List.zipIdx_cons, List.map_cons, List.sum_cons, ih]
      cases b <;> simp [maskOf, pow_succ] <;> ring
  have := h bits 0
  rw [pow_zero, one_mul] at this
  exact this.symm

/-- A mask in its bytes, where they carry all its bits (R198). -/
theorem count_maskOf (k : Nat) (bits : List Bool) (h : bits.length ≤ 8 * k) :
    count k (maskOf bits) = be k (bits.zipIdx.map fun b => if b.1 then 2 ^ b.2 else 0).sum := by
  have hl := maskOf_lt bits
  have hp : 2 ^ bits.length ≤ 2 ^ (8 * k) := Nat.pow_le_pow_right (by decide) h
  rw [pow_mul] at hp
  norm_num at hp
  rw [← maskOf_eq_sum]
  unfold count
  rw [min_eq_left (by omega)]

/-! ### Jams and walk-ups (R119, R123, R173) -/

/-- Everything an entry to JAMMED does (R119, R123, R129). -/
theorem jamEntry_facts (s : State) (i : StationId) (c : JamCause) (j : Job)
    (hj : (s.station i).job = some j) :
    KeepsAllBut [.stations, .readers] s (s.jamEntry i c) ∧ KeepsOtherStations i s (s.jamEntry i c) ∧
      KeepsOtherReaders i s (s.jamEntry i c) ∧
      (s.jamEntry i c).station i =
        { s.station i with
          state := .jammed, jamCause := some c, drainTimer := none, path := []
          disputed := (s.station i).disputed ++ (s.station i).path
          jamTimer := some (s.globals.jamTimeout * 600000)
          alarms := { (s.station i).alarms with jamEntered := true }
          job := some { j with idleTimer := none, jams := min (j.jams + 1) 65535 } } ∧
      ShownOn i (.jam ((s.station i).disputed ++ (s.station i).path).length) s (s.jamEntry i c) := by
  unfold State.jamEntry
  refine ⟨?_, ?_, ?_, ?_, ?_⟩
  · intro p hp; cases p <;> first | rfl | exact fun _ => rfl | exact absurd (by decide) hp
  · intro k hk
    rw [State.station_placeDisplay]
    exact keepsOtherStations_trans (keepsOtherStations_modifyStation s i _)
      (keepsOtherStations_modifyStation _ i _) k hk
  · intro k hk
    exact keepsOtherReaders_placeDisplay _ i _ k hk
  · rw [State.station_placeDisplay, State.station_modifyJob_self, State.station_modifyStation_self]
    simp [hj]
    exact ⟨rfl, rfl⟩
  · refine shownOn_placeDisplay ?_ rfl rfl
    rw [State.station_modifyJob_self, State.station_modifyStation_self]

/-- The cancelling of a walk-up is its ending with GOODBYE of 0 (R175). -/
theorem cancelWalkup_eq {s : State} {i : StationId} {a : Account} (ha : s.walkupOf i = some a) :
    s.cancelWalkup i = s.endWalkup a i (.goodbye 0) := by
  unfold State.cancelWalkup
  rw [ha]

/-- Everything the ending of a walk-up does (R173): its record removed, its station IDLE with this display;
and for a record of the table that has no payer, what it does to accounts, tokens and the WAITING list. -/
theorem endWalkup_facts (s : State) (a : Account) (i : StationId) (d : Display) :
    KeepsAllBut [.accounts, .tokens, .stations, .readers, .walkup] s (s.endWalkup a i d) ∧
      KeepsOtherStations i s (s.endWalkup a i d) ∧ KeepsOtherReaders i s (s.endWalkup a i d) ∧
      (s.endWalkup a i d).account a.number = none ∧
      (s.endWalkup a i d).station i = { s.station i with state := .idle, sessionToken := none } ∧
      ShownOn i d s (s.endWalkup a i d) ∧
      (s.account a.number = some a → a.payer = none → WalkupEnded s (s.endWalkup a i d) a i d) := by
  set w := s.setWalkupUnit { s.wau with waiting := s.wau.waiting.filter fun n => n != a.number } with hw
  have h := onlyAccounts_removeAccount w a.number
  have e : s.endWalkup a i d =
      ((w.removeAccount a.number).modifyStation i fun st =>
        { st with state := .idle, sessionToken := none }).placeDisplay i d := rfl
  have hst : ∀ k, (w.removeAccount a.number).station k = s.station k := h.station
  have hs : KeepsOtherStations i s (s.endWalkup a i d) := by
    intro k hk
    rw [e, State.station_placeDisplay, State.station_modifyStation, if_neg hk, hst]
  have hr : KeepsOtherReaders i s (s.endWalkup a i d) := by
    intro k hk
    rw [e, keepsOtherReaders_placeDisplay _ i _ k hk]
    exact h.reader k
  have hi : (s.endWalkup a i d).station i = { s.station i with state := .idle, sessionToken := none } := by
    rw [e, State.station_placeDisplay, State.station_modifyStation_self, hst]
  have hd : ShownOn i d s (s.endWalkup a i d) := shownOn_placeDisplay rfl (h.reader i) h.bus
  refine ⟨?_, hs, hr, account_removeAccount_self w a.number, hi, hd, fun ha hp => ?_⟩
  · rw [e]
    refine keepsAllBut_trans (t := w) ?_ (keepsAllBut_trans (keepsAllBut_mono h.keepsAllBut (by decide)) ?_) <;>
    (intro p hp; cases p <;> first | rfl | exact fun _ => rfl | exact absurd (by decide) hp)
  · have er : w.removeAccount a.number = (w.dropTokens a.tokens).dropAccount a.number := by
      have hwa : w.account a.number = some a := ha
      unfold State.removeAccount State.leavePayer
      rw [hwa]
      simp only [hp]
    refine ⟨account_removeAccount_self w a.number, fun m hm => ?_, ?_, ?_, hs, hr, ?_, hd⟩
    · show (w.removeAccount a.number).account m = _
      rw [er, account_dropAccount, if_neg (by simpa using hm)]
      rfl
    · show (w.removeAccount a.number).tokens = _
      rw [er]
      rfl
    · show (w.removeAccount a.number).wau = _
      rw [er]
      rfl
    · rw [hi]

/-! ### A completed feed and a completed exit (R71, R106, R121) -/

/-- The idle timer restarts in RUNNING and HELD, and nowhere else (R71). -/
theorem restartIdle_cases (s : State) (i : StationId) :
    (((s.station i).state = .running ∨ (s.station i).state = .held) ∧
      s.restartIdle i = s.modifyJob i fun j => { j with idleTimer := some s.globals.idleSteps }) ∨
    ((s.station i).state ≠ .running ∧ (s.station i).state ≠ .held ∧ s.restartIdle i = s) := by
  unfold State.restartIdle
  split <;> simp_all

/-- A priced sheet joins the path in TRACKED mode and is billed at once in every other (R108, R118). -/
theorem queueOrBill_cases (s : State) (i : StationId) (x : Sheet) :
    ((s.station i).config.countMode = .tracked ∧
      s.queueOrBill i x = s.modifyStation i fun st => { st with path := st.path ++ [x] }) ∨
    ((s.station i).config.countMode ≠ .tracked ∧ s.queueOrBill i x = s.billSheet i x) := by
  unfold State.queueOrBill
  split <;> simp_all

/-- A stray exit of a station with a job: a count and an alarm (R121). -/
theorem strayExitOfJob_facts (s : State) (i : StationId) (j : Job) (hj : (s.station i).job = some j) :
    KeepsAllBut [.stations] s (s.strayExitOfJob i) ∧ KeepsOtherStations i s (s.strayExitOfJob i) ∧
      (s.strayExitOfJob i).station i =
        { s.station i with
          job := some { j with strayExits := min (j.strayExits + 1) 65535 }
          alarms := { (s.station i).alarms with strayExit := true } } := by
  unfold State.strayExitOfJob State.modifyAlarms
  refine ⟨?_, keepsOtherStations_trans (keepsOtherStations_modifyStation s i _)
    (keepsOtherStations_modifyStation _ i _), ?_⟩
  · intro p hp; cases p <;> first | rfl | exact fun _ => rfl | exact absurd (by decide) hp
  · rw [State.station_modifyStation_self, State.station_modifyJob_self, hj]
    rfl

/-! ### Judging answers (R145 to R150) -/

/-- A fault found at the top, or reaching it and counted on: together, more than 255 in all. -/
theorem over_count (x n : Nat) :
    (decide (255 ≤ x) || decide (255 < min (x + 1) 255 + n)) = decide (255 < x + (n + 1)) := by
  by_cases h : 255 ≤ x <;> by_cases g : 255 < x + (n + 1) <;> simp [h, g] <;> omega

/-- Everything that counting faults does to a reader in service: each counter rises by its faults and stops
at 255, and COUNTER_SATURATED is set when one of them was counted beyond 255 (R149, R150). -/
theorem countFaults_eq (cs : List ErrorCounter) (hn : ErrorCounter.noAnswer ∉ cs) (r : Reader)
    (hl : r.link = .inService) (hr : r.inRange) :
    r.countFaults cs =
      { r with
        hdrCorrected := min (r.hdrCorrected + cs.count .hdrCorrected) 255
        hdrBad := min (r.hdrBad + cs.count .hdrBad) 255
        crcBad := min (r.crcBad + cs.count .crcBad) 255
        counterSaturated :=
          r.counterSaturated || decide (255 < r.hdrCorrected + cs.count .hdrCorrected) ||
            decide (255 < r.hdrBad + cs.count .hdrBad) || decide (255 < r.crcBad + cs.count .crcBad) } := by
  induction cs generalizing r with
  | nil =>
    obtain ⟨h1, h2, h3, h4, h5⟩ := hr
    simp [Reader.countFaults, h2, h3, h4]
    simp [show ¬255 < r.hdrCorrected by omega, show ¬255 < r.hdrBad by omega,
      show ¬255 < r.crcBad by omega]
  | cons c cs ih =>
    simp only [List.mem_cons, not_or] at hn
    obtain ⟨h1, h2, h3, h4, h5⟩ := hr
    have hs : r.countFaults (c :: cs) = (r.countOn c).countFaults cs := by
      simp [Reader.countFaults, Reader.countFault, hl]
    rw [hs]
    cases c with
    | noAnswer => exact absurd rfl hn.1
    | hdrCorrected =>
      rw [ih hn.2 (r.countOn .hdrCorrected) hl ⟨h1, by show min _ 255 ≤ 255; omega, h3, h4, h5⟩]
      simp only [List.count_cons_self, ← over_count, List.count_cons]
      simp [Reader.countOn, satAdd, Config.errorCounterTop, Bool.or_assoc]
      exact ⟨by omega, rfl⟩
    | hdrBad =>
      rw [ih hn.2 (r.countOn .hdrBad) hl ⟨h1, h2, by show min _ 255 ≤ 255; omega, h4, h5⟩]
      simp only [List.count_cons_self, ← over_count, List.count_cons]
      simp [Reader.countOn, satAdd, Config.errorCounterTop, Bool.or_assoc, Bool.or_left_comm]
      exact ⟨by omega, rfl⟩
    | crcBad =>
      rw [ih hn.2 (r.countOn .crcBad) hl ⟨h1, h2, h3, by show min _ 255 ≤ 255; omega, h5⟩]
      simp only [List.count_cons_self, ← over_count, List.count_cons]
      simp [Reader.countOn, satAdd, Config.errorCounterTop, Bool.or_assoc, Bool.or_left_comm]
      exact ⟨by omega, rfl⟩

/-- No judgement finds the NO_ANSWER fault (Table 7-4). -/
theorem noAnswer_not_mem_judgeAnswer (i : StationId) (strict : Bool) (frame : List Byte) :
    ErrorCounter.noAnswer ∉ (judgeAnswer i strict frame).faults := by
  have hf : ∀ f, ErrorCounter.noAnswer ∉ findingFaults f := by intro f; cases f <;> simp [findingFaults]
  unfold judgeAnswer
  dsimp only
  split
  · exact hf _
  · split
    · unfold contentCheck
      dsimp only
      split <;> split <;> simp [hf]
    · simp [hf]

/-- Under LOST the faults of a judgement are not counted (R149). -/
theorem countFaults_of_lost (cs : List ErrorCounter) (hn : ErrorCounter.noAnswer ∉ cs) (r : Reader)
    (hl : r.link = .lost) : r.countFaults cs = r := by
  induction cs with
  | nil => rfl
  | cons c cs ih =>
    simp only [List.mem_cons, not_or] at hn
    have hc : r.countFault c = r := by
      unfold Reader.countFault
      simp only [hl, reduceCtorEq, false_or]
      exact if_neg fun h => hn.1 h.symm
    show (r.countFault c).countFaults cs = r
    rw [hc]
    exact ih hn.2

/-- The header and check byte that a frame of at least three bytes begins with. -/
theorem header_of_frame (received : BitVec 16) (check : Byte) (rest : List Byte) :
    headerOf (padded (be 2 received.toNat ++ [check] ++ rest) 3) = received ∧
      BitVec.ofNat 8 (numberAt (padded (be 2 received.toNat ++ [check] ++ rest) 3) 2 1) = check := by
  have : padded (be 2 received.toNat ++ [check] ++ rest) 3 = be 2 received.toNat ++ [check] ++ rest := by
    simp [padded, be]
  rw [this]
  constructor
  · simp [headerOf, numberAt, slice, be, beNat]
    apply BitVec.eq_of_toNat_eq; simp
    have := received.isLt
    omega
  · simp [numberAt, slice, be, beNat]

/-- A slice that is exactly the middle part. -/
theorem slice_middle (a b c : List Byte) (m n : Nat) (ha : a.length = m) (hb : b.length = n) :
    slice (a ++ b ++ c) m n = b := by
  subst ha hb
  simp [slice]

/-- The judgement of a whole frame whose header check has this finding: the CRC stage over the header to
go on with and the payload, then the content check (R145, R146). -/
theorem judgeAnswer_of_finding (i : StationId) (strict : Bool) (received header : BitVec 16) (check : Byte)
    (f : Finding) (hh : headerCheck received check = (f, header)) (payload rest : List Byte)
    (crc : BitVec 16) (hl : payload.length = payloadLength f header)
    (hs : ¬(f = .uncorrectable ∧ strict)) :
    judgeAnswer i strict (be 2 received.toNat ++ [check] ++ payload ++ be 2 crc.toNat ++ rest) =
      if crc16 (be 2 header.toNat ++ payload) = crc then contentCheck i header payload (findingFaults f)
      else { good := false, faults := findingFaults f ++ [.crcBad], event := none } := by
  have two : ∀ n : Nat, (be 2 n).length = 2 := fun n => by simp [be]
  generalize hw : be 2 received.toNat ++ [check] ++ payload ++ be 2 crc.toNat ++ rest = frame
  have e : frame = be 2 received.toNat ++ [check] ++ (payload ++ be 2 crc.toNat ++ rest) := by
    rw [← hw]; simp
  have hb := header_of_frame received check (payload ++ be 2 crc.toNat ++ rest)
  rw [← e] at hb
  have hp : padded frame (5 + payload.length) = frame := by
    have : 5 + payload.length - frame.length = 0 := by rw [← hw]; simp [two]; omega
    unfold padded
    rw [this]
    simp
  have hy : slice frame 3 payload.length = payload := by
    have := slice_middle (be 2 received.toNat ++ [check]) payload (be 2 crc.toNat ++ rest) 3 _
      (by simp [two]) rfl
    rw [← hw]
    simpa using this
  have hz : BitVec.ofNat 16 (numberAt frame (3 + payload.length) 2) = crc := by
    have := slice_middle (be 2 received.toNat ++ [check] ++ payload) (be 2 crc.toNat) rest
      (3 + payload.length) 2 (by simp [two]; omega) (two _)
    unfold numberAt
    rw [← hw, this]
    apply BitVec.eq_of_toNat_eq
    have := crc.isLt
    simp [be, beNat]
    omega
  unfold judgeAnswer
  simp only [hb.1, hb.2, hh, ← hl]
  rw [hp, hy, hz, if_neg hs]

end Sys2Proof.Machine
end

