-- ==== Sys2Proof/Tests/Slice0.lean ====
section
/-! SUPPORT. Tests: small halls built by helpers, words of the host link and of the reader bus written
out from the tables of the spec, worked examples of the spec one step each, and for every statement of
the certificate with hypotheses a state and operands that meet them. -/

namespace Sys2Proof.Tests

open Sys2Proof.Machine

set_option Elab.async false

/-! ### Helpers -/

/-- The state after a command. -/
def after (i : Instr) (s : State) : State :=
  match exec i s with
  | .next t => t
  | _ => s

/-- Status and results of the response that waits. -/
def replied (s : State) : Option (Status × List Byte) := s.link.response.map fun r => (r.status, r.results)

/-- Table A of Chapter 2 (Table 2-6 and the text before it). -/
def tableA : Tariff :=
  { isDefined := true, prices := ⟨⟨800, 600⟩, ⟨4500, 4000⟩, ⟨1600, 1200⟩, ⟨9000, 8000⟩⟩
    startThreshold := 200, jobMinimum := 10, holdQuantum := 500, reserve := 17000000 }

/-- Schedule 1 of Chapter 2 (the text after Table 2-6). -/
def schedule1 : Schedule :=
  { t1 := some 500, t2 := some 2000, t3 := none, d0 := 0, d1 := 100, d2 := 200, d3 := 0 }

/-- A new ACTIVE account. -/
def fresh (n : Nat) (kind : AccountKind) : Account :=
  { number := n, kind := kind, state := .active, balance := 0, creditLimit := 0, held := 0
    payer := none, memberHeld := 0, periodCap := none, memberCount := 0, schedule := 0, meter := 0
    meterSaturated := false, periodCharges := 0, classCounts := zeroCounts, tokens := []
    openJobs := 0, walkup := none }

/-- The snapshot of a job under table A and this schedule. -/
def snapA (n : Fin 4) (d : Schedule) : Snapshot :=
  { letter := 0, scheduleNumber := n, prices := tableA.prices, reserve := 17000000, holdQuantum := 500
    jobMinimum := 10, schedule := d }

/-- A job as it opened, under table A and the empty schedule 0. -/
def job (user billing hold : Nat) : Job :=
  { user := user, billing := billing, kind := .account, openedBy := .reader, authRef := none
    snapshot := snapA 0 .empty, hold := hold, accrued := 0, nextSeq := 1, pricedSheets := 0
    billed := zeroCounts, billedImpressions := 0, voidedSheets := 0, voidedImpressions := 0, jams := 0
    overruns := 0, unpricedFeeds := 0, strayExits := 0, endRequest := none, idleTimer := some 1200000 }

/-- A station in this state, TRACKED under LEVEL permit, the copier at rest. -/
def port (state : StationState) : Station :=
  { Station.afterReset .allLow with
    state := state, config := { StationConfig.afterReset with permitMode := .level } }

/-- A hall with table A, schedule 1, these accounts, tokens and stations. -/
def hall (accounts : List Account) (tokens : List TokenEntry) (stations : List (StationId × Station)) :
    State :=
  stations.foldl (fun s e => s.setStation e.1 e.2)
    { State.reset with
      accounts := accounts, tokens := tokens, tariffs := State.reset.tariffs.set 0 tableA
      schedules := State.reset.schedules.set 1 schedule1 }

/-- SM simplex. -/
def smSimplex : SheetClass := ⟨false, false, false⟩
/-- SC duplex. -/
def scDuplex : SheetClass := ⟨false, true, true⟩
/-- LC duplex. -/
def lcDuplex : SheetClass := ⟨true, true, true⟩

/-! ### A busy hall, which meets every standing law -/

/-- A sheet in a list. -/
def sheetOf (seq ordinal : Nat) : Sheet :=
  { seqNo := seq, cls := scDuplex, firstOrdinal := ordinal, impressions := 2, amount := 8500000 }

/-- Station 2: RUNNING, a member's job with a sheet in its path. -/
def job2 : Job := { job 201 200 500 with accrued := 8500000, nextSeq := 2, pricedSheets := 1 }
/-- Station 3: HELD, five sheets billed. -/
def job3 : Job :=
  { job 100 100 500 with
    accrued := 42500000, nextSeq := 6, pricedSheets := 5, billed := #v[0, 0, 0, 5, 0, 0, 0, 0]
    billedImpressions := 10 }
/-- Station 6: CLOSING, its last sheet in the path. -/
def job6 : Job :=
  { job 300 300 500 with
    accrued := 8500000, nextSeq := 2, pricedSheets := 1, endRequest := some .endKey, idleTimer := none }
/-- Station 7: JAMMED, two sheets disputed. -/
def job7 : Job :=
  { job 100 100 300 with accrued := 17000000, nextSeq := 3, pricedSheets := 2, jams := 1, idleTimer := none }
/-- Station 10: RUNNING, a capped member's job with nothing priced. -/
def job10 : Job := job 202 200 100
/-- Station 11: RUNNING, a walk-up's job. -/
def job11 : Job := { job 60003 60003 2000 with kind := .card, authRef := some 4 }
/-- Station 12: JAMMED with an end request, nothing disputed. -/
def job12 : Job :=
  { job 100 100 200 with jams := 1, endRequest := some .accountBlocked, idleTimer := none }

/-- The walk-up fields of a PENDING record. -/
def walkup (ref : Nat) (i : StationId) (r : RequestState) (left : Nat) : Walkup :=
  { authRef := ref, requested := 2000, granted := none, requestState := some r, finalCharge := none
    authTimer := some left, station := i }

/-- A PENDING record. -/
def pendingRecord (n : Nat) (t : Token) (w : Walkup) : Account :=
  { fresh n .transient with state := .pending, tokens := [t], walkup := some w }

/-- PREPAID 100, with the jobs of stations 3, 7 and 12. -/
def acc100 : Account :=
  { fresh 100 .prepaid with
    balance := 2000, held := 1000, schedule := 1, meter := 14, tokens := [0x11#64], openJobs := 3 }
/-- CREDIT 200, the payer of 201 and 202. -/
def acc200 : Account :=
  { fresh 200 .credit with
    balance := 500, creditLimit := 300, held := 600, meter := 2, memberCount := 2, openJobs := 2 }
/-- MEMBER 201. -/
def acc201 : Account :=
  { fresh 201 .member with payer := some 200, memberHeld := 500, tokens := [0x22#64], openJobs := 1 }
/-- MEMBER 202, capped. -/
def acc202 : Account :=
  { fresh 202 .member with payer := some 200, memberHeld := 100, periodCap := some 1000, openJobs := 1 }
/-- PREPAID 300, CLOSING. -/
def acc300 : Account :=
  { fresh 300 .prepaid with
    state := .closing, balance := 900, held := 500, meter := 2, openJobs := 1 }
/-- PREPAID 400, BLOCKED. -/
def acc400 : Account := { fresh 400 .prepaid with state := .blocked }
/-- CREDIT 500, idle and rich. -/
def acc500 : Account := { fresh 500 .credit with balance := 999999999, creditLimit := 10000000 }
/-- WAITING, at station 4. -/
def acc60000 : Account := pendingRecord 60000 0xB0#64 (walkup 1 4 .waiting 150000)
/-- TAKEN, at station 5. -/
def acc60001 : Account := pendingRecord 60001 0xB1#64 (walkup 2 5 .taken 150001)
/-- SETTLED. -/
def acc60002 : Account :=
  { fresh 60002 .transient with
    state := .settled, balance := 45
    walkup := some
      { authRef := 3, requested := 2000, granted := some 2000, requestState := none
        finalCharge := some 1955, authTimer := none, station := 9 } }
/-- OPEN, at station 11. -/
def acc60003 : Account :=
  { fresh 60003 .transient with
    state := .opened, balance := 2000, held := 2000, tokens := [0xB3#64], openJobs := 1
    walkup := some
      { authRef := 4, requested := 2000, granted := some 2000, requestState := none
        finalCharge := none, authTimer := none, station := 11 } }

/-- The session token of a station with a session. -/
def withToken (t : Token) (st : Station) : Station := { st with sessionToken := some t }

/-- Every station state is met in this hall. -/
def busy : State :=
  ({ hall
      [acc100, acc200, acc201, acc202, acc300, acc400, acc500, acc60000, acc60001, acc60002, acc60003]
      [⟨0x11#64, 100⟩, ⟨0x22#64, 201⟩, ⟨0xB0#64, 60000⟩, ⟨0xB1#64, 60001⟩, ⟨0xB3#64, 60003⟩]
      [(1, port .idle),
        (2, withToken 0x22#64 { port .running with job := some job2, path := [sheetOf 1 1] }),
        (3, { port .held with job := some job3 }),
        (4, withToken 0xB0#64 (port .opening)),
        (5, withToken 0xB1#64 (port .opening)),
        (6, { port .closing with job := some job6, path := [sheetOf 1 1], drainTimer := some 80000 }),
        (7, { port .jammed with
              job := some job7, disputed := [sheetOf 1 11, sheetOf 2 13], jamCause := some .jamLine
              jamTimer := some 6000000, alarms := ⟨true, false, false, false, false, false⟩ }),
        (8, { port .outOfService with alarms := ⟨false, true, false, false, false, false⟩ }),
        (9, { port .idle with tariff := 1 }),
        (10, { port .running with job := some job10 }),
        (11, withToken 0xB3#64 { port .running with job := some job11 }),
        (12, { port .jammed with
              job := some job12, jamCause := some .drainTimeout, jamTimer := some 6000000 }),
        (13, { port .idle with
              config := { StationConfig.afterReset with walkupAllowed := true, style := .inserted } })] with
    wau := { numberRotor := 60003, referenceRotor := 4, waiting := [60000] } } : State).drive

/-- A state out of reset with RDY high can carry out every host command. -/
theorem ready_of {s : State} (h : s.resetLow = false) (g : s.link.judged = none) (i : Instr) :
    s.ready i :=
  ⟨h, by simp [Link.occupiedFor, g]⟩

/-- Busy is ready for every host command. -/
theorem busy_ready (i : Instr) : busy.ready i := ready_of (by decide +kernel) (by decide +kernel) i

theorem busy_pins : PinsLaw busy := drive_pinsLaw _

theorem busy_books : BooksLaw busy := by
  have hp : ∀ a ∈ busy.accounts, a.payer.all (fun p => (busy.account p).any fun b =>
      b.kind == .prepaid || b.kind == .credit) = true := by decide +kernel
  have hu : ∀ j ∈ busy.openJobs, ((busy.account j.user).any fun u => u.billingNumber == j.billing) = true ∧
      (busy.account j.billing).isSome = true := by decide +kernel
  have hw : ∀ a ∈ busy.accounts, a.isPending → (a.walkup.any fun w =>
      (busy.station w.station).state == .opening && w.requestState.isSome && w.authTimer.isSome) = true := by
    decide +kernel
  refine ⟨⟨by unfold AccountsInOrder; decide +kernel, fun i => ⟨?_, ?_, ?_, ?_, ?_, ?_, ?_, ?_, ?_, ?_, ?_, ?_⟩,
    fun a ha h => ?_, by decide +kernel⟩,
    ⟨by unfold AccountsInOrder; decide +kernel, by unfold Account.suitsKind; decide +kernel,
      fun a ha p h => ?_, by decide +kernel⟩,
    by unfold WithinCapacity; decide +kernel, fun j hj => ?_, by decide +kernel⟩
  all_goals first | (revert i; decide +kernel) | skip
  · have := hw a ha h
    cases hw : a.walkup with
    | none => rw [hw] at this; cases this
    | some w => rw [hw] at this; simp at this; exact ⟨w, rfl, this.1.1, this.1.2, this.2⟩
  · have := hp a ha
    rw [h] at this
    cases hb : busy.account p with
    | none => simp [hb] at this
    | some b => simp [hb] at this; exact ⟨b, rfl, this⟩
  · have := hu j hj
    cases h1 : busy.account j.user with
    | none => simp [h1] at this
    | some u =>
      cases h2 : busy.account j.billing with
      | none => simp [h2] at this
      | some b => simp [h1] at this; exact ⟨u, b, rfl, rfl, this.1⟩

theorem busy_tokens : TokenBooksLaw busy := by
  refine ⟨busy_books.2.1, busy_books.2.2.1, ?_, by decide +kernel, by decide +kernel⟩
  unfold TokensLaw
  decide +kernel

theorem busy_tariffs : TariffsLaw busy := by unfold TariffsLaw Tariff.consistent; decide +kernel

theorem busy_charges : ChargesLaw busy := by
  refine ⟨busy_books.2.1, busy_tariffs, ?_, ?_⟩
  · have h : ∀ i, ((busy.station i).job.all fun j =>
        decide (j.accrued ≤ j.hold * Config.milliPointsPerCent)) = true := by decide +kernel
    intro i j hj
    have := h i
    rw [hj] at this
    simpa using this
  · have h : ∀ i, ((busy.station i).job.all fun j => decide (j.snapshot.jobMinimum ≤ j.hold)) = true := by
      decide +kernel
    intro i j hj
    have := h i
    rw [hj] at this
    simpa using this

theorem busy_sheets : SheetsLaw busy := by
  have h : ∀ i, ((busy.station i).job.all fun j =>
      j.pricedSheets == j.billed.toList.sum + j.voidedSheets + (busy.station i).path.length +
        (busy.station i).disputed.length) = true := by decide +kernel
  intro i j hj _
  have := h i
  rw [hj] at this
  simpa using this

theorem busy_tables : SchedulesLaw busy ∧ ReadersLaw busy := by
  refine ⟨by unfold SchedulesLaw; decide +kernel, ?_⟩
  unfold ReadersLaw Reader.inRange
  decide +kernel

theorem busy_waiting : WaitingLaw busy := by
  have ho : ∀ i, (busy.station i).state = .opening → (busy.walkupOf i).isSome = true := by decide +kernel
  have hr : ∀ a ∈ busy.accounts, a.isPending →
      (a.walkup.all fun w => decide (1 ≤ w.authRef) && decide (w.authRef ≤ 65535)) = true := by decide +kernel
  refine ⟨by decide +kernel, fun n => ⟨fun h => ?_, fun ⟨a, ha, hp, hw⟩ => ?_⟩, fun i hi => ?_,
    fun a ha hp w hw => ?_, by decide +kernel⟩
  · have : busy.wau.waiting = [60000] := by decide +kernel
    rw [this] at h
    cases h with
    | head => exact ⟨acc60000, by decide +kernel, by decide +kernel, by decide +kernel⟩
    | tail _ h => cases h
  · have h : ∀ a ∈ busy.accounts, a.isPending = true →
        a.walkup.map Walkup.requestState = some (some .waiting) → a.number ∈ busy.wau.waiting := by
      decide +kernel
    have hm := List.mem_of_find?_eq_some ha
    have hn : a.number = n := by simpa using List.find?_some ha
    exact hn ▸ h a hm hp hw
  · obtain ⟨a, ha⟩ := Option.isSome_iff_exists.1 (ho i hi)
    have := List.find?_some ha
    simp only [Bool.and_eq_true, beq_iff_eq] at this
    exact ⟨a, List.mem_of_find?_eq_some ha, this⟩
  · have := hr a ha hp
    rw [hw] at this
    simpa using this

theorem busy_figures : FiguresLaw busy := by
  have h : ∀ a ∈ busy.accounts, (decide (-999999999 ≤ a.balance) && decide (a.balance ≤ 999999999) &&
      decide (a.creditLimit ≤ 10000000) && (a.periodCap.all fun cap => decide (cap ≤ 10000000)) &&
      decide (a.meter ≤ 16777215) && (a.meterSaturated == decide (a.meter = 16777215)) &&
      decide (a.periodCharges ≤ 999999999)) = true := by decide +kernel
  have hc : ∀ a ∈ busy.accounts, ∀ k : Fin 8, a.classCounts[k] ≤ 16777215 := by decide +kernel
  refine ⟨fun a ha => ?_, by decide +kernel⟩
  have g := h a ha
  simp only [Bool.and_eq_true, decide_eq_true_eq, beq_iff_eq] at g
  refine ⟨g.1.1.1.1.1.1, g.1.1.1.1.1.2, g.1.1.1.1.2, fun cap hcap => ?_, g.1.1.2, ?_, g.2, hc a ha⟩
  · have := g.1.1.1.2
    rw [hcap] at this
    simpa using this
  · rw [g.1.2]
    exact decide_eq_true_iff

/-- The hypotheses of the statements about what every step keeps, met in `busy`, which takes a step. -/
theorem witness_standing_laws :
    PinsLaw busy ∧ StationsLaw busy ∧ BooksLaw busy ∧ TokenBooksLaw busy ∧ ChargesLaw busy ∧
      SheetsLaw busy ∧ WaitingLaw busy ∧ TariffsLaw busy ∧ SchedulesLaw busy ∧ ReadersLaw busy ∧
      FiguresLaw busy ∧ ∃ t, step busy = .next t :=
  ⟨busy_pins, busy_books.1, busy_books, busy_tokens, busy_charges, busy_sheets, busy_waiting, busy_tariffs,
    busy_tables.1, busy_tables.2, busy_figures, _, rfl⟩

/-! ### WellFormed refuses what no message can carry -/

/-- A LOAD ACCOUNT form of 52 bytes. -/
def loadForm : LoadForm :=
  { number := 7, kind := 0, state := 0, mask := 0x0081#16, balance := 1500, creditLimit := 0, payer := 0
    periodCap := 0, schedule := 1, meter := 0, periodCharges := 0, classCounts := zeroCounts }

/-- An UPDATE ACCOUNT form. -/
def updateForm : UpdateForm :=
  { number := 200, mask := 0x0002#16, creditLimit := 400, periodCap := 0, schedule := 0, payer := 0
    kind := 0 }

/-- A WRITE TARIFF form with the prices of table A. -/
def tariffForm : TariffForm :=
  { prices := tableA.prices, startThreshold := 200, jobMinimum := 10, holdQuantum := 500 }

/-- A WRITE SCHEDULE form of schedule 1. -/
def scheduleForm : ScheduleForm :=
  { mask := 3#8, t1 := 500, t2 := 2000, t3 := 0, d0 := 0, d1 := 100, d2 := 200, d3 := 0 }

/-- A SET GLOBALS form with the values after device reset. -/
def globalsForm : GlobalsForm :=
  { idleTimeout := 120, drainTimeout := 8, jamTimeout := 10, authTimeout := 20, preAuthAmount := 2000
    walkupSchedule := 0, pollPeriod := 50, answerLimit := 10 }

/-- A CONFIGURE STATION form with the values after device reset. -/
def configForm : ConfigForm :=
  { polarityMask := 0, edgeMask := 0, filterSteps := 20, divisor := 1, countMode := 0, classSource := 0
    fixedClass := 0, permitMode := 1, tdSteps := 5, walkupAllowed := 0, sessionStyle := 0 }

theorem test_wellFormed_forms :
    WellFormed (.loadAccount loadForm) = true ∧ WellFormed (.updateAccount updateForm) = true ∧
      WellFormed (.writeTariff 3 tariffForm) = true ∧ WellFormed (.writeSchedule 3 scheduleForm) = true ∧
      WellFormed (.setGlobals (some globalsForm)) = true ∧
      WellFormed (.configureStation 15 configForm) = true := by decide +kernel

theorem test_wellFormed_refuses_numbers :
    [Instr.credit 65536 1, .debit 65536 1, .block 65536, .unblock 65536, .retireAccount 65536,
      .closePeriod 65536, .readAccount 65536, .listAccounts 65536, .bindToken 1#64 65536,
      .openJob 1 65536, .authResult 65536 0 (some 1), .authResult 65536 1 none,
      .retryOfHeldStations 65536, .authTimerExpiry 59999, .authTimerExpiry 61000].all
      (fun i => !WellFormed i) = true := by decide +kernel

theorem test_wellFormed_refuses_bytes :
    [Instr.readTariff 256, .writeTariff 256 tariffForm, .readSchedule 256, .writeSchedule 256 scheduleForm,
      .configureStation 256 configForm, .enableStation 256, .disableStation 256, .setStationTariff 256 0,
      .setStationTariff 0 256, .readStation 256, .readStationAlarms 256, .openJob 256 1, .endJob 256,
      .clearJam 256, .resetStation 256, .returnToService 256, .configureReader 256 0,
      .configureReader 0 256, .readReader 256, .presetReaderCounters 256 0 0 0 0,
      .presetReaderCounters 0 256 0 0 0, .presetReaderCounters 0 0 256 0 0,
      .presetReaderCounters 0 0 0 256 0, .presetReaderCounters 0 0 0 0 256, .sendShopMessage 256,
      .authResult 1 256 none].all (fun i => !WellFormed i) = true := by decide +kernel

theorem test_wellFormed_refuses_cents :
    [Instr.credit 1 2147483648, .debit 1 (-2147483649), .authResult 1 0 (some 2147483648),
      .loadAccount { loadForm with balance := 2147483648 },
      .loadAccount { loadForm with creditLimit := -2147483649 },
      .loadAccount { loadForm with periodCap := 2147483648 },
      .loadAccount { loadForm with periodCharges := 2147483648 },
      .updateAccount { updateForm with creditLimit := 2147483648 },
      .updateAccount { updateForm with periodCap := -2147483649 },
      .writeTariff 0 { tariffForm with startThreshold := 2147483648 },
      .writeTariff 0 { tariffForm with jobMinimum := 2147483648 },
      .writeTariff 0 { tariffForm with holdQuantum := 2147483648 },
      .setGlobals (some { globalsForm with preAuthAmount := 2147483648 })].all
      (fun i => !WellFormed i) = true := by decide +kernel

theorem test_wellFormed_refuses_fields :
    [Instr.loadAccount { loadForm with number := 65536 }, .loadAccount { loadForm with kind := 256 },
      .loadAccount { loadForm with state := 256 }, .loadAccount { loadForm with payer := 65536 },
      .loadAccount { loadForm with schedule := 256 }, .loadAccount { loadForm with meter := 16777216 },
      .loadAccount { loadForm with classCounts := #v[0, 0, 0, 0, 0, 0, 0, 16777216] },
      .updateAccount { updateForm with number := 65536 }, .updateAccount { updateForm with schedule := 256 },
      .updateAccount { updateForm with payer := 65536 }, .updateAccount { updateForm with kind := 256 },
      .writeTariff 0 { tariffForm with prices := { tableA.prices with sm := ⟨65536, 0⟩ } },
      .writeTariff 0 { tariffForm with prices := { tableA.prices with sc := ⟨0, 65536⟩ } },
      .writeTariff 0 { tariffForm with prices := { tableA.prices with lm := ⟨65536, 0⟩ } },
      .writeTariff 0 { tariffForm with prices := { tableA.prices with lc := ⟨0, 65536⟩ } },
      .writeSchedule 0 { scheduleForm with t1 := 16777216 },
      .writeSchedule 0 { scheduleForm with t2 := 16777216 },
      .writeSchedule 0 { scheduleForm with t3 := 16777216 },
      .writeSchedule 0 { scheduleForm with d0 := 65536 }, .writeSchedule 0 { scheduleForm with d1 := 65536 },
      .writeSchedule 0 { scheduleForm with d2 := 65536 }, .writeSchedule 0 { scheduleForm with d3 := 65536 },
      .setGlobals (some { globalsForm with idleTimeout := 65536 }),
      .setGlobals (some { globalsForm with drainTimeout := 65536 }),
      .setGlobals (some { globalsForm with jamTimeout := 65536 }),
      .setGlobals (some { globalsForm with authTimeout := 65536 }),
      .setGlobals (some { globalsForm with walkupSchedule := 256 }),
      .setGlobals (some { globalsForm with pollPeriod := 65536 }),
      .setGlobals (some { globalsForm with answerLimit := 256 }),
      .configureStation 0 { configForm with filterSteps := 65536 },
      .configureStation 0 { configForm with divisor := 256 },
      .configureStation 0 { configForm with countMode := 256 },
      .configureStation 0 { configForm with classSource := 256 },
      .configureStation 0 { configForm with fixedClass := 256 },
      .configureStation 0 { configForm with permitMode := 256 },
      .configureStation 0 { configForm with tdSteps := 65536 },
      .configureStation 0 { configForm with walkupAllowed := 256 },
      .configureStation 0 { configForm with sessionStyle := 256 },
      .answerReceived [0, 0, 0, 0], .answerReceived (List.replicate 37 0)].all
      (fun i => !WellFormed i) = true := by decide +kernel

/-! ### Words written out from the tables of the spec -/

/-- The CRC of R194 on the usual test message, the digits 1 to 9: 29B1. -/
theorem test_crc_of_digits :
    crc16 [0x31, 0x32, 0x33, 0x34, 0x35, 0x36, 0x37, 0x38, 0x39] = 0x29B1#16 := by decide +kernel

/-- CREDIT (code 12): account 5200 in 2 bytes, 300 cents in 4 (R188, Table 9-2). -/
theorem test_decode_credit :
    decodeCommand 0x12 [0x00, 0x00, 0x01, 0x2C, 0x14, 0x50] = .command (.credit 5200 300) := by decide +kernel

/-- A cents figure is two's complement: FFFFFFFF is −1 (Table 9-2). -/
theorem test_decode_negative :
    decodeCommand 0x13 [0xFF, 0xFF, 0xFF, 0xFF, 0x00, 0x07] = .command (.debit 7 (-1)) := by decide +kernel

/-- LOAD ACCOUNT (code 10): 52 bytes by R198, mask bits 0 and 7 supplying balance 1,500 and schedule 1. -/
theorem test_decode_loadAccount :
    decodeCommand 0x10
      ([0x00, 0x07, 0x00, 0x00, 0x00, 0x81, 0x00, 0x00, 0x05, 0xDC] ++ List.replicate 10 0 ++ [0x01] ++
        List.replicate 31 0) = .command (.loadAccount loadForm) := by decide +kernel

/-- UPDATE ACCOUNT (code 11): mask bit 1 and a credit limit of 400 (R198). -/
theorem test_decode_updateAccount :
    decodeCommand 0x11
      [0x00, 0xC8, 0x00, 0x02, 0x00, 0x00, 0x01, 0x90, 0, 0, 0, 0, 0, 0, 0, 0] =
      .command (.updateAccount updateForm) := by decide +kernel

/-- BIND TOKEN (code 20): token first, then the number; FIND TOKEN (code 22). -/
theorem test_decode_tokens :
    decodeCommand 0x20 [0x01, 0x02, 0x03, 0x04, 0x05, 0x06, 0x07, 0x08, 0x00, 0x09] =
        .command (.bindToken 0x0102030405060708#64 9) ∧
      decodeCommand 0x22 [0, 0, 0, 0, 0, 0, 0, 0x11] = .command (.findToken 0x11#64) := by decide +kernel

/-- WRITE TARIFF (code 30): letter, eight prices front before back in cell order, three cents figures. -/
theorem test_decode_writeTariff :
    decodeCommand 0x30
      [0x00, 0x03, 0x20, 0x02, 0x58, 0x11, 0x94, 0x0F, 0xA0, 0x06, 0x40, 0x04, 0xB0, 0x23, 0x28, 0x1F, 0x40,
        0x00, 0x00, 0x00, 0xC8, 0x00, 0x00, 0x00, 0x0A, 0x00, 0x00, 0x01, 0xF4] =
      .command (.writeTariff 0 tariffForm) := by decide +kernel

/-- WRITE SCHEDULE (code 32): number, mask, three thresholds of 3 bytes, four discounts of 2. -/
theorem test_decode_writeSchedule :
    decodeCommand 0x32
      [0x01, 0x03, 0x00, 0x01, 0xF4, 0x00, 0x07, 0xD0, 0, 0, 0, 0x00, 0x00, 0x00, 0x64, 0x00, 0xC8, 0, 0] =
      .command (.writeSchedule 1 scheduleForm) := by decide +kernel

/-- SET GLOBALS (code 34): no argument, or the settings of Table 9-4 after device reset. -/
theorem test_decode_setGlobals :
    decodeCommand 0x34 [] = .command (.setGlobals none) ∧
      decodeCommand 0x34
        [0x00, 0x78, 0x00, 0x08, 0x00, 0x0A, 0x00, 0x14, 0x00, 0x00, 0x07, 0xD0, 0x00, 0x00, 0x32, 0x0A] =
        .command (.setGlobals (some globalsForm)) := by decide +kernel

/-- CONFIGURE STATION (code 40): the number, then 13 bytes in the order of Table 5-2. -/
theorem test_decode_configureStation :
    decodeCommand 0x40 [0x0F, 0x00, 0x00, 0x00, 0x14, 0x01, 0x00, 0x00, 0x00, 0x01, 0x00, 0x05, 0x00, 0x00] =
      .command (.configureStation 15 configForm) := by decide +kernel

/-- PRESET READER COUNTERS (code 52), OPEN JOB (code 46), AUTH RESULT (code 61), STATUS SUMMARY (code 70),
a code that names no command, and a wrong length. -/
theorem test_decode_others :
    decodeCommand 0x52 [3, 1, 2, 3, 4] = .command (.presetReaderCounters 3 1 2 3 4) ∧
      decodeCommand 0x46 [0x02, 0x14, 0x51] = .command (.openJob 2 5201) ∧
      decodeCommand 0x61 [0x00, 0x29, 0x00, 0x00, 0x00, 0x07, 0xD0] =
        .command (.authResult 41 0 (some 2000)) ∧
      decodeCommand 0x70 [] = .command .statusSummary ∧ decodeCommand 0x1A [0, 1] = .unknownCode ∧
      decodeCommand 0x14 [1] = .wrongLength := by decide +kernel

/-- No row of the opcode table gives bits (log 30). -/
theorem test_decodeTableWord_none : decodeTableWord 8 0x70 = none := rfl

/-! ### Frames of the reader bus -/

/-- The POLL of reader 3 (R195): header 0001 1001 0000 0000, ones at code positions 7, 9 and 12, whose
exclusive-or is 2, so check bit 1 alone; the parity over three header bits and one check bit is 0. -/
theorem test_header_check_byte : headerCheckByte 0x1900#16 = 0x02#8 := by decide +kernel

/-! ### Worked examples of the spec, one step each -/

/-- A sheet of this class has just passed FEED: its pulse is up and its filter timer runs out. -/
def feeding (c : SheetClass) (st : Station) : Station :=
  { st with
    pins := ⟨false, true, false, false, c.large, c.colour, c.duplex⟩
    filterTimers := ⟨none, some 0, none, none⟩ }

/-- The reader of station `i`, in service, is being read. -/
def heard (i : StationId) (s : State) : State :=
  { s.modifyReader i fun r => { r with polled := true, link := .inService } with
    bus := { s.bus with phase := .reading i 10 } }

/-- The pending display of a station. -/
def shown (i : StationId) (s : State) : Option Display := (s.reader i).display

/-- Hold and accrued of the open job of a station. -/
def holdAndAccrued (i : StationId) (s : State) : Option (Nat × Nat) :=
  (s.station i).job.map fun j => (j.hold, j.accrued)

/-- Balance, held and meter of an account. -/
def money (n : Nat) (s : State) : Option (Int × Nat × Nat) :=
  (s.account n).map fun a => (a.balance, a.held, a.meter)

/-- The group of section 10.1, with these holds of its two jobs. -/
def group (balance : Int) (meter hold2 hold5 : Nat) (st2 st5 : Station) : State :=
  hall
    [{ fresh 5200 .prepaid with
        balance := balance, held := hold2 + hold5, schedule := 1, meter := meter, memberCount := 2
        openJobs := 2 },
      { fresh 5201 .member with payer := some 5200, memberHeld := hold2, tokens := [0x51#64], openJobs := 1 },
      { fresh 5202 .member with payer := some 5200, memberHeld := hold5, tokens := [0x52#64], openJobs := 1 }]
    [⟨0x51#64, 5201⟩, ⟨0x52#64, 5202⟩] [(2, st2), (5, st5)]

/-- A job of the group. -/
def groupJob (user hold accrued : Nat) : Job :=
  { job user 5200 hold with snapshot := snapA 1 schedule1, accrued := accrued }

/-- A running station of the group. -/
def running (user hold accrued : Nat) : Station :=
  { port .running with
    job := some (groupJob user hold accrued), sessionToken := some (if user = 5201 then 0x51#64 else 0x52#64) }

/-- Table 10-1 row 2: a CARD at station 5 opens a job with hold 500. The frame is spelled by hand but for
its CRC (R195): reader 5, type CARD, 10 bytes; ones at code positions 6, 9, 10, 12, 18 and 20, whose
exclusive-or is 15, so check bits 0 to 3; the parity over six header bits and four check bits is 0. -/
theorem test_card_opens_member_job :
    let s := heard 5 (group 1200 497 500 0 (running 5201 500 0) (port .idle))
    let payload : List Byte := [0, 0, 0, 0, 0, 0, 0, 0x52, 0, 0]
    let t := after (.answerReceived ([0x2D, 0x0A, 0x0F] ++ payload ++
      crcBytes ([0x2D, 0x0A] ++ payload))) s
    (t.station 5).state = .running ∧ holdAndAccrued 5 t = some (500, 0) ∧
      money 5200 t = some (1200, 1000, 497) ∧ shown 5 t = some (.welcome 700) := by decide +kernel

/-- Table 10-1 row 4: the tier boundary falls inside the sheet. -/
theorem test_feed_across_tier :
    let t := after (.filterTimerExpiry 5 .feed)
      (group 1200 499 500 500 (running 5201 500 8500000) (feeding scDuplex (running 5202 500 0)))
    holdAndAccrued 5 t = some (500, 8100000) ∧ money 5200 t = some (1200, 1000, 501) ∧
      (t.station 5).path.map Sheet.firstOrdinal = [500] := by decide +kernel

/-- Table 10-1 row 8: the cover test extends the hold by the last 200 cents. -/
theorem test_feed_extends_hold :
    let t := after (.filterTimerExpiry 5 .feed)
      (group 1200 505 500 500 (running 5201 500 16150000) (feeding lcDuplex (running 5202 500 23400000)))
    (t.station 5).state = .running ∧ holdAndAccrued 5 t = some (700, 38700000) ∧
      money 5200 t = some (1200, 1200, 507) ∧ (t.account 5202).map Account.memberHeld = some 700 := by
  decide +kernel

/-- Table 10-1 row 11: no credit is left, and the station is HELD. -/
theorem test_feed_stops_station :
    let t := after (.filterTimerExpiry 5 .feed)
      (group 1200 507 500 700 (running 5201 500 16150000) (feeding lcDuplex (running 5202 700 38700000)))
    (t.station 5).state = .held ∧ holdAndAccrued 5 t = some (700, 54000000) ∧
      shown 5 t = some (.stoppedNoCredit 160) ∧ (t.station 5).permit = false := by decide +kernel

/-- Table 10-1 row 12: the release of JAM voids the disputed sheet and the job goes on. -/
theorem test_jam_release_voids :
    let t := after (.filterTimerExpiry 2 .jam)
      (group 1200 509 500 700
        { running 5201 500 16150000 with
          state := .jammed, jamCause := some .jamLine, jamTimer := some 1, filtered := ⟨false, false, false, true⟩
          filterTimers := ⟨none, none, none, some 0⟩, disputed := [⟨2, scDuplex, 502, 2, 7650000⟩] }
        { running 5202 700 54000000 with state := .held })
    (t.station 2).state = .running ∧ holdAndAccrued 2 t = some (500, 8500000) ∧
      money 5200 t = some (1200, 1200, 507) ∧ shown 2 t = some (.charge 85) := by decide +kernel

/-- Table 10-1 row 13: CREDIT 300 is answered with the balance it left, and owes a retry. -/
theorem test_credit_answers_balance :
    let t := after (.credit 5200 300)
      (group 1200 507 500 700 (running 5201 500 8500000) { running 5202 700 54000000 with state := .held })
    replied t = some (.ok, [0, 0, 5, 0xDC]) ∧ t.retryOwed = [5200] ∧ (t.station 5).state = .held := by
  decide +kernel

/-- Table 10-1 row 13: the retry gives station 5 the whole 300 cents. -/
theorem test_retry_resumes_station :
    let t := after (.retryOfHeldStations 5200)
      (group 1500 507 500 700 (running 5201 500 8500000) { running 5202 700 54000000 with state := .held })
    (t.station 5).state = .running ∧ holdAndAccrued 5 t = some (1000, 54000000) ∧
      money 5200 t = some (1500, 1500, 507) ∧ shown 5 t = some (.charge 540) := by decide +kernel

/-- Table 10-1 row 15: the END key settles the job of station 5 at 540 cents. -/
theorem test_end_key_settles :
    let s := heard 5 (group 1500 507 500 1000 (running 5201 500 8500000)
      { port .running with
        job := some
          { groupJob 5202 1000 54000000 with
            pricedSheets := 4, billed := #v[0, 0, 0, 1, 0, 0, 0, 3], billedImpressions := 8 } })
    let t := after (.answerReceived (makeFrame 5 7 [0])) s
    (t.station 5).state = .idle ∧ money 5200 t = some (960, 500, 507) ∧ shown 5 t = some (.goodbye 540) ∧
      (t.station 5).lastJob.map (fun l => (l.endCause, l.charge, l.balanceAfter)) =
        some (some .endKey, 540, 960) ∧
      (t.account 5202).map (fun a => (a.memberHeld, a.periodCharges, a.openJobs)) = some (0, 540, 0) := by
  decide +kernel

/-- Table 10-2 at 5 s: the oldest request, with its 15,000 ms left. -/
theorem test_take_oldest_request :
    let s : State :=
      { hall [pendingRecord 60004 0xB1#64 (walkup 41 1 .waiting 150000),
          pendingRecord 60005 0xB3#64 (walkup 42 8 .waiting 170000)]
        [⟨0xB1#64, 60004⟩, ⟨0xB3#64, 60005⟩] [(1, port .opening), (8, port .opening)] with
        wau := { numberRotor := 60005, referenceRotor := 42, waiting := [60004, 60005] } }
    let t := after .takeAuthRequest s
    replied t = some (.ok, [0, 41, 1, 0, 0, 0, 0, 0, 0, 0, 0xB1, 0, 0, 7, 0xD0, 0xEA, 0x64, 0, 0, 0x3A, 0x98]) ∧
      t.wau.waiting = [60005] ∧ t.link.attn = true := by decide +kernel

/-- Table 10-2 at 9 s: an approval of 2,000 cents opens the job. -/
theorem test_approval_opens_walkup :
    let t := after (.authResult 41 0 (some 2000))
      (hall [pendingRecord 60004 0xB1#64 (walkup 41 1 .taken 110000)] [⟨0xB1#64, 60004⟩]
        [(1, port .opening)])
    replied t = some (.ok, [1, 0xEA, 0x64, 0, 0, 7, 0xD0]) ∧ (t.station 1).state = .running ∧
      money 60004 t = some (2000, 2000, 0) ∧ shown 1 t = some (.welcome 2000) := by decide +kernel

/-- Table 10-2 at 22 and 23 s: the expiry removes the record; the late result finds none. -/
theorem test_expiry_removes_record :
    let s := hall [pendingRecord 60005 0xB3#64 (walkup 42 8 .taken 0)] [⟨0xB3#64, 60005⟩]
      [(8, port .opening)]
    let t := after (.authTimerExpiry 60005) s
    t.accounts = [] ∧ t.tokens = [] ∧ (t.station 8).state = .idle ∧ shown 8 t = some .noResponse ∧
      replied (after (.authResult 42 0 (some 2000)) t) = some (.noRequest, []) := by decide +kernel

/-- Table 10-2 at 25 s: the rotor passes the freed number 60,005 by; the reference is 43. -/
theorem test_new_walkup_takes_next_numbers :
    let s : State :=
      heard 8 { hall [acc60003] [⟨0xB3#64, 60003⟩]
        [(8, { port .idle with config := { (port .idle).config with walkupAllowed := true } })] with
        wau := { numberRotor := 60005, referenceRotor := 42, waiting := [] } }
    let t := after (.answerReceived (makeFrame 8 5 [0, 0, 0, 0, 0, 0, 0, 0xB5, 1, 0])) s
    t.accounts.map Account.number = [60003, 60006] ∧ t.wau = ⟨60006, 43, [60006]⟩ ∧
      (t.station 8).state = .opening ∧ shown 8 t = some .authorising ∧ t.link.attn = true := by
  decide +kernel

/-- The hall of section 10.3, in row 5's state, with or without the end request. -/
def jammed10 (cause : Option EndCause) : State :=
  hall [{ fresh 6100 .credit with
      balance := 3000, creditLimit := 2000, held := 500, meter := 6, openJobs := 1 }] []
    [(10, { port .jammed with
      job := some { job 6100 6100 500 with
        accrued := 4800000, pricedSheets := 6, billed := #v[4, 0, 0, 0, 0, 0, 0, 0], billedImpressions := 4
        jams := 1, endRequest := cause, idleTimer := none }
      disputed := [⟨5, smSimplex, 5, 1, 800000⟩, ⟨6, smSimplex, 6, 1, 800000⟩]
      jamCause := some .jamLine, jamTimer := some 0 })]

/-- Table 10-3 row 2: BLOCK records the end request and leaves the jam. -/
theorem test_block_during_jam :
    let t := after (.block 6100) (jammed10 none)
    (t.account 6100).map Account.state = some .blocked ∧ (t.station 10).state = .jammed ∧
      (t.station 10).job.map Job.endRequest = some (some .accountBlocked) := by decide +kernel

/-- "Other ends of the same jam" of section 10.3: CLEAR JAM answers 2 sheets, IDLE and 32 cents. -/
theorem test_clear_jam_settles :
    let t := after (.clearJam 10) (jammed10 (some .accountBlocked))
    replied t = some (.ok, [2, 1, 0, 0, 0, 32]) ∧ money 6100 t = some (2968, 0, 4) ∧
      shown 10 t = some (.goodbye 32) ∧ (t.station 10).lastJob.map LastJob.voidedSheets = some 2 := by
  decide +kernel

/-- "Other ends of the same jam": the jam timeout settles at 32 cents and takes the station out. -/
theorem test_jam_timeout_takes_out :
    let t := after (.jamTimeout 10) (jammed10 (some .accountBlocked))
    (t.station 10).state = .outOfService ∧ (t.station 10).alarms.outOfService = true ∧
      (t.station 10).lastJob.map (fun l => (l.endCause, l.charge)) = some (some .accountBlocked, 32) ∧
      shown 10 t = some .outOfService := by decide +kernel

/-- "Other ends of the same jam": RESET STATION voids the two sheets and settles. -/
theorem test_reset_station_settles :
    let t := after (.resetStation 10) (jammed10 (some .accountBlocked))
    replied t = some (.ok, [1, 2, 0, 0, 0, 32]) ∧ (t.station 10).state = .idle := by decide +kernel

/-- Table 6-3 at 8 s: the drain timer takes the three sheets into dispute. -/
theorem test_drain_timeout_jams :
    let sheets : List Sheet :=
      [⟨5, smSimplex, 205, 1, 800000⟩, ⟨6, smSimplex, 206, 1, 800000⟩, ⟨7, smSimplex, 207, 1, 800000⟩]
    let t := after (.drainTimerExpiry 12)
      (hall [{ fresh 3600 .prepaid with balance := 5000, held := 500, meter := 207, openJobs := 1 }] []
        [(12, { port .closing with
          job := some { job 3600 3600 500 with
            accrued := 5600000, endRequest := some .endKey, idleTimer := none }
          path := sheets, drainTimer := some 0 })])
    (t.station 12).state = .jammed ∧ (t.station 12).jamCause = some .drainTimeout ∧
      (t.station 12).disputed = sheets ∧ shown 12 t = some (.jam 3) ∧
      (t.station 12).jamTimer = some 6000000 := by decide +kernel

/-- Table 6-4: the alarms read while OUT_OF_SERVICE, and after the return to IDLE. -/
theorem test_alarms_read_and_kept :
    let s := hall [] [] [(12, { port .outOfService with alarms := ⟨true, true, false, false, false, false⟩ })]
    let t := after (.readStationAlarms 12) s
    replied t = some (.ok, [3, 7]) ∧ (t.station 12).alarms = ⟨false, true, false, false, false, false⟩ ∧
      replied (after (.returnToService 12) t) = some (.ok, []) := by decide +kernel

/-- Table 3-4, sheet 5: an overrun forces the hold up by 50 cents. -/
theorem test_feed_overruns :
    let t := after (.filterTimerExpiry 7 .feed)
      (hall [{ fresh 3500 .prepaid with balance := 800, held := 800, openJobs := 1 }] []
        [(7, feeding lcDuplex { port .held with job := some { job 3500 3500 800 with accrued := 68000000 } })])
    holdAndAccrued 7 t = some (850, 85000000) ∧ money 3500 t = some (800, 850, 2) ∧
      (t.station 7).state = .held ∧ shown 7 t = some (.stoppedNoCredit 0) ∧
      (t.station 7).job.map Job.overruns = some 1 := by decide +kernel

/-- Table 3-6: station 3 takes nothing of 50 cents, and station 8 resumes. -/
theorem test_retry_passes_on :
    let t := after (.retryOfHeldStations 7000)
      (hall [{ fresh 7000 .prepaid with balance := 1050, held := 1000, openJobs := 2 }] []
        [(3, { port .held with job := some { job 7000 7000 500 with accrued := 39000000 } }),
          (8, { port .held with job := some { job 7000 7000 500 with accrued := 37000000 } })])
    (t.station 3).state = .held ∧ (t.station 8).state = .running ∧
      holdAndAccrued 8 t = some (550, 37000000) ∧ money 7000 t = some (1050, 1050, 0) := by decide +kernel

/-- Table 2-10: a duplex sheet at the top of the meter. -/
theorem test_feed_saturates_meter :
    let t := after (.filterTimerExpiry 1 .feed)
      (hall [{ fresh 5100 .prepaid with
          balance := 5000, held := 500, schedule := 1, meter := 16777214, openJobs := 1 }] []
        [(1, feeding scDuplex { port .running with
          job := some { job 5100 5100 500 with snapshot := snapA 1 schedule1 } })])
    (t.account 5100).map (fun a => (a.meter, a.meterSaturated)) = some (16777215, true) ∧
      holdAndAccrued 1 t = some (500, 6800000) := by decide +kernel

/-- Table 2-11: 241, 165, the minimum of 10, and no charge for a job that billed nothing. -/
theorem test_settlement_charges :
    settlementCharge { job 1 1 500 with accrued := 24120000, billedImpressions := 7 } = (241, false) ∧
      settlementCharge { job 1 1 500 with accrued := 16470000, billedImpressions := 5 } = (165, false) ∧
      settlementCharge { job 1 1 500 with accrued := 800000, billedImpressions := 1 } = (10, true) ∧
      settlementCharge (job 1 1 500) = (0, false) := by decide +kernel

/-- Table 2-2: a start threshold of 170 cents fails check 3, and 171 passes. -/
theorem test_writeTariff_reserve :
    let prices : Prices := ⟨⟨700, 550⟩, ⟨4200, 3800⟩, ⟨1500, 1200⟩, ⟨9250, 7800⟩⟩
    replied (after (.writeTariff 1 ⟨prices, 170, 15, 400⟩) .reset) = some (.invalid, []) ∧
      replied (after (.writeTariff 1 ⟨prices, 171, 15, 400⟩) .reset) =
        some (.ok, [0, 0, 0x01, 0x04, 0x29, 0x90, 0, 0, 0, 0xAB]) := by decide +kernel

/-- "Closing a period with sheets in the path" of section 1.6: 2 + 2 + 1 = 5. -/
theorem test_closePeriod_keeps_path :
    let t := after (.closePeriod 2200)
      (hall [{ fresh 2200 .prepaid with meter := 16777215, meterSaturated := true, openJobs := 2 }] []
        [(3, { port .running with job := some (job 2200 2200 500), path := [sheetOf 1 1, sheetOf 2 3] }),
          (9, { port .jammed with
            job := some (job 2200 2200 500), disputed := [⟨1, smSimplex, 1, 1, 800000⟩] })])
    (t.account 2200).map (fun a => (a.meter, a.meterSaturated)) = some (5, false) := by decide +kernel

/-- "Available amount of a group" of section 1.2: 5,800, 300 and 5,800. -/
theorem test_available_of_group :
    let s := hall [{ fresh 4100 .credit with balance := 1500, creditLimit := 5000, held := 700 },
        { fresh 4101 .member with
          payer := some 4100, periodCap := some 2000, periodCharges := 1200, memberHeld := 500 },
        { fresh 4102 .member with payer := some 4100 }] [] []
    (s.accounts.map s.available) = [5800, 300, 5800] := by decide +kernel

/-- Table 7-5, period 4: the third NO_ANSWER in a row takes the reader to LOST. -/
theorem test_reader_lost :
    let s := hall [] [] [(11, port .idle)]
    let t := after (.pollTransferEnd false)
      { s.modifyReader 11 fun r => { r with polled := true, link := .inService, consecutive := 2, noAnswer := 2 } with
        bus := { s.bus with phase := .polling 11 } }
    (t.reader 11).link = .lost ∧ (t.reader 11).consecutive = 0 ∧ (t.reader 11).linkLost = true ∧
      (t.reader 11).noAnswer = 3 ∧ t.link.attn = true := by decide +kernel

/-- Table 5-6: the first pulse of two completes nothing, the excursion of 1.2 ms is ignored. -/
theorem test_filter_and_divisor :
    let st := { port .running with
      config := { (port .running).config with divisor := 2 }, job := some (job 100 100 500) }
    let up := hall [acc100] [] [(9, { st with pins := ⟨false, true, false, false, false, false, false⟩
                                              filterTimers := ⟨none, some 8, none, none⟩ })]
    ((after (.lineLevelChange 9 .feed false) up).station 9).filterTimers.feed = none ∧
      ((after (.lineLevelChange 9 .feed true) (hall [acc100] [] [(9, st)])).station 9).filterTimers.feed =
        some 20 ∧
      ((after (.filterTimerExpiry 9 .feed) up).station 9).feedCounter = 1 := by decide +kernel

/-- Table 5-7 at 5 ms: the release of READY releases PERMIT under INTERLOCKED. -/
theorem test_ready_release_permit :
    let st := { port .running with
      config := StationConfig.afterReset, filtered := ⟨true, false, false, false⟩, permit := true
      filterTimers := ⟨some 0, none, none, none⟩, job := some (job 100 100 500) }
    ((after (.filterTimerExpiry 7 .ready) (hall [acc100] [] [(7, st)])).station 7).permit = false := by
  decide +kernel

/-- R193, R192: the message of STATUS SUMMARY (70 00, CRC) is taken: RDY falls, and the next step on the
empty queue answers it. -/
theorem test_message_is_taken_and_answered :
    let t := after (.selectPeriodEnd (messageBytes 0x70 [])) (after .selectPeriodStart .reset)
    t.link.judged = some (.command .statusSummary) ∧ t.link.rdy = false ∧
      (replied (after .statusSummary t)).map Prod.fst = some .ok := by decide +kernel

/-- R184, R185: a message with a wrong CRC is judged and RDY falls; a message judged before the refusal is
placed is a collision; the next step on the empty queue places BAD_FRAME and drives RDY high, and the next
select period shifts it out with COLLISION in its flags byte. -/
theorem test_refusal_is_judged_then_placed :
    let judged := after (.selectPeriodEnd [0x70, 0, 0, 0]) (after .selectPeriodStart .reset)
    let late := after (.selectPeriodEnd (messageBytes 0x70 [])) (after .selectPeriodStart judged)
    let placed := match step late with | .next t => t | _ => .reset
    judged.link.judged = some (.refusal .badFrame) ∧ judged.link.rdy = false ∧ judged.link.response = none ∧
      (after .selectPeriodStart judged).link.select.bind SelectPeriod.shifting = none ∧
      late.link.judged = some (.refusal .badFrame) ∧ late.link.collision = true ∧
      replied placed = some (.badFrame, []) ∧ placed.link.rdy = true ∧ placed.link.judged = none ∧
      ((after .selectPeriodStart placed).link.select.bind SelectPeriod.shifting).map (fun m => m.take 2) =
        some [0x03, 0x01] := by decide +kernel

/-! ### For every statement with hypotheses, a state and operands that meet them -/

/-- Busy with these waiting events of its own. -/
def owing (numbers : List Nat) : State := { busy with retryOwed := numbers }

/-- Busy while a select period is in progress. -/
def selected (p : SelectPeriod) : State := { busy with link := { busy.link with select := some p } }

/-- A select period that shifts out no response. -/
def quiet : SelectPeriod := { shifting := none, showsCollision := false, live := false }

/-- Busy while another command executes. -/
def executing (i : Instr) : State := { busy with link := { busy.link with judged := some (.command i) } }

/-- Busy with a refusal judged and not placed. -/
def refusing (status : Status) : State :=
  { busy with link := { busy.link with judged := some (.refusal status) } }

/-- Busy with a response waiting. -/
def waitingResponse (r : Response) : State := { busy with link := { busy.link with response := some r } }

theorem witness_EmptyQueue :
    busy.pending = [] ∧ { busy with resetLow := true }.resetLow = true ∧ busy.resetLow = false ∧
      (executing .statusSummary).link.judged = some (.command .statusSummary) ∧
      (refusing .invalid).link.judged = some (.refusal .invalid) ∧ (owing [100]).retryOwed = [100] ∧
      busy.link.judged = none := by decide +kernel

/-- Busy, with `f` at this station. -/
def busyAt (i : StationId) (f : Station → Station) : State := busy.modifyStation i f

/-- No timer of a station, and no authorisation timer, has run out. -/
def noneRanOut (s : State) : Prop :=
  (∀ i, ∀ l ∈ [FilteredLine.ready, .feed, .exit, .jam], (s.station i).filterTimers.get l ≠ some 0) ∧
    (∀ i, (s.station i).permitDelay ≠ some 0) ∧
    (∀ i, (s.station i).job.bind Job.idleTimer ≠ some 0) ∧ (∀ i, (s.station i).drainTimer ≠ some 0) ∧
    (∀ i, (s.station i).jamTimer ≠ some 0) ∧
    ∀ a ∈ s.accounts, a.isPending → a.walkup.bind Walkup.authTimer ≠ some 0

/-- One timer of every kind run out in a hall where none before it in the order has, and the next event of
the part that follows. -/
theorem witness_EmptyQueue_timers :
    [busyAt 2 fun st => { st with filterTimers := ⟨none, some 0, none, some 0⟩ },
        busyAt 2 fun st => { st with permitDelay := some 0 },
        busyAt 3 fun st => { st with job := some { job3 with idleTimer := some 0 } },
        busyAt 6 fun st => { st with drainTimer := some 0 }, busyAt 7 fun st => { st with jamTimer := some 0 },
        { busy with accounts := [pendingRecord 60000 0xB0#64 (walkup 1 4 .waiting 0)] },
        { busy with bus := { busy.bus with periodTimer := some 0 } }, busy,
        { busy with bus := { busy.bus with phase := .betweenSlots, toServe := [1] } }].map State.dueEvent =
      [Instr.filterTimerExpiry 2 .feed, .permitDelayExpiry 2, .idleTimerExpiry 3, .drainTimerExpiry 6,
        .jamTimeout 7, .authTimerExpiry 60000, .periodTimerExpiry, .pollPeriodStart, .slotStart].map some := by
  decide +kernel

/-- Nothing has run out in `busy`; with its period timer running, no event is due and 0.1 ms pass. -/
theorem witness_EmptyQueue_tick :
    noneRanOut busy ∧ AccountsInOrder busy ∧ busy.bus.phase = .atRest ∧ busy.bus.clockHeld = false ∧
      ({ busy with bus := { busy.bus with periodTimer := some 5 } } : State).dueEvent = none ∧
      ({ busy with bus := { busy.bus with periodTimer := some 5 } } : State).tick.bus.periodTimer = some 4 ∧
      (busy.tick.station 6).drainTimer = some 79999 ∧ busy.tick.subMs = 1 := by
  refine ⟨?_, busy_books.1.1, by decide +kernel, by decide +kernel, by decide +kernel, by decide +kernel,
    by decide +kernel, by decide +kernel⟩
  unfold noneRanOut
  decide +kernel

theorem witness_SettlementCharge :
    let j := { job 1 1 10 with accrued := 1000000, billedImpressions := 1 }
    j.accrued ≤ j.hold * 100000 ∧ j.snapshot.jobMinimum ≤ j.hold ∧ 1 ≤ j.billedImpressions ∧
      (job 1 1 10).billedImpressions = 0 := by decide +kernel

/-- The four tiers at their boundaries, with T3 at 3,000. -/
theorem witness_SheetPrice :
    let d := { schedule1 with t3 := some 3000, d3 := 300 }
    d.t1 = some 500 ∧ 500 ≤ 500 ∧ 500 < 501 ∧ d.t2 = some 2000 ∧ 2000 ≤ 2000 ∧ 2000 < 2001 ∧
      d.t3 = some 3000 ∧ 3000 ≤ 3000 ∧ 3000 < 3001 ∧
      [500, 501, 2000, 2001, 3000, 3001].map (sideAmount d 1000) =
        [1000000, 900000, 900000, 800000, 800000, 700000] := by decide +kernel

/-- PERMIT stays released while the permit delay runs under INTERLOCKED, and is asserted once it has run
out (R114); MISO is driven in a select period. -/
theorem witness_OutputPins :
    let st := { port .running with
      config := StationConfig.afterReset, filtered := ⟨true, false, false, false⟩, permitDelay := some 3
      job := some (job 100 100 500) }
    let s := (hall [acc100] [] [(7, st)]).drive
    (s.station 7).config.permitMode ≠ .level ∧ (s.station 7).permitDelay ≠ none ∧
      (s.station 7).permit = false ∧ ((after (.permitDelayExpiry 7) s).station 7).permit = true ∧
      (after .selectPeriodStart busy).link.misoDriven = true ∧ busy.link.misoDriven = false := by
  decide +kernel

theorem witness_DeviceReset :
    (after .deviceReset busy).resetLow = true ∧ Instr.statusSummary ≠ .deviceReset ∧
      Instr.statusSummary ≠ .resetRelease ∧
      (let t := after (.lineLevelChange 2 .feed true) { busy with resetLow := true }
       (t.station 2).pins.feed = true ∧ (t.station 2).filterTimers.feed = none) := by decide +kernel

theorem witness_SelectPeriod :
    let shifting : SelectPeriod :=
      { shifting := some ((bare .ok).message true), showsCollision := true, live := true }
    busy.resetLow = false ∧ busy.link.select = none ∧ busy.link.response = none ∧
      (waitingResponse (bare .ok)).link.response = some (bare .ok) ∧
      (selected shifting).link.select = some shifting ∧ ((bare .ok).message true).length = 6 ∧
      (answer .busy [7]).message true =
        [0x09, 0x01, 0x00, 0x01, 0x07] ++
          [(crc16 [0x09, 0x01, 0x00, 0x01, 0x07]).extractLsb' 8 8,
            (crc16 [0x09, 0x01, 0x00, 0x01, 0x07]).extractLsb' 0 8] ∧
      (List.replicate 6 0#8 : List Byte).head? = some 0#8 ∧ (selected quiet).link.select = some quiet := by
  decide +kernel

/-- A message cut short, a length of 61, a length that the bytes do not reach, a wrong CRC, an unknown
code, a wrong length and a good command, each in a period that shifts no response. -/
theorem witness_CommandMessage :
    let args : List Byte := [0x00, 0x64]
    (selected quiet).resetLow = false ∧ (selected quiet).link.judged = none ∧
      ([0x70] : List Byte).length < 2 ∧ 60 < numberAt [0x18, 61] 1 1 ∧
      ([0x18, 2, 0, 100, 0] : List Byte).length < 4 + numberAt [0x18, 2, 0, 100, 0] 1 1 ∧
      args.length ≤ 60 ∧ crc16 [0x18, 2, 0x00, 0x64] ≠ 0#16 ∧
      messageBytes 0x18 args = 0x18#8 :: BitVec.ofNat 8 args.length :: args ++
        be 2 (crc16 (0x18#8 :: BitVec.ofNat 8 args.length :: args)).toNat ++ [] ∧
      (∀ e ∈ argumentLengths, e.1 ≠ 0x1A) ∧ (0x14, [2]) ∈ argumentLengths ∧ [0#8].length ∉ [2] ∧
      (0x18, [2]) ∈ argumentLengths ∧ args.length ∈ [2] ∧
      ({ selected quiet with link := { (selected quiet).link with judged := some (.command .statusSummary) } }
        : State).link.judged.isSome = true := by decide +kernel

/-- A period that shifted a response with COLLISION, its six bytes clocked out with a command: the response
is read and the flag cleared before the command is taken (R183, R182). -/
theorem witness_CommandAfterResponse :
    let p : SelectPeriod := { shifting := some ((bare .ok).message true), showsCollision := true, live := true }
    let s : State := { busy with
      link := { busy.link with response := some (bare .ok), collision := true, select := some p } }
    let good := after (.selectPeriodEnd (messageBytes 0x18 [0x00, 0x64])) s
    let bad := after (.selectPeriodEnd [0x18, 2, 0, 100, 0, 0]) s
    let short := after (.selectPeriodEnd [0x18, 2]) s
    p.live = true ∧ p.shifting = some ((bare .ok).message true) ∧
      ((bare .ok).message true).length ≤ (messageBytes 0x18 [0x00, 0x64]).length ∧
      good.link.judged = some (.command (.readAccount 100)) ∧ good.link.response = none ∧
      good.link.collision = false ∧ bad.link.judged = some (.refusal .badFrame) ∧
      bad.link.collision = false ∧ short.link.response = none ∧ short.link.rdy = false ∧
      short.link.collision = true ∧ good.link.misoDriven = false := by decide +kernel

/-- Every host command with operands at the top of their fields. -/
theorem witness_DecodeOfEncode :
    WellFormed (.authResult 65535 255 (some (-2147483648))) = true ∧
      encodeCommand (.authResult 65535 255 (some (-2147483648))) =
        some (0x61, [0xFF, 0xFF, 0xFF, 0x80, 0, 0, 0]) ∧
      encodeCommand (.bindToken 0xFFFFFFFFFFFFFFFF#64 65535) = some (0x20, List.replicate 10 0xFF#8) := by
  decide +kernel

theorem witness_WellFormedMessage :
    (selected quiet).resetLow = false ∧ (selected quiet).link.select = some quiet ∧
      (selected quiet).link.judged = none ∧ WellFormed (.block 65535) = true ∧
      encodeCommand (.block 65535) = some (0x14, [0xFF, 0xFF]) ∧
      (after (.selectPeriodEnd (messageBytes 0x14 [0xFF, 0xFF] ++ [0, 0])) (selected quiet)).link.judged =
        some (.command (.block 65535)) := by decide +kernel

theorem witness_Collides :
    (executing .statusSummary).resetLow = false ∧
      (executing .statusSummary).link.judged = some (.command .statusSummary) ∧
      Judged.command .statusSummary ≠ .command (.block 100) ∧
      (encodeCommand (.block 100)).isSome = true ∧
      (after (.block 100) (executing .statusSummary)).link.collision = true ∧
      Judged.refusal .badFrame ≠ .command (.block 100) ∧
      (after (.block 100) (refusing .badFrame)).link.collision = true := by decide +kernel

/-- A MEMBER form naming this payer. -/
def memberForm (payer : Nat) : LoadForm :=
  { loadForm with kind := 2, mask := 0x0008#16, balance := 0, payer := payer, schedule := 0 }

/-- A full table, and every fault of a payer. -/
theorem witness_LoadAccount :
    let full : State := { busy with accounts := (List.range 1024).map fun n => fresh (n + 8) .prepaid }
    LoadForm.asRecord { loadForm with number := 0 } = none ∧ loadForm.asRecord.isSome = true ∧
      (busy.account 100).isSome = true ∧ busy.account 7 = none ∧ 1024 ≤ full.accounts.length ∧
      full.account 7 = none ∧ busy.accounts.length < 1024 ∧
      (memberForm 999).asRecord.map Account.payer = some (some 999) ∧ busy.account 999 = none ∧
      (memberForm 201).asRecord.isSome = true ∧ busy.account 201 = some acc201 ∧
      busy.account 300 = some acc300 ∧ busy.account 200 = some acc200 ∧
      replied (after (.loadAccount (memberForm 201)) busy) = some (.invalid, []) ∧
      replied (after (.loadAccount (memberForm 300)) busy) = some (.refusedState, []) ∧
      ((after (.loadAccount (memberForm 200)) busy).account 200).map Account.memberCount = some 3 ∧
      loadForm.asRecord.map Account.payer = some none := by decide +kernel

/-- Every reason of the second clause makes a form malformed that is well made without it. -/
theorem witness_LoadAccount_malformed :
    let credit := { loadForm with kind := 1, mask := 0x0083#16 }
    [{ loadForm with number := 0 }, { loadForm with number := 60000 }, { loadForm with kind := 3 },
      { loadForm with state := 2 }, { loadForm with mask := 0x0080#16 }, { loadForm with mask := 0x0083#16 },
      { loadForm with mask := 0x0001#16 }, { credit with mask := 0x0081#16 },
      { memberForm 200 with mask := 0x0009#16 },
      { memberForm 200 with mask := 0x2008#16, meter := 1 }, { loadForm with balance := 1000000000 },
      { loadForm with balance := -100000000 }, { credit with creditLimit := 10000001 },
      { memberForm 200 with mask := 0x0028#16, periodCap := -1 }, { loadForm with schedule := 4 }].all
        (fun f => f.asRecord.isNone) = true ∧
      credit.asRecord.isSome = true ∧
      ({ memberForm 200 with mask := 0x2028#16, periodCap := 10000000 } : LoadForm).asRecord.map
        Account.periodCap = some (some 10000000) ∧
      ({ loadForm with mask := 0x2081#16, meter := 16777215 } : LoadForm).asRecord.map
        Account.meterSaturated = some true := by decide +kernel

/-- An UPDATE ACCOUNT form for account 202 naming this payer. -/
def movePayerForm (number payer : Nat) : UpdateForm :=
  { updateForm with number := number, mask := 0x0008#16, payer := payer }

theorem witness_UpdateAccount :
    let idle : State := hall [{ acc200 with memberCount := 1, openJobs := 0, held := 0 },
      { fresh 203 .member with payer := some 200 }, acc300, acc500] [] []
    busy.account 200 = some acc200 ∧ updateForm.valid .credit = true ∧ updateForm.payer? = none ∧
      updateForm.raises acc200 = true ∧ (movePayerForm 201 500).payer? = some 500 ∧ 0 < acc201.openJobs ∧
      (movePayerForm 203 500).valid .member = true ∧ idle.account 999 = none ∧
      (idle.account 203).map Account.openJobs = some 0 ∧ (idle.account 203).map Account.kind = some .member ∧
      idle.account 300 = some acc300 ∧ idle.account 500 = some acc500 ∧
      (idle.account 203).map Account.payer = some (some 200) ∧ (idle.account 200).isSome = true ∧
      ((after (.updateAccount (movePayerForm 203 500)) idle).accounts.map fun a => (a.number, a.memberCount)) =
        [(200, 0), (203, 0), (300, 0), (500, 1)] ∧
      busy.account 60000 = some acc60000 ∧ updateForm.valid .prepaid = false ∧
      ({ updateForm with mask := 0x4000#16 } : UpdateForm).raises acc202 = true := by decide +kernel

theorem witness_CreditAndDebit :
    busy.account 999 = none ∧ busy.account 201 = some acc201 ∧ acc201.kind = .member ∧
      busy.account 60000 = some acc60000 ∧ acc60000.kind = .transient ∧ busy.account 500 = some acc500 ∧
      999999999 < acc500.balance + 1 ∧ busy.account 100 = some acc100 ∧ acc100.kind = .prepaid ∧
      acc100.balance + 100000000 ≤ 999999999 ∧ -99999999 ≤ acc400.balance - 99999999 ∧
      acc400.balance - 100000000 < -99999999 ∧ busy.account 400 = some acc400 ∧
      replied (after (.debit 400 100000000) busy) = some (.limit, []) := by decide +kernel

theorem witness_Block :
    busy.account 999 = none ∧ busy.account 60000 = some acc60000 ∧ busy.account 400 = some acc400 ∧
      (∀ j ∈ busy.openJobs, j.user ≠ 400 ∧ j.billing ≠ 400) ∧ busy.account 200 = some acc200 ∧
      (busy.station 2).job = some job2 ∧ job2.billing = 200 ∧ (busy.station 2).path ≠ [] ∧
      (busy.station 10).job = some job10 ∧ job10.billing = 200 ∧ (busy.station 10).path = [] ∧
      (busy.station 7).job = some job7 ∧ job7.user = 100 ∧ (busy.station 3).state = .held ∧
      ((after (.block 200) busy).station 2).state = .closing ∧
      ((after (.block 200) busy).station 10).state = .idle ∧
      ((after (.block 100) busy).station 3).state = .idle ∧
      ((after (.block 100) busy).account 100).map Account.state = some .blocked ∧
      [7, 12].map (fun i => ((after (.block 100) busy).station i).job.map Job.endRequest) =
        [some (some .accountBlocked), some (some .accountBlocked)] ∧
      acc300.state = .closing ∧ (busy.station 6).job = some job6 ∧ job6.user = 300 ∧
      ((after (.block 300) busy).account 300).map Account.state = some .closing ∧
      ((after (.block 300) busy).station 6).job.map Job.endRequest = some (some .endKey) := by decide +kernel

theorem witness_UnblockAndRetire :
    busy.account 999 = none ∧ acc60000.kind = .transient ∧ acc60000.state ≠ .settled ∧
      acc300.state = .closing ∧ acc400.kind ≠ .transient ∧ acc400.state ≠ .closing ∧ 0 < acc200.memberCount ∧
      acc100.memberCount = 0 ∧ 0 < acc100.openJobs ∧ acc60002.state = .settled ∧ acc400.openJobs = 0 ∧
      acc400.payer = none ∧ acc201.payer = some 200 ∧
      busy.account 400 = some acc400 ∧ busy.account 60002 = some acc60002 ∧
      replied (after (.retireAccount 100) busy) = some (.deferred, []) ∧
      ((after (.retireAccount 203) (hall [acc200, { fresh 203 .member with payer := some 200 }] [] [])).accounts.map
        fun a => (a.number, a.memberCount)) = [(200, 1)] := by decide +kernel

theorem witness_ClosePeriod :
    busy.account 999 = none ∧ busy.account 100 = some acc100 ∧ busy.impressionsInPath 100 = 4 ∧
      replied (after (.closePeriod 0) busy) = some (.ok, [0, 11]) := by decide +kernel

theorem witness_ReadingCommands :
    (owing [100]).ready (.readAccount 100) ∧
      ((after (.readStation 3) (owing [100])).station 3).state = .running :=
  ⟨ready_of (by decide +kernel) (by decide +kernel) _, by decide +kernel⟩

theorem witness_Tokens :
    busy.account 999 = none ∧ acc60000.kind = .transient ∧ acc300.state = .closing ∧
      ⟨0x11#64, 100⟩ ∈ busy.tokens ∧ (∀ e ∈ busy.tokens, e.token ≠ 0x99#64) ∧ acc400.tokens.length < 4 ∧
      busy.tokens.length < 2048 ∧ busy.account 400 = some acc400 ∧ busy.tokenAccount 0x11#64 = some 100 ∧
      busy.account 100 = some acc100 ∧ acc100.kind ≠ .transient ∧
      busy.tokenAccount 0xB0#64 = some 60000 ∧ busy.account 60000 = some acc60000 ∧
      (after (.bindToken 0x99#64 400) busy).tokens.length = 6 ∧
      replied (after (.unbindToken 0x11#64) busy) = some (.ok, [0, 100]) ∧
      replied (after (.bindToken 0x99#64 1) (hall
        [{ fresh 1 .prepaid with tokens := [1#64, 2#64, 3#64, 4#64] }] [] [])) = some (.full, []) := by
  decide +kernel

theorem witness_Tariff :
    tariffForm.valid = true ∧ ({ tariffForm with holdQuantum := 199 } : TariffForm).valid = false ∧
      (3 : TariffLetter).val = 3 ∧ replied (after (.writeTariff 4 tariffForm) busy) = some (.invalid, []) := by
  decide +kernel

theorem witness_Schedule :
    (scheduleForm.mask &&& 0xF8#8) = 0#8 ∧ scheduleForm.table.wellFormed = true ∧
      ((8#8 : BitVec 8) &&& 0xF8#8) ≠ 0#8 ∧
      ({ scheduleForm with t2 := 500 } : ScheduleForm).table.wellFormed = false ∧
      (after (.writeSchedule 3 scheduleForm) busy).schedules[(3 : Fin 4)] = schedule1 := by decide +kernel

theorem witness_Globals :
    3 < ({ globalsForm with walkupSchedule := 4 } : GlobalsForm).walkupSchedule ∧ (3 : Fin 4).val = 3 ∧
      (after (.setGlobals (some { globalsForm with walkupSchedule := 3, idleTimeout := 9, pollPeriod := 251 }))
        busy).globals =
        { Globals.afterReset with walkupSchedule := 3, idleTimeout := 10, pollPeriod := 250 } := by
  decide +kernel

theorem witness_NumbersOutside :
    busy.retryOwed = [] ∧ replied (after (.readReader 16) busy) = some (.invalid, []) ∧
      replied (after (.enableStation 255) busy) = some (.invalid, []) := by decide +kernel

theorem witness_ConfigureStation :
    ({ configForm with edgeMask := 4 } : ConfigForm).named = none ∧
      configForm.named = some .afterReset ∧ (StationConfig.afterReset).countMode ≠ .exitOnly ∧
      ({ configForm with countMode := 2 } : ConfigForm).named.map StationConfig.modesAgree = some false ∧
      (busy.station 1).state = .idle ∧ (busy.station 0).state = .disabled ∧
      (busy.station 2).state = .running ∧
      replied (after (.configureStation 2 configForm) busy) = some (.busy, []) ∧
      replied (after (.configureStation 1 { configForm with filterSteps := 0, divisor := 9, tdSteps := 256 })
        busy) = some (.ok, [0, 0, 0, 5, 8, 0, 0, 0, 1, 0, 255, 0, 0]) := by decide +kernel

theorem witness_StationSwitching :
    (busy.station 0).state = .disabled ∧ (busy.station 8).state = .outOfService ∧
      (busy.station 1).state = .idle ∧ (busy.station 4).state = .opening ∧
      (busy.station 8).filtered.jam = false ∧
      ({ port .outOfService with filtered := ⟨false, false, false, true⟩ } : Station).filtered.jam = true ∧
      (3 : TariffLetter).val = 3 ∧ replied (after (.enableStation 0) busy) = some (.ok, [1]) := by
  decide +kernel

/-- The five checks of Table 3-2 and an opening, for a payer and for a member. -/
theorem witness_OpenJob :
    let s := hall [acc100, { acc200 with balance := 1500 }, acc201, acc400,
        { fresh 401 .member with payer := some 400 }, fresh 402 .prepaid] []
      [(1, port .idle), (9, { port .idle with tariff := 1 })]
    s.account 999 = none ∧
      [s.openingCheck 0 acc100 false, s.openingCheck 9 acc100 false, s.openingCheck 1 acc400 false,
        s.openingCheck 1 { fresh 401 .member with payer := some 400 } false,
        s.openingCheck 1 (fresh 402 .prepaid) false, s.openingCheck 1 acc100 false,
        s.openingCheck 1 acc201 false] = [some 1, some 2, some 3, some 4, some 5, none, none] ∧
      s.account acc201.billingNumber = some { acc200 with balance := 1500 } ∧ acc201.payer = some 200 ∧
      acc100.payer = none ∧ s.available acc100 = 1000 ∧
      replied (after (.openJob 1 100) s) = some (.ok, [0, 0, 1, 0xF4, 0, 0, 3, 0xE8]) := by decide +kernel

theorem witness_EndJob :
    (busy.station 1).state ∈ [StationState.idle, .disabled, .outOfService] ∧
      (busy.station 4).state = .opening ∧ busy.walkupOf 4 = some acc60000 ∧
      busy.account acc60000.number = some acc60000 ∧ acc60000.payer = none ∧
      (busy.station 7).state = .jammed ∧ (busy.station 7).job = some job7 ∧
      (busy.station 6).state = .closing ∧ (busy.station 6).job = some job6 ∧
      (busy.station 2).state = .running ∧ (busy.station 2).path ≠ [] ∧ (busy.station 2).job = some job2 ∧
      (busy.station 3).state = .held ∧ (busy.station 3).path = [] ∧ (busy.station 3).job = some job3 ∧
      replied (after (.endJob 6) busy) = some (.ok, [5, 0]) ∧
      replied (after (.endJob 3) busy) = some (.ok, [1, 4]) := by decide +kernel

/-- The user its own billing account and staying; closing; a walk-up; and a member. -/
theorem witness_Settlement :
    (busy.station 3).job = some job3 ∧ busy.account job3.user = some acc100 ∧
      job3.user = job3.billing ∧ acc100.state ≠ .closing ∧ (busy.station 6).job = some job6 ∧
      busy.account job6.user = some acc300 ∧ acc300.openJobs ≤ 1 ∧ (busy.station 11).job = some job11 ∧
      busy.account job11.user = some acc60003 ∧ acc60003.kind = .transient ∧
      (busy.station 2).job = some job2 ∧ busy.account job2.user = some acc201 ∧
      busy.account job2.billing = some acc200 ∧ job2.user ≠ job2.billing ∧ acc201.state ≠ .closing ∧
      acc200.state ≠ .closing ∧ (busy.settle 6 .idle).account 300 = none ∧
      ((busy.settle 11 .idle).account 60003).map Account.state = some .settled := by decide +kernel

/-- A CLOSING MEMBER whose payer stays, a payer that is CLOSING too, and a CLOSING payer alone. -/
theorem witness_Settlement_closing :
    let group := fun (u b : Account) => hall [b, u] [⟨0x22#64, 201⟩]
      [(2, { port .running with job := some { job2 with accrued := 0 } })]
    let payer := { acc200 with memberCount := 1, openJobs := 1, held := 500 }
    let kept := group { acc201 with state := .closing } payer
    let both := group { acc201 with state := .closing } { payer with state := .closing }
    let alone := group acc201 { payer with state := .closing }
    (kept.settle 2 .idle).account 201 = none ∧ (kept.settle 2 .idle).tokens = [] ∧
      ((kept.settle 2 .idle).account 200).map (fun a => (a.memberCount, a.held)) = some (0, 0) ∧
      (both.settle 2 .idle).accounts = [] ∧ (alone.settle 2 .idle).account 200 = none ∧
      ((alone.settle 2 .idle).account 201).map Account.openJobs = some 0 ∧
      both.account 200 = some { payer with state := .closing } ∧ payer.payer = none := by decide +kernel

theorem witness_ClearJam :
    (busy.station 1).state ≠ .jammed ∧ (busy.station 7).state = .jammed ∧
      (busy.station 7).job = some job7 ∧ (busy.station 7).path = [] ∧ (busy.station 7).disputed.length ≤ 8 ∧
      job7.endRequest = none ∧ (busy.station 12).state = .jammed ∧ (busy.station 12).job = some job12 ∧
      job12.endRequest = some .accountBlocked ∧ (busy.station 12).disputed.length ≤ 8 ∧
      replied (after (.clearJam 7) busy) = some (.ok, [2, 3]) ∧
      replied (after (.clearJam 12) busy) = some (.ok, [0, 1, 0, 0, 0, 0]) ∧
      (let s := hall [{ acc100 with balance := 1000 }] []
        [(7, { port .jammed with job := some { job7 with hold := 170 }, disputed := [sheetOf 2 13]
                                 jamCause := some .jamLine, jamTimer := some 1 })]
       replied (after (.clearJam 7) s) = some (.ok, [1, 4])) := by decide +kernel

theorem witness_ResetStation :
    (busy.station 8).state ∈ [StationState.idle, .disabled, .outOfService] ∧
      (busy.station 5).state = .opening ∧ busy.walkupOf 5 = some acc60001 ∧
      (busy.station 6).state ∈ [StationState.running, .held, .closing, .jammed] ∧
      (busy.station 6).job = some job6 ∧ (busy.station 6).path.length + (busy.station 6).disputed.length ≤ 8 ∧
      replied (after (.resetStation 6) busy) = some (.ok, [1, 1, 0, 0, 0, 0]) := by decide +kernel

/-- Covered, too short for the grant, and extended, for a job of its own account and for a member's. -/
theorem witness_CoverTest :
    (busy.station 10).job = some job10 ∧ (busy.station 3).job = some job3 ∧
      busy.account job3.user = some acc100 ∧ job3.headroom < job3.snapshot.reserve ∧
      job3.snapshot.reserve - job3.headroom ≤ busy.grantFor job3 * 100000 ∧
      (busy.station 2).job = some job2 ∧ job2.snapshot.reserve ≤ job2.headroom ∧
      job10.headroom < job10.snapshot.reserve ∧ busy.grantFor job10 = 200 ∧
      job10.snapshot.reserve - job10.headroom ≤ busy.grantFor job10 * 100000 ∧
      (let s := hall [{ acc100 with balance := 1000 }] [] [(3, { port .held with job := some job3 })]
       s.grantFor job3 * 100000 < job3.snapshot.reserve - job3.headroom ∧ s.coverTest 3 = (s, false)) := by
  decide +kernel

theorem witness_Retry :
    (busy.station 3).state = .held ∧ (busy.station 3).job.map Job.billing = some 100 ∧
      (((allStations.take 3).foldl (State.retryAt 100) busy).coverTest 3).2 = true ∧
      ¬((busy.station 2).state = .held) ∧
      (let s := hall [{ acc100 with balance := 1000 }] [] [(3, { port .held with job := some job3 })]
       (((allStations.take 3).foldl (State.retryAt 100) s).coverTest 3).2 = false) := by decide +kernel

theorem witness_Pricing :
    (busy.station 2).job = some job2 ∧ busy.account job2.billing = some acc200 ∧
      acc200.meterSaturated = false ∧ acc200.meter < 16777215 ∧ job2.user ≠ job2.billing ∧
      busy.account job2.user = some acc201 ∧
      (let top : Account := { fresh 5100 .prepaid with
         balance := 5000, held := 500, meter := 16777215, meterSaturated := true, openJobs := 1 }
       let s := hall [top] [] [(1, { port .running with job := some (job 5100 5100 500) })]
       (s.station 1).job = some (job 5100 5100 500) ∧ s.account 5100 = some top ∧
         top.meterSaturated = true ∧ top.meter = 16777215 ∧
         (s.pricedSheet (job 5100 5100 500) scDuplex).firstOrdinal = 16777215 ∧
         ((s.priceSheet 1 (job 5100 5100 500) scDuplex).account 5100).map Account.meter =
           some 16777215) := by decide +kernel

theorem witness_LineLevel :
    (busy.station 2).pins.get .feed = false ∧ (busy.station 2).pins.get .feed ≠ true ∧
      inputFiltered .feed = some .feed ∧ inputFiltered .classD = none ∧
      ((after (.lineLevelChange 2 .feed true) busy).station 2).filterTimers.feed = some 20 := by decide +kernel

/-- The filtered line follows a level that is up, a level that is down, and a level it has already. -/
theorem witness_FilterExpiry :
    let st := feeding smSimplex (port .idle)
    let two := { st with config := { st.config with divisor := 2 } }
    let jam := { port .running with
      pins := ⟨false, false, false, true, false, false, false⟩, filterTimers := ⟨none, none, none, some 0⟩ }
    st.filterTimers.get .feed = some 0 ∧ st.raw (filteredInput .feed) = true ∧
      true ≠ st.filtered.get .feed ∧ st.config.feedEdge = .leading ∧ st.feedCounter + 1 < two.config.divisor ∧
      st.config.divisor ≤ st.feedCounter + 1 ∧ st.config.countMode = .tracked ∧
      jam.filterTimers.get .jam = some 0 ∧ jam.raw (filteredInput .jam) = true ∧
      jam.state ∈ [StationState.running, .held, .closing] ∧
      ({ jam with filtered := ⟨false, false, false, true⟩ } : Station).filtered.get .jam = true ∧
      ({ jam with pins := .allLow, filtered := ⟨false, false, false, true⟩ } : Station).raw .jam = false ∧
      (let s := hall [] [] [(1, two)]
       ((after (.filterTimerExpiry 1 .feed) s).station 1).feedCounter = 1) ∧
      ((after (.filterTimerExpiry 1 .feed) (hall [] [] [(1, st)])).station 1).unauthorisedFeeds = 1 := by
  decide +kernel

theorem witness_CompletedFeed :
    (busy.station 1).state ∈ [StationState.disabled, .idle, .opening, .outOfService] ∧
      (busy.station 7).state = .jammed ∧ (busy.station 7).job = some job7 ∧
      (busy.station 2).state ∈ [StationState.running, .held, .closing] ∧ (busy.station 2).job = some job2 ∧
      (busy.station 2).config.countMode = .tracked ∧
      (busy.station 2).path.length + (busy.station 2).disputed.length < 8 ∧
      ((busy.priceSheet 2 job2 smSimplex).station 2).job.isSome = true ∧
      8 ≤ ({ port .running with path := List.replicate 8 (sheetOf 1 1) } : Station).path.length ∧
      ((busy.completedFeed 2).station 2).path.length = 2 ∧ (busy.station 3).state = .held ∧
      (busy.station 6).state = .closing := by decide +kernel

theorem witness_CompletedExit :
    (busy.station 8).state ∈ [StationState.disabled, .idle, .opening, .outOfService] ∧
      (busy.station 10).state = .running ∧ (busy.station 10).path = [] ∧ (busy.station 10).job = some job10 ∧
      (busy.station 2).path = [sheetOf 1 1] ∧ (busy.station 2).job = some job2 ∧
      (busy.station 7).disputed = [sheetOf 1 11, sheetOf 2 13] ∧ (busy.station 7).job = some job7 ∧
      (busy.station 12).disputed = [] ∧ (busy.station 12).state = .jammed ∧
      (busy.station 6).state = .closing ∧ (busy.station 6).path = [sheetOf 1 1] ∧
      (busy.station 6).job = some job6 ∧ ((busy.completedExit 6).station 6).state = .idle := by decide +kernel

theorem witness_StationTimers :
    (busy.station 6).drainTimer = some 80000 ∧ (busy.station 6).job = some job6 ∧
      (busy.station 2).job = some job2 ∧ job2.idleTimer = some 1200000 ∧ (busy.station 2).state = .running ∧
      (busy.station 2).path ≠ [] ∧ (busy.station 3).job = some job3 ∧ job3.idleTimer = some 1200000 ∧
      (busy.station 3).path = [] ∧ ((after (.idleTimerExpiry 2) busy).station 2).state = .closing ∧
      ((after (.permitDelayExpiry 2) busy).station 2).permit = true := by decide +kernel

/-- 300 cents of the hold released, and 500 taken by the HELD station 3 in the retry that follows. -/
theorem witness_JamTimeout :
    (busy.station 7).job = some job7 ∧ (busy.station 7).jamTimer = some 6000000 ∧
      busy.resetLow = false ∧
      ((after (.jamTimeout 7) busy).station 7).lastJob.map
        (fun l => (l.endCause, l.hold, l.charge, l.voidedSheets)) = some (some .jamTimeout, 300, 0, 2) ∧
      money 100 (after (.jamTimeout 7) busy) = some (2000, 1200, 10) := by decide +kernel

theorem witness_AuthExpiry :
    busy.account 60000 = some acc60000 ∧ acc60000.kind = .transient ∧ acc60000.state = .pending ∧
      acc60000.walkup = some (walkup 1 4 .waiting 150000) ∧ acc60000.payer = none := by decide +kernel

theorem witness_ReaderCommands :
    busy.retryOwed = [] ∧ (busy.reader 15).inRange ∧
      replied (after (.configureReader 15 1) busy) = some (.ok, [1]) ∧
      replied (after (.configureReader 15 2) busy) = some (.invalid, []) ∧
      ((after (.presetReaderCounters 15 255 1 2 255) busy).reader 15).noAnswer = 255 ∧
      replied (after (.presetReaderCounters 15 256 1 2 255) busy) = some (.invalid, []) ∧
      replied (after (.sendShopMessage 15) busy) = some (.ok, [0]) ∧
      replied (after (.sendShopMessage 16) busy) = some (.invalid, []) := by
  refine ⟨by decide +kernel, by unfold Reader.inRange; decide +kernel, by decide +kernel, by decide +kernel,
    by decide +kernel, by decide +kernel, by decide +kernel, by decide +kernel⟩

/-- A period start with a broadcast, a listed reader that waits, and one that leaves the list. -/
theorem witness_PollPeriods :
    let s : State := { busy.modifyReader 0 (fun r => { r with polled := true }) with
      bus := { phase := .atRest, clockHeld := true, toServe := [], periodTimer := none, broadcast := some 3 } }
    let slot : State := { busy with
      bus :=
        { phase := .betweenSlots, clockHeld := false, toServe := [1, 2], periodTimer := some 9
          broadcast := none } }
    busy.resetLow = false ∧ s.bus.phase = .atRest ∧ s.bus.periodTimer = none ∧
      (s.station 1).state ≠ .disabled ∧ (s.station 0).state = .disabled ∧ (s.reader 0).polled = true ∧
      (s.reader 14).polled = false ∧ (after .pollPeriodStart s).bus.phase = .broadcasting 3 ∧
      busy.bus.broadcast = none ∧ slot.bus.phase = .betweenSlots ∧ slot.bus.toServe = [1, 2] ∧
      slot.bus.clockHeld = false ∧ (slot.reader 1).link = .lost ∧
      (after .slotStart { slot with bus := { slot.bus with clockHeld := true } }).bus.phase = .betweenSlots ∧
      (after .slotStart (slot.modifyReader 1 fun r =>
        { r with link := .inService, display := some .declined })).bus.phase = .displaying 1 .declined := by
  decide +kernel

theorem witness_Transfers :
    let on := fun (p : BusPhase) => { busy with bus := { busy.bus with phase := p } }
    (on (.broadcasting 3)).bus.phase = .broadcasting 3 ∧
      (on (.displaying 1 .declined)).bus.phase = .displaying 1 .declined ∧
      (on (.polling 1)).bus.phase = .polling 1 ∧ (on (.reading 1 10)).bus.phase = .reading 1 10 ∧
      (on (.reading 1 10)).bus.clockHeld = false ∧
      (let t := after .answerLimitExpiry (on (.reading 1 10))
       t.bus.phase = .atRest ∧ t.bus.clockHeld = true ∧ (after .clockReleased t).bus.clockHeld = false) ∧
      ((after .answerLimitExpiry (on (.reading 1 10))).reader 1).noAnswer = 1 := by decide +kernel

/-- A CARD answer of reader 15 with its header, and with each bit of it flipped. -/
theorem witness_AnswersJudged :
    let payload : List Byte := be 8 (0x52#64 : Token).toNat ++ [1, 1]
    let header : BitVec 16 := BitVec.ofNat 16 (15 * 2048 + 5 * 256 + payload.length)
    (0x52#64 : Token) ≠ 0#64 ∧
      judgeAnswer 15 true (be 2 header.toNat ++ [headerCheckByte header] ++ payload ++
        crcBytes (be 2 header.toNat ++ payload)) =
        { good := true, faults := [], event := some (.card 0x52#64 .bank .inserted) } ∧
      (∀ bit : Fin 16, (judgeAnswer 15 true (be 2 (header ^^^ (1#16 <<< bit.val)).toNat ++
        [headerCheckByte header] ++ payload ++ crcBytes (be 2 header.toNat ++ payload))).faults =
          [.hdrCorrected]) ∧
      crc16 (be 2 header.toNat ++ payload) ≠ 0#16 := by decide +kernel

/-- Table of R146 and Table 7-4: the bits of positions 3 and 5 flipped leave an UNCORRECTABLE header; under
ON it is BAD at once, under OFF its CRC decides and then its address, which the flips have changed. -/
theorem test_uncorrectable_header :
    let sent : BitVec 16 := 0x0C00#16
    let received : BitVec 16 := 0xCC00#16
    let frame := fun h : BitVec 16 =>
      be 2 received.toNat ++ [headerCheckByte sent] ++ crcBytes (be 2 h.toNat)
    syndrome received (headerCheckByte sent) = 6 ∧ parityGood received (headerCheckByte sent) = true ∧
      judgeAnswer 1 true (frame received) = { good := false, faults := [.hdrBad], event := none } ∧
      judgeAnswer 1 false (frame sent) = { good := false, faults := [.hdrBad, .crcBad], event := none } ∧
      judgeAnswer 1 false (frame received) = { good := false, faults := [.hdrBad, .hdrBad], event := none } ∧
      judgeAnswer 25 false (frame received) =
        { good := false, faults := [.hdrBad, .hdrBad], event := none } := by decide +kernel

/-- R147: another reader's address, a type that no reader sends, an all-zero token, a key other than END
and CANCEL; and a frame with a header fault and a payload fault, which counts both (log 16). -/
theorem test_content_check :
    (judgeAnswer 1 true (makeFrame 2 4 [])).faults = [.hdrBad] ∧
      (judgeAnswer 1 true (makeFrame 1 1 [])).faults = [.hdrBad] ∧
      (judgeAnswer 1 true (makeFrame 1 5 (List.replicate 10 0))).faults = [.crcBad] ∧
      judgeAnswer 1 true (makeFrame 1 7 [2]) = { good := false, faults := [.crcBad], event := none } ∧
      (judgeAnswer 1 true (makeFrame 2 7 [2])).faults = [.hdrBad, .crcBad] := by decide +kernel

theorem witness_AnswerOutcome :
    let s := heard 1 busy
    s.resetLow = false ∧ s.bus.phase = .reading 1 10 ∧ (s.reader 1).link = .inService ∧
      (judgeAnswer 1 (s.reader 1).strictHeader (makeFrame 1 5 [0, 0, 0, 0, 0, 0, 0, 0x99, 0, 0])).event =
        some (.card 0x99#64 .shop .tap) ∧
      (judgeAnswer 1 true (makeFrame 1 4 [])).event = none ∧ (judgeAnswer 1 true (makeFrame 1 4 [])).good = true ∧
      (judgeAnswer 1 true [0xFF, 0xFF, 0xFF, 0xFF, 0xFF]).good = false ∧
      (judgeAnswer 1 true (makeFrame 1 4 [] |>.set 4 0)).faults = [.crcBad] ∧
      (s.reader 1).consecutive ≤ 2 ∧ (s.reader 1).hdrCorrected ≤ 255 ∧ (s.reader 1).hdrBad ≤ 255 ∧
      (s.reader 1).crcBad ≤ 255 ∧ (s.reader 1).noAnswer ≤ 255 ∧
      (let t := after (.answerReceived (makeFrame 1 4 [] |>.set 4 0))
         (s.modifyReader 1 fun r => { r with crcBad := 255 })
       (t.reader 1).crcBad = 255 ∧ (t.reader 1).counterSaturated = true) ∧
      (busy.reader 1).link = .lost ∧
      ((after (.answerReceived (makeFrame 1 4 []))
        (s.modifyReader 1 fun r => { r with link := .lost, consecutive := 2 })).reader 1).link = .inService := by
  decide +kernel

theorem witness_CardAtIdle :
    let s := hall [acc100, acc60002, acc400] [⟨0x11#64, 100⟩, ⟨0xB0#64, 60002⟩, ⟨0x44#64, 400⟩]
      [(1, port .idle), (13, { port .idle with config := { (port .idle).config with walkupAllowed := true } })]
    (s.station 1).state = .idle ∧ SessionStyle.tap = (s.station 1).config.style ∧
      s.tokenAccount 0x11#64 = some 100 ∧ s.account 100 = some acc100 ∧ s.openingCheck 1 acc100 false = none ∧
      s.tokenAccount 0xB0#64 = some 60002 ∧ s.account 60002 = some acc60002 ∧ acc60002.kind = .transient ∧
      s.openingCheck 1 acc400 false = some 3 ∧ s.tokenAccount 0x99#64 = none ∧
      (s.station 13).config.walkupAllowed = true ∧ (s.station 1).config.walkupAllowed = false ∧
      (s.tariffOf 13).isDefined = true ∧ s.transientCount < 32 ∧ s.accounts.length < 1024 ∧
      s.tokens.length < 2048 ∧ (∀ a ∈ s.accounts, 60000 ≤ a.number → a.kind = .transient) ∧
      ((State.reset).tariffOf 13).isDefined = false ∧
      ((s.readerEvent 13 (.card 0x99#64 .bank .tap)).station 13).state = .opening ∧
      s.freshNumber = 60000 ∧ s.freshReference = 1 ∧ busy.freshNumber = 60004 ∧
      ({ busy with wau := { numberRotor := 60999, referenceRotor := 65535, waiting := [60000] } } :
        State).freshNumber = 60004 ∧
      ({ busy with wau := { numberRotor := 60999, referenceRotor := 65535, waiting := [60000] } } :
        State).freshReference = 3 := by decide +kernel

theorem witness_ReaderEvents :
    (busy.station 0).state = .disabled ∧ (busy.station 8).state = .outOfService ∧
      SessionStyle.inserted ≠ (busy.station 2).config.style ∧
      (busy.station 2).state ∈ [StationState.opening, .running, .held, .closing, .jammed] ∧
      (busy.station 2).sessionToken = some 0x22#64 ∧ busy.tokenAccount 0x22#64 ≠ none ∧
      (busy.station 3).sessionToken ≠ some 0x22#64 ∧ (busy.station 4).sessionToken = some 0xB0#64 ∧
      ((busy.readerEvent 2 (.card 0x22#64 .shop .tap)).station 2).state = .closing ∧
      ((busy.readerEvent 4 (.key .cancel)).station 4).state = .idle ∧
      (let s := hall [acc100] [] [(2, withToken 0x11#64 { port .jammed with
          job := some job7, config := { (port .jammed).config with style := .inserted } })]
       (s.station 2).config.style = .inserted ∧ (s.station 2).sessionToken ≠ none ∧
         ((s.readerEvent 2 .cardOut).station 2).job.map Job.endRequest = some (some .cardRemoved)) := by
  decide +kernel

theorem witness_Walkups :
    busy.wau.waiting = [60000] ∧ busy.account 60000 = some acc60000 ∧ acc60000.tokens = [0xB0#64] ∧
      acc60000.walkup = some (walkup 1 4 .waiting 150000) ∧ State.reset.wau.waiting = [] ∧
      busy.takenRecord 2 = some (acc60001, walkup 2 5 .taken 150001) ∧ busy.account 60001 = some acc60001 ∧
      acc60001.payer = none ∧ acc60001.creditLimit = 0 ∧ acc60001.held = 0 ∧ (busy.station 5).state = .opening ∧
      (busy.tariffOf 5).isDefined = true ∧ (busy.tariffOf 5).startThreshold ≤ min 200 2000 ∧
      min 199 2000 < (busy.tariffOf 5).startThreshold ∧
      replied (after (.authResult 2 0 (some 199)) busy) = some (.approvedUnused, [5, 0, 0, 0, 199]) ∧
      replied (after (.authResult 2 0 (some 2500)) busy) = some (.clamped, [5, 0xEA, 0x61, 0, 0, 7, 0xD0]) ∧
      replied (after (.authResult 1 0 (some 2000)) busy) = some (.noRequest, []) ∧
      replied (after (.authResult 2 1 none) busy) = some (.ok, [5]) ∧
      replied (after (.authResult 0 1 none) busy) = some (.invalid, []) := by decide +kernel

/-- CREDIT, then READ STATION of the station it lets go on: the owed retry is made first, and the port is
reported as the station now is, RUNNING (byte 0) with PERMIT asserted (byte 32) (R66, R112, R117, R184). -/
theorem test_read_station_after_credit :
    let s := (group 1200 507 500 700 (running 5201 500 8500000)
      { running 5202 700 54000000 with state := .held }).drive
    let t := after (.readStation 5) (after (.credit 5200 300) s)
    (s.station 5).permit = false ∧ (t.station 5).permit = true ∧
      (replied t).map (fun r => (r.1, r.2[0]?, r.2[32]?)) = some (.ok, some 3#8, some 1#8) := by decide +kernel

/-- READ STATION reports the alarm flags, last, and leaves them (R139). -/
theorem test_read_station_reports_alarms :
    let t := after (.readStation 8) busy
    (replied t).map (fun r => r.2.getLast?) = some (some 2#8) ∧ (t.station 8).alarms.outOfService = true := by
  decide +kernel

/-- An answer abandoned in the last slot: the slot ends at the limit, the next period starts, and no slot
begins until the reader lets the clock go (R142, R144; log 27). -/
theorem test_answer_limit_ends_slot :
    let s : State := { busy with
      bus := { phase := .reading 11 10, clockHeld := false, toServe := [], periodTimer := none
               broadcast := none } }
    let t := after .pollPeriodStart (after .answerLimitExpiry s)
    t.bus.phase = .betweenSlots ∧ t.bus.clockHeld = true ∧ (after .slotStart t).bus.phase = .betweenSlots ∧
      (after .slotStart (after .clockReleased t)).bus.phase = .polling 1 := by decide +kernel

/-- READ STATION with a job record (132 bytes) and one sheet in path (13), and with a last-job record (74):
the lengths of R197, and the byte of R139. -/
theorem witness_Reports :
    busy.retryOwed = [] ∧ busy.account 999 = none ∧ busy.account 100 = some acc100 ∧
      AccountsInOrder busy ∧ acc100 ∈ busy.accounts ∧ (∀ a ∈ busy.accounts, a.number ≤ 60003) ∧
      (∀ b ∈ busy.accounts, 99 < b.number → 100 ≤ b.number) ∧
      (busy.station 2).job = some job2 ∧ (busy.station 2).lastJob = none ∧
      (replied (after (.readStation 2) busy)).map (fun r => (r.1, r.2.length)) = some (.ok, 196) ∧
      (let s := after (.endJob 10) busy
       (s.station 10).lastJob.isSome = true ∧ (s.station 10).job = none ∧ s.retryOwed = [] ∧
         (replied (after (.readStation 10) s)).map (fun r => (r.1, r.2.length)) = some (.ok, 125)) ∧
      replied (after (.listAccounts 99) busy) = some (.ok, [0, 100, 0, 0, 3]) ∧
      replied (after (.listAccounts 60003) busy) = some (.notFound, []) ∧
      replied (after .statusSummary busy) = some (.ok, [1, 1, 0x03, 0xF5, 0x07, 0xFB, 0x01, 0x80, 0, 0] ++
        [0, 1, 3, 4, 2, 2, 5, 6, 7, 1, 3, 3, 6, 1, 0, 0]) := by
  unfold AccountsInOrder
  decide +kernel

end Sys2Proof.Tests
end

section
/-! SUPPORT. What an event can do to the records, said once as moves. The laws of accounts, tokens,
walk-ups and figures are each kept by every move, and every command of the table is a run of moves. -/

namespace Sys2Proof.Machine

/-! ### What a move may do to a station -/

/-- What the account table knows of a job: user account, billing account and hold. -/
def Job.stake (j : Job) : Nat × Nat × Nat := (j.user, j.billing, j.hold)

/-- The two lists of the station hold no more sheets than they can (R118). -/
def Station.roomy (st : Station) : Prop :=
  st.path.length + st.disputed.length ≤ Config.maxSheetsInPath

/-- Every sheet of the two lists has one impression or two (R41). -/
def Station.sheetsSound (st : Station) : Prop :=
  ∀ x ∈ st.path ++ st.disputed, 1 ≤ x.impressions ∧ x.impressions ≤ 2

/-- `st'` comes from `st` by something that opens no job, closes none and changes no hold. `L` says that
the stations were lawful as the event began; the walk-up in progress is only then sure to stay. -/
structure Station.Follows (L : Prop) (st st' : Station) : Prop where
  stake : st'.job.map Job.stake = st.job.map Job.stake
  opening : L → (st'.state = .opening ↔ st.state = .opening)
  room : st.roomy → st'.roomy
  sheets : st.sheetsSound → st'.sheetsSound

theorem Station.Follows.refl (L : Prop) (st : Station) : st.Follows L st :=
  ⟨rfl, fun _ => Iff.rfl, id, id⟩

theorem Station.Follows.trans {L : Prop} {a b c : Station} (h : a.Follows L b) (g : b.Follows L c) :
    a.Follows L c :=
  ⟨g.stake.trans h.stake, fun l => (g.opening l).trans (h.opening l), g.room ∘ h.room,
    g.sheets ∘ h.sheets⟩

/-- A change that leaves the state and the two lists, and of the job at most what no account knows. -/
theorem Station.Follows.of_fields {L : Prop} {st st' : Station} (hs : st'.state = st.state)
    (hp : st'.path = st.path) (hd : st'.disputed = st.disputed)
    (hj : st'.job.map Job.stake = st.job.map Job.stake) : st.Follows L st' :=
  ⟨hj, fun _ => by rw [hs], fun h => by unfold Station.roomy; rw [hp, hd]; exact h,
    fun h => by unfold Station.sheetsSound; rw [hp, hd]; exact h⟩

/-- A change of state that neither begins nor ends a walk-up. -/
theorem Station.Follows.of_state {L : Prop} {st st' : Station}
    (hs : L → (st'.state = .opening ↔ st.state = .opening))
    (hp : st'.path = st.path) (hd : st'.disputed = st.disputed)
    (hj : st'.job.map Job.stake = st.job.map Job.stake) : st.Follows L st' :=
  ⟨hj, hs, fun h => by unfold Station.roomy; rw [hp, hd]; exact h,
    fun h => by unfold Station.sheetsSound; rw [hp, hd]; exact h⟩

/-- A job changed in what no account knows. -/
theorem stake_map_of {f : Job → Job} (hf : ∀ j, (f j).stake = j.stake) (o : Option Job) :
    (o.map f).map Job.stake = o.map Job.stake := by
  cases o <;> simp [hf]

/-! ### What a move may do to an account record -/

/-- `b` comes from `a` by a change of money, figures or permitted state, in which neither membership nor
tokens nor the walk-up of a PENDING record are touched. -/
structure Account.Carries (a b : Account) : Prop where
  number : b.number = a.number
  kind : b.kind = a.kind
  payer : b.payer = a.payer
  memberCount : b.memberCount = a.memberCount
  tokens : b.tokens = a.tokens
  state : b.state = a.state ∨ (a.state = .pending ∧ b.state = .opened) ∨
    (a.kind ≠ .transient ∧
      (b.state = .active ∨ b.state = .blocked ∨ (b.state = .closing ∧ a.memberCount = 0)))
  credit : a.kind ≠ .credit → b.creditLimit = a.creditLimit
  absent : b.walkup.isSome = a.walkup.isSome
  walkup : b.state = .pending → ∀ w, a.walkup = some w → w.requestState.isSome → w.authTimer.isSome →
    ∃ w', b.walkup = some w' ∧ w'.station = w.station ∧ w'.requestState.isSome ∧ w'.authTimer.isSome
  station : b.state = .pending → b.walkup.map Walkup.station = a.walkup.map Walkup.station

/-- As `Carries`, and the held figures and the count of open jobs stay. -/
structure Account.Follows (a b : Account) : Prop extends a.Carries b where
  held : b.held = a.held
  memberHeld : b.memberHeld = a.memberHeld
  openJobs : b.openJobs = a.openJobs
  opened : a.kind = .transient → (b.state = .opened ↔ a.state = .opened)

theorem Account.Carries.of_fields {a b : Account} (number : b.number = a.number) (kind : b.kind = a.kind)
    (payer : b.payer = a.payer) (memberCount : b.memberCount = a.memberCount)
    (tokens : b.tokens = a.tokens) (state : b.state = a.state)
    (credit : a.kind ≠ .credit → b.creditLimit = a.creditLimit) (walkup : b.walkup = a.walkup) :
    a.Carries b :=
  ⟨number, kind, payer, memberCount, tokens, .inl state, credit, by rw [walkup],
    fun _ w hw h1 h2 => ⟨w, walkup.trans hw, rfl, h1, h2⟩, fun _ => by rw [walkup]⟩

theorem Account.Carries.refl (a : Account) : a.Carries a :=
  .of_fields rfl rfl rfl rfl rfl rfl (fun _ => rfl) rfl

theorem Account.Follows.of_fields {a b : Account} (number : b.number = a.number) (kind : b.kind = a.kind)
    (payer : b.payer = a.payer) (memberCount : b.memberCount = a.memberCount)
    (tokens : b.tokens = a.tokens) (state : b.state = a.state)
    (credit : a.kind ≠ .credit → b.creditLimit = a.creditLimit) (walkup : b.walkup = a.walkup)
    (held : b.held = a.held) (memberHeld : b.memberHeld = a.memberHeld)
    (openJobs : b.openJobs = a.openJobs) : a.Follows b :=
  ⟨.of_fields number kind payer memberCount tokens state credit walkup, held, memberHeld, openJobs,
    fun _ => by rw [state]⟩

theorem Account.Follows.refl (a : Account) : a.Follows a :=
  ⟨.refl a, rfl, rfl, rfl, fun _ => Iff.rfl⟩

/-- A changed walk-up record that keeps its station, and the request and the timer where it has them. -/
theorem Account.Follows.of_walkup {a : Account} {g : Walkup → Walkup}
    (hs : ∀ w, (g w).station = w.station)
    (hr : ∀ w, w.requestState.isSome → (g w).requestState.isSome)
    (ht : ∀ w, w.authTimer.isSome → (g w).authTimer.isSome) (b : Account)
    (hb : b = { a with balance := b.balance, walkup := a.walkup.map g }) : a.Follows b := by
  rw [hb]
  refine ⟨⟨rfl, rfl, rfl, rfl, rfl, .inl rfl, fun _ => rfl, by simp, fun _ w hw h1 h2 => ?_, fun _ => ?_⟩,
    rfl, rfl, rfl, fun _ => Iff.rfl⟩
  · exact ⟨g w, by simp [hw], hs w, hr w h1, ht w h2⟩
  · cases a.walkup <;> simp [hs]

/-! ### The moves -/

/-- Every station is roomy and its sheets sound. -/
def State.sheetsBounded (s : State) : Prop :=
  ∀ i, (s.station i).roomy ∧ (s.station i).sheetsSound

/-- `t` comes from `s` without any change to accounts, tokens, open jobs and walk-ups. -/
structure Quiet (L : Prop) (s t : State) : Prop where
  accounts : t.accounts = s.accounts
  tokens : t.tokens = s.tokens
  station : ∀ i, (s.station i).Follows L (t.station i)
  reader : ∀ i, (s.reader i).inRange → (t.reader i).inRange
  tariffs : TariffsLaw s → TariffsLaw t
  schedules : SchedulesLaw s → SchedulesLaw t

/-- One thing that an event can do to the records, with what is sure as it is done. -/
inductive Move (L : Prop) : State → State → Prop
  | quiet {s t : State} (h : Quiet L s t) : Move L s t
  | accounts {s : State} (f : Account → Account) (hn : ∀ a, (f a).number = a.number)
      (hf : AccountsInOrder s → ∀ a ∈ s.accounts, a.Follows (f a))
      (hr : AccountsInOrder s → s.sheetsBounded → ∀ a ∈ s.accounts, a.inRange → (f a).inRange) :
      Move L s { s with accounts := s.accounts.map f }
  | raiseHold {s : State} {i : StationId} {j : Job} (c : Nat) (hj : (s.station i).job = some j) :
      Move L s (s.raiseHold i j c)
  | settle {s : State} {i : StationId} {dest : StationState} {j : Job}
      (hj : (s.station i).job = some j) (ho : L → (s.station i).state ≠ .opening)
      (hd : dest ≠ .opening) : Move L s (s.settleJob i dest j)
  | openJob {s : State} {i : StationId} {n : Nat} {u : Account} (by_ : OpenedBy)
      (hu : s.account n = some u) (ha : u.state = .active) (hs : (s.station i).state = .idle)
      (hj : L → (s.station i).job = none) : Move L s (s.openAt i u by_)
  | openWalkup {s : State} {i : StationId} {a : Account} {w : Walkup} (hp : a.isPending)
      (ha : AccountsInOrder s → s.account a.number = some a) (hw : a.walkup = some w)
      (hi : w.station = i) (hs : (s.station i).state = .opening)
      (hj : L → (s.station i).job = none) : Move L s (s.openWalkup i a)
  | startWalkup {s : State} {i : StationId} {k : Token} (h : s.walkupAllowed i = true)
      (hs : (s.station i).state = .idle) (hk : k ≠ 0#64) (ht : s.tokenAccount k = none) :
      Move L s (s.startWalkup i k)
  | endWalkup {s : State} {a : Account} {w : Walkup} {i : StationId} (d : Display) (hp : a.isPending)
      (ha : AccountsInOrder s → s.account a.number = some a) (hw : a.walkup = some w)
      (hi : w.station = i) : Move L s (s.endWalkup a i d)
  | load {s : State} {f : LoadForm} {a : Account} (hf : f.asRecord = some a)
      (hn : s.account a.number = none) (hl : s.accounts.length < Config.maxAccounts)
      (hp : a.payer = none) : Move L s (s.addAccount a)
  | loadMember {s : State} {f : LoadForm} {a : Account} {p : Nat} (hf : f.asRecord = some a)
      (hn : s.account a.number = none) (hl : s.accounts.length < Config.maxAccounts)
      (hp : a.payer = some p) (hq : s.payerFault p = none) : Move L s ((s.addAccount a).addMember p)
  | movePayer {s : State} {f : UpdateForm} {a : Account} {p : Nat} (ha : s.account f.number = some a)
      (hv : f.valid a.kind = true) (hp : f.payer? = some p) (hj : a.openJobs = 0)
      (hq : s.payerFault p = none) :
      Move L s ((s.modifyAccount a.number f.applyTo).movePayer a.payer p)
  | remove {s : State} {n : Nat} {a : Account} (ha : s.account n = some a)
      (h : (a.kind = .transient ∧ a.state = .settled) ∨
        (a.kind ≠ .transient ∧ a.memberCount = 0 ∧ a.openJobs = 0)) : Move L s (s.removeAccount n)
  | bind {s : State} {k : Token} {n : Nat} {a : Account} (ha : s.account n = some a) (hk : k ≠ 0#64)
      (h : a.kind ≠ .transient) (ht : s.tokenAccount k = none)
      (hl : a.tokens.length < Config.maxTokensPerAccount) (hm : s.tokens.length < Config.maxTokens) :
      Move L s (s.bindToken k n)
  | unbind {s : State} {k : Token} {n : Nat} (ht : s.tokenAccount k = some n)
      (h : ∀ a, s.account n = some a → a.kind ≠ .transient) : Move L s (s.unbindToken k n)
  | reset {s t : State} (ha : t.accounts = []) (hk : t.tokens = [])
      (hs : ∀ i, (t.station i).job = none ∧ (t.station i).path = [] ∧ (t.station i).disputed = [])
      (hr : ReadersLaw t) (ht : TariffsLaw t) (hd : SchedulesLaw t) : Move L s t

/-- A run of moves. -/
def Moves (L : Prop) : State → State → Prop := Relation.ReflTransGen (Move L)

theorem Moves.refl (L : Prop) (s : State) : Moves L s s := Relation.ReflTransGen.refl

theorem Moves.trans {L : Prop} {s t u : State} (h : Moves L s t) (g : Moves L t u) : Moves L s u :=
  Relation.ReflTransGen.trans h g

theorem Move.run {L : Prop} {s t : State} (h : Move L s t) : Moves L s t :=
  Relation.ReflTransGen.single h

theorem Quiet.run {L : Prop} {s t : State} (h : Quiet L s t) : Moves L s t := (Move.quiet h).run

/-- What every move keeps, a run of moves keeps. -/
theorem Moves.keeps {L : Prop} {P : State → Prop} (hP : ∀ s t, Move L s t → P s → P t) {s t : State}
    (h : Moves L s t) (hs : P s) : P t := by
  induction h with
  | refl => exact hs
  | tail _ m ih => exact hP _ _ m ih

theorem Moves.foldl {L : Prop} {α : Type} (f : State → α → State) (hf : ∀ s a, Moves L s (f s a))
    (l : List α) (s : State) : Moves L s (l.foldl f s) := by
  induction l generalizing s with
  | nil => exact .refl L s
  | cons a l ih => exact (hf s a).trans (ih _)

/-! ### Quiet operations -/

variable {L : Prop}

theorem Quiet.refl (s : State) : Quiet L s s :=
  ⟨rfl, rfl, fun _ => .refl L _, fun _ h => h, id, id⟩

theorem Quiet.trans {s t u : State} (h : Quiet L s t) (g : Quiet L t u) : Quiet L s u :=
  ⟨g.accounts.trans h.accounts, g.tokens.trans h.tokens, fun i => (h.station i).trans (g.station i),
    fun i => g.reader i ∘ h.reader i, g.tariffs ∘ h.tariffs, g.schedules ∘ h.schedules⟩

/-- A change of parts that no law of the records reads. -/
theorem Quiet.of_parts {s t : State} (ha : t.accounts = s.accounts) (hk : t.tokens = s.tokens)
    (hs : t.stations = s.stations) (hr : t.readers = s.readers) (ht : t.tariffs = s.tariffs)
    (hd : t.schedules = s.schedules) : Quiet L s t :=
  ⟨ha, hk, fun i => by unfold State.station; rw [hs]; exact .refl L _,
    fun i h => by unfold State.reader at *; rw [hr]; exact h,
    fun h => by unfold TariffsLaw; rw [ht]; exact h, fun h => by unfold SchedulesLaw; rw [hd]; exact h⟩

theorem quiet_link (s : State) (l : Link) : Quiet L s { s with link := l } :=
  .of_parts rfl rfl rfl rfl rfl rfl

theorem quiet_retries (s : State) (l : List Nat) : Quiet L s { s with retryOwed := l } :=
  .of_parts rfl rfl rfl rfl rfl rfl

theorem quiet_modifyStation {s : State} {i : StationId} {f : Station → Station}
    (h : (s.station i).Follows L (f (s.station i))) : Quiet L s (s.modifyStation i f) :=
  ⟨rfl, rfl, fun k => by
    rw [State.station_modifyStation]
    split
    · next e => subst e; exact h
    · exact .refl L _, fun _ h => h, id, id⟩

theorem quiet_modifyJob (s : State) (i : StationId) {f : Job → Job} (hf : ∀ j, (f j).stake = j.stake) :
    Quiet L s (s.modifyJob i f) :=
  quiet_modifyStation (.of_fields rfl rfl rfl (stake_map_of hf _))

theorem quiet_modifyAlarms (s : State) (i : StationId) (f : StationAlarms → StationAlarms) :
    Quiet L s (s.modifyAlarms i f) :=
  quiet_modifyStation (.of_fields rfl rfl rfl rfl)

theorem quiet_modifyReader {s : State} {i : StationId} {f : Reader → Reader}
    (h : (s.reader i).inRange → (f (s.reader i)).inRange) : Quiet L s (s.modifyReader i f) :=
  ⟨rfl, rfl, fun _ => .refl L _, fun k => by
    rw [State.reader_modifyReader]
    split
    · next e => subst e; exact h
    · exact id, id, id⟩

theorem quiet_placeDisplay (s : State) (i : StationId) (d : Display) : Quiet L s (s.placeDisplay i d) :=
  quiet_modifyReader id

theorem quiet_drive (s : State) : Quiet L s s.drive :=
  ⟨rfl, rfl, fun i => by rw [State.station_drive]; exact .of_fields rfl rfl rfl rfl, fun _ h => h, id, id⟩

theorem quiet_restartIdle (s : State) (i : StationId) : Quiet L s (s.restartIdle i) := by
  rcases restartIdle_cases s i with ⟨_, e⟩ | ⟨_, _, e⟩ <;> rw [e]
  · exact quiet_modifyJob s i fun _ => rfl
  · exact .refl s

theorem quiet_enter {s : State} {i : StationId} {x : StationState}
    (h : L → (x = .opening ↔ (s.station i).state = .opening)) : Quiet L s (s.enter i x) :=
  quiet_modifyStation (.of_state h rfl rfl rfl)

theorem quiet_recordEnd (s : State) (i : StationId) (c : EndCause) : Quiet L s (s.recordEnd i c) :=
  quiet_modifyJob s i fun _ => rfl

theorem quiet_enterHeld {s : State} {i : StationId} (h : L → (s.station i).state ≠ .opening) :
    Quiet L s (s.enterHeld i) :=
  (quiet_enter fun l => by simp [h l]).trans (quiet_placeDisplay _ i _)

theorem quiet_enterRunning {s : State} {i : StationId} (h : L → (s.station i).state ≠ .opening) :
    Quiet L s (s.enterRunning i) :=
  (quiet_enter fun l => by simp [h l]).trans (quiet_placeDisplay _ i _)

theorem quiet_billSheet (s : State) (i : StationId) (x : Sheet) : Quiet L s (s.billSheet i x) :=
  (quiet_modifyJob s i (by intro; rfl)).trans (quiet_placeDisplay _ i _)

/-! ### Runs of the shared operations -/

theorem moves_coverTest (s : State) (i : StationId) : Moves L s (s.coverTest i).1 := by
  rcases coverTest_cases s i with e | e | ⟨j, hj, e⟩ <;> rw [e]
  · exact .refl L s
  · exact .refl L s
  · exact (Move.raiseHold _ hj).run

/-- A cover test leaves the state of its station. -/
theorem state_coverTest (s : State) (i : StationId) :
    ((s.coverTest i).1.station i).state = (s.station i).state := by
  obtain ⟨c, h⟩ := station_coverTest s i
  rw [h]

/-- The cover test, then RUNNING where it is passed. -/
theorem moves_coverRunning {s : State} {i : StationId} (h : L → (s.station i).state ≠ .opening) :
    Moves L s ((s.coverTest i).1.enterRunning i) :=
  (moves_coverTest s i).trans (quiet_enterRunning fun l => by rw [state_coverTest]; exact h l).run

theorem moves_coverHeld {s : State} {i : StationId} (h : L → (s.station i).state ≠ .opening) :
    Moves L s ((s.coverTest i).1.enterHeld i) :=
  (moves_coverTest s i).trans (quiet_enterHeld fun l => by rw [state_coverTest]; exact h l).run

theorem moves_coverAfterPricing (s : State) (i : StationId) : Moves L s (s.coverAfterPricing i) := by
  unfold State.coverAfterPricing
  split
  · next h =>
    split
    · exact moves_coverTest s i
    · exact moves_coverHeld fun _ => by simp [h]
  · next h =>
    split
    · exact moves_coverRunning fun _ => by simp [h]
    · exact (moves_coverTest s i).trans (quiet_placeDisplay _ i _).run
  · exact .refl L s

theorem moves_retryAt (n : Nat) (s : State) (i : StationId) : Moves L s (State.retryAt n s i) := by
  unfold State.retryAt
  split
  · next h =>
    split
    · exact moves_coverRunning fun _ => by simp [h.1]
    · exact moves_coverTest s i
  · exact .refl L s

theorem moves_retry (s : State) (n : Nat) : Moves L s (s.retry n) :=
  .foldl (State.retryAt n) (moves_retryAt n) allStations s

theorem moves_retryIfPresent (s : State) (n : Nat) : Moves L s (s.retryIfPresent n) := by
  unfold State.retryIfPresent
  split
  · exact moves_retry s n
  · exact .refl L s

/-- A change of the meter alone. -/
theorem Account.follows_withMeter (a : Account) (m : MeterFigure) : a.Follows (a.withMeter m) :=
  .of_fields rfl rfl rfl rfl rfl rfl (fun _ => rfl) rfl rfl rfl rfl

/-- A meter that is flagged exactly at its top. -/
def MeterFigure.sound (m : MeterFigure) : Prop :=
  m.value ≤ 16777215 ∧ (m.saturated = true ↔ m.value = 16777215)

theorem MeterFigure.sound_advance {m : MeterFigure} (h : m.sound) : m.advance.sound := by
  unfold MeterFigure.advance
  split
  · exact ⟨le_rfl, by simp [Config.meterTop]⟩
  · next hs =>
    have : m.value ≠ 16777215 := fun e => hs (h.2.2 e)
    have hl := h.1
    refine ⟨min_le_right _ _, ?_⟩
    rw [decide_eq_true_iff]
    show _ ↔ min _ 16777215 = 16777215
    simp only [Config.meterTop]
    omega

theorem MeterFigure.sound_advanceBy (n : Nat) {m : MeterFigure} (h : m.sound) : (m.advanceBy n).sound := by
  induction n generalizing m with
  | zero => exact h
  | succ n ih => exact ih (sound_advance h)

theorem MeterFigure.sound_withdraw (n : Nat) {m : MeterFigure} (h : m.sound) : (m.withdraw n).sound := by
  unfold MeterFigure.withdraw
  split
  · exact h
  · next hs =>
    have : m.value ≠ 16777215 := fun e => hs (h.2.2 e)
    have hl := h.1
    exact ⟨by simp only; omega, by simp only [Bool.false_eq_true, false_iff]; omega⟩

theorem Account.inRange_withMeter {a : Account} (h : a.inRange) {g : MeterFigure → MeterFigure}
    (hg : ∀ m, m.sound → (g m).sound) : (a.withMeter (g a.meterFigure)).inRange := by
  obtain ⟨h1, h2, h3, h4, h5, h6, h7, h8⟩ := h
  obtain ⟨g1, g2⟩ := hg a.meterFigure ⟨h5, h6⟩
  exact ⟨h1, h2, h3, h4, g1, g2, h7, h8⟩

/-- A meter advanced or withdrawn is a move. -/
theorem move_meter (s : State) (n : Nat) {g : MeterFigure → MeterFigure}
    (hg : ∀ m, m.sound → (g m).sound) :
    Move L s (s.modifyAccount n fun a => a.withMeter (g a.meterFigure)) := by
  refine .accounts _ (fun a => ?_) (fun _ a _ => ?_) (fun _ _ a _ h => ?_) <;> split
  · rfl
  · rfl
  · exact a.follows_withMeter _
  · exact .refl a
  · exact a.inRange_withMeter h hg
  · exact h

theorem moves_forceHold {s : State} {i : StationId} {j : Job} (x : Nat) (hj : (s.station i).job = some j) :
    Moves L s (s.forceHold i j x) := by
  unfold State.forceHold
  split
  · exact (Move.raiseHold _ hj).run.trans
      ((quiet_modifyJob _ i (by intro; rfl)).trans (quiet_modifyAlarms _ i _)).run
  · exact .refl L s

theorem moves_priceSheet {s : State} {i : StationId} {j : Job} (c : SheetClass)
    (hj : (s.station i).job = some j) : Moves L s (s.priceSheet i j c) :=
  (moves_forceHold _ hj).trans
    ((move_meter _ j.billing (g := MeterFigure.advanceBy _) fun _ h => MeterFigure.sound_advanceBy _ h).run.trans
      (quiet_modifyJob _ i (by intro; rfl)).run)

theorem moves_voidSheet (i : StationId) (s : State) (x : Sheet) : Moves L s (State.voidSheet i s x) := by
  cases hj : (s.station i).job with
  | none =>
    have e : State.voidSheet i s x = s := by unfold State.voidSheet; rw [hj]
    rw [e]; exact .refl L s
  | some j =>
    rw [voidSheet_eq hj]
    exact (move_meter s j.billing (g := fun m => m.withdraw x.impressions)
      fun _ h => MeterFigure.sound_withdraw _ h).run.trans (quiet_modifyJob _ i (by intro; rfl)).run

/-- A station whose lists lose sheets. -/
theorem quiet_lessSheets {s : State} {i : StationId} {f : Station → Station}
    (hs : (f (s.station i)).state = (s.station i).state) (hj : (f (s.station i)).job = (s.station i).job)
    (hp : (f (s.station i)).path.Sublist (s.station i).path)
    (hd : (f (s.station i)).disputed.Sublist (s.station i).disputed) :
    Quiet L s (s.modifyStation i f) :=
  quiet_modifyStation ⟨by rw [hj], fun _ => by rw [hs],
    fun h => (Nat.add_le_add hp.length_le hd.length_le).trans h,
    fun h x hx => h x ((hp.append hd).subset hx)⟩

theorem moves_voidDisputed (s : State) (i : StationId) : Moves L s (s.voidDisputed i) := by
  unfold State.voidDisputed
  exact (Moves.foldl (State.voidSheet i) (moves_voidSheet i) _ s).trans
    (quiet_lessSheets rfl rfl (List.Sublist.refl _) (List.nil_sublist _)).run

theorem moves_voidPath (s : State) (i : StationId) : Moves L s (s.voidPath i) := by
  unfold State.voidPath
  exact (Moves.foldl (State.voidSheet i) (moves_voidSheet i) _ s).trans
    (quiet_lessSheets rfl rfl (List.nil_sublist _) (List.Sublist.refl _)).run

theorem moves_settle {s : State} {i : StationId} {dest : StationState}
    (ho : L → (s.station i).state ≠ .opening) (hd : dest ≠ .opening) : Moves L s (s.settle i dest) := by
  cases hj : (s.station i).job with
  | none =>
    have e : s.settle i dest = s := by unfold State.settle; rw [hj]
    rw [e]; exact .refl L s
  | some j =>
    rw [settle_eq hj]
    exact (Move.settle hj ho hd).run.trans (moves_retryIfPresent _ _)

theorem moves_enterClosing {s : State} {i : StationId} (ho : L → (s.station i).state ≠ .opening) :
    Moves L s (s.enterClosing i) := by
  have h1 : Quiet L s ((s.enter i .closing).modifyJob i fun j => { j with idleTimer := none }) :=
    (quiet_enter fun l => by simp [ho l]).trans (quiet_modifyJob _ i (by intro; rfl))
  unfold State.enterClosing
  dsimp only
  split
  · exact h1.run.trans (moves_settle (fun _ => by simp) (by simp))
  · exact h1.run.trans (quiet_modifyStation (.of_fields rfl rfl rfl rfl)).run

theorem moves_requestEnd (s : State) (i : StationId) (c : EndCause) : Moves L s (s.requestEnd i c) := by
  have h1 : Moves L s (s.recordEnd i c) := (quiet_recordEnd s i c).run
  have hs : ((s.recordEnd i c).station i).state = (s.station i).state := by simp [State.recordEnd]
  unfold State.requestEnd
  dsimp only
  split
  · next h => exact h1.trans (moves_enterClosing fun _ => by simp [hs, h])
  · next h => exact h1.trans (moves_enterClosing fun _ => by simp [hs, h])
  · exact h1

end Sys2Proof.Machine
end

section
/-! SUPPORT. Every command of the table, and every step, as a run of moves. -/

namespace Sys2Proof.Machine

variable {L : Prop}

/-! ### Jams and station reset -/

theorem quiet_jamEntry {s : State} {i : StationId} (c : JamCause)
    (ho : L → (s.station i).state ≠ .opening) : Quiet L s (s.jamEntry i c) := by
  unfold State.jamEntry
  refine (quiet_modifyStation ⟨rfl, fun l => by simp [ho l], fun h => ?_, fun h x hx => ?_⟩).trans
    ((quiet_modifyJob _ i (by intro; rfl)).trans (quiet_placeDisplay _ i _))
  · unfold Station.roomy at *
    simp only [List.length_nil, List.length_append]
    omega
  · refine h x ?_
    simp only [List.nil_append, List.mem_append] at hx ⊢
    exact hx.symm

/-- A cleared jam keeps the station out of OPENING. -/
theorem moves_resumeAfterJam {s : State} {i : StationId} (ho : L → (s.station i).state ≠ .opening) :
    Moves L s (s.resumeAfterJam i) := by
  unfold State.resumeAfterJam
  dsimp only
  split
  · exact (moves_coverRunning ho).trans (quiet_restartIdle _ i).run
  · exact (moves_coverHeld ho).trans (quiet_restartIdle _ i).run

theorem state_voidSheet (i : StationId) (s : State) (x : Sheet) :
    ((State.voidSheet i s x).station i).state = (s.station i).state := by
  cases hj : (s.station i).job with
  | none =>
    have e : State.voidSheet i s x = s := by unfold State.voidSheet; rw [hj]
    rw [e]
  | some j => rw [voidSheet_eq hj, State.station_modifyJob_self]; rfl

theorem state_voidSheets (i : StationId) (xs : List Sheet) (s : State) :
    ((xs.foldl (State.voidSheet i) s).station i).state = (s.station i).state := by
  induction xs generalizing s with
  | nil => rfl
  | cons x xs ih => exact (ih _).trans (state_voidSheet i s x)

theorem state_voidDisputed (s : State) (i : StationId) :
    ((s.voidDisputed i).station i).state = (s.station i).state := by
  unfold State.voidDisputed
  rw [State.station_modifyStation_self]
  exact state_voidSheets i _ s

theorem state_voidPath (s : State) (i : StationId) :
    ((s.voidPath i).station i).state = (s.station i).state := by
  unfold State.voidPath
  rw [State.station_modifyStation_self]
  exact state_voidSheets i _ s

/-- The disputed sheets voided, jam timer and jam cause gone (R130, R132). -/
theorem moves_voidedJam (s : State) (i : StationId) :
    Moves L s ((s.voidDisputed i).modifyStation i fun st => { st with jamTimer := none, jamCause := none }) :=
  (moves_voidDisputed s i).trans (quiet_modifyStation (.of_fields rfl rfl rfl rfl)).run

theorem moves_jamClear {s : State} {i : StationId} (ho : L → (s.station i).state ≠ .opening) :
    Moves L s (s.jamClear i) := by
  have h2 := (moves_voidedJam (L := L) s i).trans
    (quiet_placeDisplay _ i (.jamCleared (s.station i).disputed.length)).run
  unfold State.jamClear
  dsimp only
  split
  · refine h2.trans (moves_resumeAfterJam fun l => ?_)
    simpa [state_voidDisputed] using ho l
  · refine h2.trans (moves_enterClosing fun l => ?_)
    simpa [state_voidDisputed] using ho l

theorem moves_jamTimedOut {s : State} {i : StationId} (ho : L → (s.station i).state ≠ .opening) :
    Moves L s (s.jamTimedOut i) := by
  unfold State.jamTimedOut
  refine (moves_voidedJam s i).trans ((quiet_recordEnd _ i .jamTimeout).run.trans
    ((moves_settle (fun l => ?_) (by simp)).trans
      ((quiet_modifyAlarms _ i _).trans (quiet_placeDisplay _ i _)).run))
  simpa [State.recordEnd, state_voidDisputed] using ho l

theorem moves_resetJob {s : State} {i : StationId} (ho : L → (s.station i).state ≠ .opening) :
    Moves L s (s.resetJob i) := by
  have h1 : Quiet L s (s.modifyStation i fun st =>
      { st with drainTimer := none, jamTimer := none, jamCause := none }) :=
    quiet_modifyStation (.of_fields rfl rfl rfl rfl)
  unfold State.resetJob
  refine h1.run.trans ((moves_voidDisputed _ i).trans ((moves_voidPath _ i).trans
    ((quiet_recordEnd _ i .stationReset).run.trans (moves_settle (fun l => ?_) (by simp)))))
  simpa [State.recordEnd, state_voidDisputed, state_voidPath] using ho l

/-! ### Feeds and exits -/

theorem quiet_startPermitDelay (s : State) (i : StationId) : Quiet L s (s.startPermitDelay i) := by
  unfold State.startPermitDelay
  split
  · exact .refl s
  · exact quiet_modifyStation (.of_fields rfl rfl rfl rfl)

/-- The permit delay leaves what a feed looks at. -/
theorem station_startPermitDelay (s : State) (i : StationId) :
    ((s.startPermitDelay i).station i).state = (s.station i).state ∧
      ((s.startPermitDelay i).station i).job = (s.station i).job ∧
      ((s.startPermitDelay i).station i).path = (s.station i).path ∧
      ((s.startPermitDelay i).station i).disputed = (s.station i).disputed ∧
      ((s.startPermitDelay i).station i).config = (s.station i).config := by
  unfold State.startPermitDelay
  split <;> simp

theorem quiet_unauthorisedFeed (s : State) (i : StationId) : Quiet L s (s.unauthorisedFeed i) :=
  quiet_modifyStation (.of_fields rfl rfl rfl rfl)

theorem quiet_unpricedFeed (s : State) (i : StationId) : Quiet L s (s.unpricedFeed i) :=
  quiet_modifyJob s i (by intro; rfl)

theorem quiet_strayExitOfStation (s : State) (i : StationId) : Quiet L s (s.strayExitOfStation i) :=
  quiet_modifyStation (.of_fields rfl rfl rfl rfl)

theorem quiet_strayExitOfJob (s : State) (i : StationId) : Quiet L s (s.strayExitOfJob i) := by
  unfold State.strayExitOfJob
  exact (quiet_modifyJob s i (by intro; rfl)).trans (quiet_modifyAlarms _ i _)

theorem quiet_pathOverflow {s : State} {i : StationId} (ho : L → (s.station i).state ≠ .opening) :
    Quiet L s (s.pathOverflow i) := by
  unfold State.pathOverflow
  refine (quiet_unpricedFeed s i).trans ((quiet_modifyAlarms _ i _).trans (quiet_jamEntry _ fun l => ?_))
  simpa [State.unpricedFeed, State.modifyAlarms] using ho l

theorem SheetClass.impressions_bounds (c : SheetClass) : 1 ≤ c.impressions ∧ c.impressions ≤ 2 := by
  unfold SheetClass.impressions
  split <;> omega

/-- A sheet queued where there is room, or billed. -/
theorem quiet_queueOrBill {s : State} {i : StationId} {x : Sheet} (hf : (s.station i).pathIsFull = false)
    (hx : 1 ≤ x.impressions ∧ x.impressions ≤ 2) : Quiet L s (s.queueOrBill i x) := by
  rcases queueOrBill_cases s i x with ⟨hm, e⟩ | ⟨_, e⟩ <;> rw [e]
  · refine quiet_modifyStation ⟨rfl, fun _ => Iff.rfl, fun _ => ?_, fun h y hy => ?_⟩
    · unfold Station.pathIsFull at hf
      simp only [hm, beq_self_eq_true, Bool.true_and, decide_eq_false_iff_not] at hf
      unfold Station.roomy
      simp only [List.length_append, List.length_cons, List.length_nil]
      omega
    · simp only [List.mem_append, List.mem_singleton] at hy
      rcases hy with (hy | rfl) | hy
      · exact h y (List.mem_append_left _ hy)
      · exact hx
      · exact h y (List.mem_append_right _ hy)
  · exact quiet_billSheet s i x

theorem moves_pricingRequest {s : State} {i : StationId} (hf : (s.station i).pathIsFull = false) :
    Moves L s (s.pricingRequest i) := by
  unfold State.pricingRequest
  split
  · exact .refl L s
  · next j hj =>
    refine (moves_priceSheet _ hj).trans ((quiet_queueOrBill ?_ ?_).run.trans
      ((quiet_restartIdle _ i).run.trans (moves_coverAfterPricing _ i)))
    · rw [station_priceSheet _ _ _ _ hj]; exact hf
    · exact SheetClass.impressions_bounds _

theorem moves_feedWithJob {s : State} {i : StationId} (ho : L → (s.station i).state ≠ .opening) :
    Moves L s (s.feedWithJob i) := by
  unfold State.feedWithJob
  split
  · exact (quiet_pathOverflow ho).run
  · next h => exact moves_pricingRequest (by simpa using h)

theorem moves_completedFeed (s : State) (i : StationId) : Moves L s (s.completedFeed i) := by
  have h1 : Moves L s (s.startPermitDelay i) := (quiet_startPermitDelay s i).run
  have hs := (station_startPermitDelay s i).1
  have ho : ∀ x, (s.station i).state = x → x ≠ .opening →
      L → ((s.startPermitDelay i).station i).state ≠ .opening := fun x e n _ => by rw [hs, e]; exact n
  unfold State.completedFeed
  dsimp only
  split
  · exact h1.trans (quiet_unauthorisedFeed _ i).run
  · exact h1.trans (quiet_unauthorisedFeed _ i).run
  · exact h1.trans (quiet_unauthorisedFeed _ i).run
  · exact h1.trans (quiet_unauthorisedFeed _ i).run
  · next h => exact h1.trans (moves_feedWithJob (ho _ h (by simp)))
  · next h => exact h1.trans (moves_feedWithJob (ho _ h (by simp)))
  · next h => exact h1.trans (moves_feedWithJob (ho _ h (by simp)))
  · exact h1.trans (quiet_unpricedFeed _ i).run

theorem quiet_exitFromPath (s : State) (i : StationId) : Quiet L s (s.exitFromPath i) := by
  unfold State.exitFromPath
  split
  · exact quiet_strayExitOfJob s i
  · next x rest h =>
    refine (quiet_lessSheets rfl rfl ?_ (List.Sublist.refl _)).trans (quiet_billSheet _ i x)
    rw [h]; exact List.sublist_cons_self x rest

theorem quiet_exitFromDisputed (s : State) (i : StationId) : Quiet L s (s.exitFromDisputed i) := by
  unfold State.exitFromDisputed
  split
  · exact quiet_strayExitOfJob s i
  · next x rest h =>
    refine (quiet_lessSheets rfl rfl (List.Sublist.refl _) ?_).trans (quiet_billSheet _ i x)
    rw [h]; exact List.sublist_cons_self x rest

theorem state_exitFromPath (s : State) (i : StationId) :
    ((s.exitFromPath i).station i).state = (s.station i).state := by
  unfold State.exitFromPath
  split
  · simp [State.strayExitOfJob, State.modifyAlarms]
  · simp [State.billSheet, State.placeCharge]

theorem moves_exitInClosing {s : State} {i : StationId} (ho : L → (s.station i).state ≠ .opening) :
    Moves L s (s.exitInClosing i) := by
  have h1 : Moves L s (s.exitFromPath i) := (quiet_exitFromPath s i).run
  unfold State.exitInClosing
  dsimp only
  split
  · refine h1.trans ((quiet_modifyStation (.of_fields rfl rfl rfl rfl)).run.trans
      (moves_settle (fun l => ?_) (by simp)))
    simpa [state_exitFromPath] using ho l
  · exact h1

theorem moves_completedExit (s : State) (i : StationId) : Moves L s (s.completedExit i) := by
  unfold State.completedExit
  split
  · exact ((quiet_exitFromPath s i).trans (quiet_restartIdle _ i)).run
  · exact ((quiet_exitFromPath s i).trans (quiet_restartIdle _ i)).run
  · next h => exact moves_exitInClosing fun _ => by simp [h]
  · exact (quiet_exitFromDisputed s i).run
  all_goals exact (quiet_strayExitOfStation s i).run

/-! ### Pulses and lines -/

theorem moves_feedPulse (s : State) (i : StationId) : Moves L s (s.feedPulse i) := by
  have h1 : Quiet L s (s.modifyStation i fun st =>
      { st with feedCounter := (countPulse (s.station i).feedCounter (s.station i).config.divisor).1 }) :=
    quiet_modifyStation (.of_fields rfl rfl rfl rfl)
  unfold State.feedPulse
  dsimp only
  split
  · exact .refl L s
  · split
    · exact h1.run.trans (moves_completedFeed _ i)
    · exact h1.run

theorem moves_exitPulse (s : State) (i : StationId) : Moves L s (s.exitPulse i) := by
  have h1 : Quiet L s (s.modifyStation i fun st =>
      { st with exitCounter := (countPulse (s.station i).exitCounter (s.station i).config.divisor).1 }) :=
    quiet_modifyStation (.of_fields rfl rfl rfl rfl)
  unfold State.exitPulse
  dsimp only
  split
  · exact .refl L s
  · split
    · exact h1.run.trans (moves_completedExit _ i)
    · exact h1.run
  · split
    · exact h1.run.trans (moves_completedFeed _ i)
    · exact h1.run

theorem quiet_jamActivation (s : State) (i : StationId) : Quiet L s (s.jamActivation i) := by
  unfold State.jamActivation
  split
  · next h => exact quiet_jamEntry _ fun _ => by simp [h]
  · next h => exact quiet_jamEntry _ fun _ => by simp [h]
  · next h => exact quiet_jamEntry _ fun _ => by simp [h]
  · exact .refl s

theorem moves_jamRelease (s : State) (i : StationId) : Moves L s (s.jamRelease i) := by
  unfold State.jamRelease
  split
  · next h => exact moves_jamClear fun _ => by simp [h.1]
  · exact .refl L s

theorem moves_lineEdge (s : State) (i : StationId) (l : FilteredLine) (a : Bool) :
    Moves L s (s.lineEdge i l a) := by
  unfold State.lineEdge
  split
  · exact .refl L s
  · split
    · exact moves_feedPulse s i
    · exact .refl L s
  · split
    · exact moves_exitPulse s i
    · exact .refl L s
  · split
    · exact (quiet_jamActivation s i).run
    · exact moves_jamRelease s i

theorem moves_filterExpiry (s : State) (i : StationId) (l : FilteredLine) :
    Moves L s (s.filterExpiry i l) := by
  have h1 : Moves L s (s.modifyStation i fun st => st.follow l) :=
    (quiet_modifyStation (.of_fields rfl rfl rfl rfl)).run
  unfold State.filterExpiry
  dsimp only
  split
  · exact .refl L s
  · split
    · exact h1
    · exact h1.trans (moves_lineEdge _ i l _)

theorem Station.follows_levelChange (st : Station) (l : InputLine) (high : Bool) :
    st.Follows L (st.levelChange l high) := by
  unfold Station.levelChange
  dsimp only
  split <;> exact .of_fields rfl rfl rfl rfl

theorem moves_idleExpiry (s : State) (i : StationId) : Moves L s (s.idleExpiry i) := by
  unfold State.idleExpiry
  split
  · exact .refl L s
  · exact (quiet_modifyJob s i (by intro; rfl)).run.trans (moves_requestEnd _ i _)

/-! ### Walk-ups -/

/-- In a table in order, a record of the table is the one its number finds. -/
theorem account_of_mem {s : State} (h : AccountsInOrder s) {a : Account} (ha : a ∈ s.accounts) :
    s.account a.number = some a := by
  unfold AccountsInOrder at h
  unfold State.account
  generalize s.accounts = l at h ha
  induction l with
  | nil => cases ha
  | cons b l ih =>
    rw [List.map_cons, List.pairwise_cons] at h
    rcases List.mem_cons.1 ha with rfl | ha
    · simp
    · have hb := h.1 a.number (List.mem_map_of_mem ha)
      rw [List.find?_cons_of_neg (by simp; omega)]
      exact ih h.2 ha

theorem moves_requestWalkup {s : State} {i : StationId} {k : Token} (hs : (s.station i).state = .idle)
    (hk : k ≠ 0#64) (ht : s.tokenAccount k = none) : Moves L s (s.requestWalkup i k) := by
  unfold State.requestWalkup
  split
  · next h => exact (Move.startWalkup h hs hk ht).run
  · exact (quiet_placeDisplay s i _).run

/-- A found walk-up is a PENDING record of the table whose walk-up is at the station. -/
theorem walkupOf_some {s : State} {i : StationId} {a : Account} (h : s.walkupOf i = some a) :
    a ∈ s.accounts ∧ a.isPending ∧ ∃ w, a.walkup = some w ∧ w.station = i := by
  have h1 := List.find?_some h
  simp only [Bool.and_eq_true, beq_iff_eq, Option.map_eq_some_iff] at h1
  exact ⟨List.mem_of_find?_eq_some h, h1.1, h1.2⟩

theorem moves_cancelWalkup (s : State) (i : StationId) : Moves L s (s.cancelWalkup i) := by
  cases h : s.walkupOf i with
  | none =>
    have e : s.cancelWalkup i = s := by unfold State.cancelWalkup; rw [h]
    rw [e]; exact .refl L s
  | some a =>
    obtain ⟨hm, hp, w, hw, hi⟩ := walkupOf_some h
    rw [cancelWalkup_eq h]
    exact (Move.endWalkup _ hp (fun o => account_of_mem o hm) hw hi).run

theorem moves_authExpiry (s : State) (n : Nat) : Moves L s (s.authExpiry n) := by
  unfold State.authExpiry
  split
  · exact .refl L s
  · next a ha =>
    split
    · next w hp hw =>
      split
      · exact .refl L s
      · exact (Move.endWalkup _ hp (fun o => account_of_mem o (State.account_mem s ha)) hw rfl).run
    · exact .refl L s

/-! ### Reader events -/

/-- Every opening check passed (Table 3-2). -/
theorem openingCheck_none {s : State} {i : StationId} {u : Account} {b : Bool}
    (h : s.openingCheck i u b = none) :
    (s.station i).state = (if b then .opening else .idle) ∧ (s.tariffOf i).isDefined = true ∧
      (u.state = .active ∨ (b = true ∧ u.inApproval = true)) ∧
      (s.billingAccount u).any Account.isBarred = false ∧
      ((s.tariffOf i).startThreshold : Int) ≤ s.available u := by
  unfold State.openingCheck at h
  by_cases h1 : (s.station i).state = if b then .opening else .idle
  · rw [if_neg (not_not.2 h1)] at h
    split_ifs at h with h2 h3 h4 h5
    exact ⟨h1, by simpa using h2, by simpa [or_iff_not_imp_left] using h3, by simpa using h4, not_lt.1 h5⟩
  · rw [if_pos h1] at h
    cases h

theorem moves_cardOpens {s : State} {i : StationId} {n : Nat} {u : Account} (k : Token)
    (hu : s.account n = some u) (hj : L → (s.station i).state = .idle → (s.station i).job = none) :
    Moves L s (s.cardOpens i k u) := by
  unfold State.cardOpens
  split
  · exact (quiet_placeDisplay s i _).run
  · next h =>
    obtain ⟨hs, _, ha, _⟩ := openingCheck_none h
    refine (Move.openJob .reader hu ?_ hs fun l => hj l hs).run.trans
      (quiet_modifyStation (.of_fields rfl rfl rfl rfl)).run
    simpa using ha

theorem moves_cardAtIdle {s : State} {i : StationId} {k : Token} (kind : CardKind)
    (hs : (s.station i).state = .idle) (hk : k ≠ 0#64)
    (hj : L → (s.station i).state = .idle → (s.station i).job = none) :
    Moves L s (s.cardAtIdle i k kind) := by
  unfold State.cardAtIdle
  split
  · next ht =>
    unfold State.unknownCard
    split
    · exact moves_requestWalkup hs hk ht
    · exact (quiet_placeDisplay s i _).run
  · split
    · exact (quiet_placeDisplay s i _).run
    · next u hu =>
      unfold State.knownCard
      split
      · exact (quiet_placeDisplay s i _).run
      · exact moves_cardOpens k hu hj

theorem moves_ownCardRunning (s : State) (i : StationId) (k : Token) :
    Moves L s (s.ownCardRunning i k) := by
  unfold State.ownCardRunning
  split
  · exact .refl L s
  · split
    · exact moves_requestEnd s i _
    · exact (quiet_placeDisplay s i _).run

theorem moves_cardInSession (s : State) (i : StationId) (k : Token) : Moves L s (s.cardInSession i k) := by
  unfold State.cardInSession
  split
  · unfold State.ownCard
    split
    · exact (quiet_placeDisplay s i _).run
    · exact moves_ownCardRunning s i k
    · exact moves_ownCardRunning s i k
    · exact (quiet_placeDisplay s i _).run
    · exact .refl L s
  · exact (quiet_placeDisplay s i _).run

theorem moves_cardEvent {s : State} {i : StationId} {k : Token} (kind : CardKind) (x : SessionStyle)
    (hk : k ≠ 0#64) (hj : L → (s.station i).state = .idle → (s.station i).job = none) :
    Moves L s (s.cardEvent i k kind x) := by
  unfold State.cardEvent
  dsimp only
  split_ifs with _ _ hs
  · exact (quiet_placeDisplay s i _).run
  · exact (quiet_placeDisplay s i _).run
  · exact moves_cardAtIdle kind hs hk hj
  · exact moves_cardInSession s i k

theorem moves_sessionCardOut (s : State) (i : StationId) : Moves L s (s.sessionCardOut i) := by
  unfold State.sessionCardOut
  split
  · exact moves_requestEnd s i _
  · exact .refl L s

theorem moves_cardOutEvent (s : State) (i : StationId) : Moves L s (s.cardOutEvent i) := by
  unfold State.cardOutEvent
  split
  · exact .refl L s
  · split
    · exact moves_cancelWalkup s i
    · exact moves_sessionCardOut s i
    · exact moves_sessionCardOut s i
    · exact moves_sessionCardOut s i
    · exact .refl L s

theorem moves_keyEvent (s : State) (i : StationId) (k : Key) : Moves L s (s.keyEvent i k) := by
  unfold State.keyEvent
  split
  · exact moves_cancelWalkup s i
  · exact moves_requestEnd s i _
  · exact moves_requestEnd s i _
  · exact moves_requestEnd s i _
  · exact .refl L s

/-- The event carries no all-zero token, as every event of a judged answer (R147). -/
def ReaderEvent.sound (e : ReaderEvent) : Prop := ∀ k kind x, e = .card k kind x → k ≠ 0#64

theorem moves_readerEvent {s : State} {i : StationId} {e : ReaderEvent} (he : e.sound)
    (hj : L → (s.station i).state = .idle → (s.station i).job = none) :
    Moves L s (s.readerEvent i e) := by
  have h1 : Moves L s (s.restartIdle i) := (quiet_restartIdle s i).run
  unfold State.readerEvent
  dsimp only
  split
  · exact .refl L s
  · cases e with
    | card k kind x =>
      refine h1.trans (moves_cardEvent kind x (he k kind x rfl) fun l => ?_)
      rcases restartIdle_cases s i with ⟨_, e⟩ | ⟨_, _, e⟩ <;> rw [e]
      · rw [State.station_modifyJob_self]
        intro hs
        simp [hj l hs]
      · exact hj l
    | cardOut => exact h1.trans (moves_cardOutEvent _ i)
    | key k => exact h1.trans (moves_keyEvent _ i k)

/-- A payload that spells a card spells no all-zero token (R147). -/
theorem payloadEvent_sound {h : BitVec 16} {p : List Byte} {e : ReaderEvent}
    (he : payloadEvent h p = some (some e)) : e.sound := by
  intro k kind x hk
  subst hk
  unfold payloadEvent at he
  split at he
  · dsimp only at he
    split at he
    case h_5 => cases he
    all_goals
      next h0 _ _ =>
      simp only [Option.some.injEq, ReaderEvent.card.injEq] at he
      rw [← he.1]
      simpa using h0
  · cases he
  · split at he <;> cases he
  · cases he

theorem contentCheck_event {i : StationId} {h : BitVec 16} {p : List Byte} {f : List ErrorCounter}
    {e : ReaderEvent} (he : (contentCheck i h p f).event = some e) : payloadEvent h p = some (some e) := by
  unfold contentCheck at he
  dsimp only at he
  split at he
  · cases he
  · cases hp : payloadEvent h p with
    | none => rw [hp] at he; cases he
    | some o => rw [hp] at he; rw [← he]; rfl

theorem judgeAnswer_sound {i : StationId} {strict : Bool} {frame : List Byte} {e : ReaderEvent}
    (he : (judgeAnswer i strict frame).event = some e) : e.sound := by
  unfold judgeAnswer at he
  dsimp only at he
  split_ifs at he
  · exact payloadEvent_sound (contentCheck_event he)

/-! ### Readers and the bus -/

theorem Reader.inRange_countOn {r : Reader} (h : r.inRange) (c : ErrorCounter) : (r.countOn c).inRange := by
  obtain ⟨h1, h2, h3, h4, h5⟩ := h
  cases c <;>
    simp only [Reader.countOn, Reader.inRange, satAdd, Config.errorCounterTop, min_le_iff, le_refl,
      or_true, and_true, true_and] <;> omega

theorem Reader.inRange_countFaults {r : Reader} (h : r.inRange) (cs : List ErrorCounter) :
    (r.countFaults cs).inRange := by
  unfold Reader.countFaults
  induction cs generalizing r with
  | nil => exact h
  | cons c cs ih =>
    refine ih ?_
    unfold Reader.countFault
    split
    · exact Reader.inRange_countOn h c
    · exact h

theorem Reader.inRange_applyOutcome {r : Reader} (h : r.inRange) (good : Bool) :
    (r.applyOutcome good).inRange := by
  obtain ⟨h1, h2, h3, h4, h5⟩ := h
  unfold Reader.applyOutcome
  (repeat' split) <;> exact ⟨by simp only; omega, h2, h3, h4, h5⟩

theorem Reader.inRange_judged {r : Reader} (h : r.inRange) (good : Bool) (cs : List ErrorCounter) :
    (r.judged good cs).inRange :=
  Reader.inRange_applyOutcome (Reader.inRange_countFaults h cs) good

/-- A reader whose counts are at 0 or as they were. -/
theorem Reader.inRange_of_fields {r q : Reader} (h : r.inRange)
    (hc : q.consecutive = 0 ∨ q.consecutive = r.consecutive) (h1 : q.hdrCorrected = r.hdrCorrected)
    (h2 : q.hdrBad = r.hdrBad) (h3 : q.crcBad = r.crcBad) (h4 : q.noAnswer = r.noAnswer) : q.inRange := by
  obtain ⟨g1, g2, g3, g4, g5⟩ := h
  exact ⟨by rcases hc with e | e <;> rw [e] <;> omega, h1 ▸ g2, h2 ▸ g3, h3 ▸ g4, h4 ▸ g5⟩

theorem quiet_bus (s : State) (b : Bus) : Quiet L s { s with bus := b } := .of_parts rfl rfl rfl rfl rfl rfl

/-- Every reader changed within its range, and the bus. -/
theorem quiet_readers (s : State) {f : StationId → Reader → Reader} (b : Bus)
    (hf : ∀ i r, r.inRange → (f i r).inRange) :
    Quiet L s { s with readers := mapSixteen f s.readers, bus := b } :=
  ⟨rfl, rfl, fun _ => .refl L _, fun i h => by
    show Reader.inRange (mapSixteen f s.readers)[i]
    rw [mapSixteen_get]
    exact hf i _ h, id, id⟩

theorem quiet_startPeriod (s : State) : Quiet L s s.startPeriod := by
  refine quiet_readers s _ fun i r h => ?_
  unfold Reader.atPeriodStart
  split
  · exact h
  · exact Reader.inRange_of_fields h (.inl rfl) rfl rfl rfl rfl
  · exact h

theorem quiet_resetBus (s : State) : Quiet L s s.resetBus := by
  unfold State.resetBus
  exact (quiet_readers s (f := fun _ r => r.busReset) _ fun _ _ h =>
    Reader.inRange_of_fields h (.inl rfl) rfl rfl rfl rfl).trans (quiet_startPeriod _)

theorem quiet_beginSlot (s : State) (r : StationId) (rest : List StationId) :
    Quiet L s (s.beginSlot r rest) := by
  unfold State.beginSlot
  split
  · exact (quiet_modifyReader (f := fun x => { x with displayReplaced := false }) id).trans (quiet_bus _ _)
  · exact quiet_bus s _

theorem quiet_nextSlot (s : State) : Quiet L s s.nextSlot := by
  unfold State.nextSlot
  split
  · exact quiet_beginSlot s _ _
  · exact .refl s

theorem quiet_broadcastEnd (s : State) : Quiet L s s.broadcastEnd := by
  unfold State.broadcastEnd
  split
  · exact quiet_bus s _
  · exact .refl s

theorem quiet_displayEnd (s : State) (d : Bool) : Quiet L s (s.displayEnd d) := by
  unfold State.displayEnd
  split
  · next r _ _ =>
    refine (quiet_modifyReader (i := r) (f := fun x => x.afterDisplay d) fun h => ?_).trans (quiet_bus _ _)
    unfold Reader.afterDisplay
    split
    · exact Reader.inRange_of_fields h (.inr rfl) rfl rfl rfl rfl
    · exact h
  · exact .refl s

theorem quiet_noAnswer (s : State) (r : StationId) : Quiet L s (s.noAnswer r) :=
  quiet_modifyReader fun h => Reader.inRange_judged h _ _

theorem quiet_pollEnd (s : State) (a : Bool) : Quiet L s (s.pollEnd a) := by
  unfold State.pollEnd
  split
  · split
    · exact quiet_bus s _
    · exact (quiet_noAnswer s _).trans (quiet_bus _ _)
  · exact .refl s

theorem quiet_limitReached (s : State) : Quiet L s s.limitReached := by
  unfold State.limitReached
  split
  · exact (quiet_noAnswer s _).trans ((quiet_bus _ _).trans (quiet_bus _ _))
  · exact .refl s

theorem moves_takeAnswer {s : State} {r : StationId} (frame : List Byte)
    (hj : L → (s.station r).state = .idle → (s.station r).job = none) :
    Moves L s (s.takeAnswer r frame) := by
  have h1 : Moves L s (s.modifyReader r fun x => x.judged
      (judgeAnswer r (s.reader r).strictHeader frame).good
      (judgeAnswer r (s.reader r).strictHeader frame).faults) :=
    (quiet_modifyReader fun h => Reader.inRange_judged h _ _).run
  unfold State.takeAnswer
  dsimp only
  split
  · next e _ he _ => exact h1.trans (moves_readerEvent (judgeAnswer_sound he) hj)
  · exact h1

theorem moves_answerTaken {s : State} (frame : List Byte)
    (hj : L → ∀ r, (s.station r).state = .idle → (s.station r).job = none) :
    Moves L s (s.answerTaken frame) := by
  unfold State.answerTaken
  split
  · next r _ _ => exact (moves_takeAnswer frame fun l => hj l r).trans (quiet_bus _ _).run
  · exact .refl L s

end Sys2Proof.Machine
end

section
/-! SUPPORT. Every host command and every event of the table as a run of moves. -/

namespace Sys2Proof.Machine

variable {L : Prop}

/-! ### Lawful stations -/

/-- Every station stands as Table 4-1 has it. -/
def State.lawfulStations (s : State) : Prop := ∀ i, (s.station i).lawful

theorem Station.lawful.job_none {st : Station} (h : st.lawful) (hs : st.state.hasJob = false) :
    st.job = none := by
  have := h.1
  rw [hs] at this
  simpa using this

theorem Station.lawful.jammed_of_timer {st : Station} (h : st.lawful) (ht : st.jamTimer.isSome) :
    st.state = .jammed := by
  obtain ⟨-, -, -, -, -, -, -, e, -⟩ := h
  rw [ht] at e
  simpa using e.symm

theorem Station.lawful.closing_of_timer {st : Station} (h : st.lawful) (ht : st.drainTimer.isSome) :
    st.state = .closing := by
  obtain ⟨-, -, -, -, -, -, -, -, e, -⟩ := h
  rw [ht] at e
  simpa using e.symm

/-! ### Host commands and events -/

theorem moves_hostCommand {s t : State} {c : Instr} {body : State → State × Response}
    (e : s.hostCommand c body = .next t) (h : Moves L s (body s).1) : Moves L s t := by
  rcases hostCommand_cases s c body with ⟨_, g⟩ | ⟨_, _, g⟩ | ⟨_, g⟩ <;> rw [g] at e <;> cases e
  · exact .refl L s
  · exact ((quiet_link s _).trans (quiet_drive _)).run
  · exact h.trans ((quiet_link _ _).trans (quiet_drive _)).run

theorem moves_event {s t u : State} (e : s.event u = .next t) (h : Moves L s u) : Moves L s t := by
  unfold State.event at e
  split at e <;> cases e
  · exact .refl L s
  · exact h.trans (quiet_drive u).run

theorem moves_withStation {s : State} {n : Nat} {body : StationId → State → State × Response}
    (h : ∀ i, Moves L s (body i s).1) : Moves L s (withStation n body s).1 := by
  unfold withStation
  split
  · exact .refl L s
  · exact h _

theorem moves_withAccount {s : State} {n : Nat} {body : Account → State → State × Response}
    (h : ∀ a, s.account n = some a → Moves L s (body a s).1) : Moves L s (withAccount n body s).1 := by
  unfold withAccount
  split
  · exact .refl L s
  · next ha => exact h _ ha

/-- In a table in order, a record with the number of a found one is that one. -/
theorem eq_of_account {s : State} (o : AccountsInOrder s) {n : Nat} {a b : Account}
    (ha : s.account n = some a) (hb : b ∈ s.accounts) (hn : b.number = n) : b = a := by
  have := account_of_mem o hb
  rw [hn, ha] at this
  exact (Option.some.inj this).symm

/-- One record of the table changed. -/
theorem move_modifyAccount {s : State} {n : Nat} {a : Account} {f : Account → Account}
    (ha : s.account n = some a) (hn : ∀ x, (f x).number = x.number) (hf : a.Follows (f a))
    (hr : a.inRange → (f a).inRange) : Move L s (s.modifyAccount n f) := by
  refine .accounts _ (fun x => ?_) (fun o x hx => ?_) (fun o _ x hx h => ?_) <;> split
  · exact hn x
  · rfl
  · next e => rw [eq_of_account o ha hx e]; exact hf
  · exact .refl x
  · next e => rw [eq_of_account o ha hx e] at h ⊢; exact hr h
  · exact h

theorem moves_makeOwedRetries (s : State) : Moves L s s.makeOwedRetries := by
  unfold State.makeOwedRetries
  exact (Moves.foldl State.retry moves_retry s.retryOwed s).trans
    ((quiet_retries _ _).trans (quiet_drive _)).run

theorem moves_reading (s : State) (look : State → Response) : Moves L s (reading look s).1 :=
  moves_makeOwedRetries s

/-! ### The account commands -/

theorem moves_loadAccount (f : LoadForm) (s : State) : Moves L s (loadAccountWork f s).1 := by
  unfold loadAccountWork
  split
  · exact .refl L s
  · next a ha =>
    split_ifs with hn hl
    · exact .refl L s
    · exact .refl L s
    · have hn : s.account a.number = none := by simpa using hn
      split
      · next hp => exact (Move.load ha hn (by omega) hp).run
      · next p hp =>
        split
        · exact .refl L s
        · next hq => exact (Move.loadMember ha hn (by omega) hp hq).run

theorem fourOf_eq {n : Nat} (h : n < 4) : fourOf n = some ⟨n, h⟩ := by
  unfold fourOf; rw [dif_pos h]

theorem centsWithin_iff (top x : Int) : centsWithin top x = true ↔ 0 ≤ x ∧ x ≤ top := by
  simp [centsWithin]

/-- What a valid update's limit and cap are bounded by (R20). -/
theorem UpdateForm.inRange_applyTo {f : UpdateForm} {a : Account} (hv : f.valid a.kind = true)
    (h : a.inRange) : (f.applyTo a).inRange := by
  simp only [UpdateForm.valid, UpdateForm.inRange, Bool.and_eq_true] at hv
  obtain ⟨-, ⟨⟨hl, -⟩, hc⟩, -⟩ := hv
  obtain ⟨h1, h2, h3, h4, h5, h6, h7, h8⟩ := h
  refine ⟨h1, h2, ?_, ?_, h5, h6, h7, h8⟩
  · show (f.limit?.map Int.toNat).getD a.creditLimit ≤ 10000000
    cases e : f.limit? with
    | none => exact h3
    | some x =>
      rw [e] at hl
      have := (centsWithin_iff _ _).1 hl
      simp only [Config.limitTop] at this
      simp only [Option.map_some, Option.getD_some]
      omega
  · intro cap hcap
    simp only [UpdateForm.applyTo] at hcap
    split at hcap
    · cases hcap
    · cases e : f.cap? with
      | none => rw [e] at hcap; exact h4 cap hcap
      | some x =>
        rw [e] at hcap hc
        have := (centsWithin_iff _ _).1 hc
        simp only [Config.limitTop] at this
        simp only [Option.map_some, Option.orElse_some, Option.some.injEq] at hcap
        omega

/-- The credit limit of an account of another kind than CREDIT is not updated (R20 check 3). -/
theorem UpdateForm.creditLimit_applyTo {f : UpdateForm} {a : Account} (hv : f.valid a.kind = true)
    (hk : a.kind ≠ .credit) : (f.applyTo a).creditLimit = a.creditLimit := by
  simp only [UpdateForm.valid, UpdateForm.suitsKind, Bool.and_eq_true, Bool.or_eq_true, beq_iff_eq,
    Option.isNone_iff_eq_none] at hv
  obtain ⟨⟨-, ⟨⟨hl, -⟩, -⟩, -⟩, -⟩ := hv
  have : f.limit? = none := hl.resolve_right hk
  simp [UpdateForm.applyTo, this]

/-- A payer is supplied for MEMBER accounts alone (R20 check 3). -/
theorem UpdateForm.member_of_payer {f : UpdateForm} {k : AccountKind} {p : Nat} (hv : f.valid k = true)
    (hp : f.payer? = some p) : k = .member := by
  simp only [UpdateForm.valid, UpdateForm.suitsKind, Bool.and_eq_true, Bool.or_eq_true, beq_iff_eq,
    Option.isNone_iff_eq_none] at hv
  obtain ⟨⟨-, ⟨⟨-, h⟩, -⟩, -⟩, -⟩ := hv
  rw [hp] at h
  simpa using h

theorem moves_updateAccount (f : UpdateForm) (s : State) : Moves L s (updateAccountWork f s).1 := by
  refine moves_withAccount fun a ha => ?_
  have hn := State.account_number s ha
  split_ifs with _ hv hb
  · exact .refl L s
  · exact .refl L s
  · exact .refl L s
  · have hv : f.valid a.kind = true := by simpa using hv
    have hz : ∀ u : State, Moves L u (if f.raises a then u.askRetry (f.applyTo a).billingNumber else u) := by
      intro u
      split
      · exact (quiet_retries u _).run
      · exact .refl L u
    split
    · exact .refl L s
    · next hq =>
      show Moves L s (s.updateAccount f a)
      unfold State.updateAccount
      dsimp only
      refine Moves.trans ?_ (hz _)
      split
      · next hp =>
        refine (move_modifyAccount (a := a) (f := f.applyTo) (by rw [hn]; exact ha) (fun _ => rfl) ?_
          (UpdateForm.inRange_applyTo hv)).run
        refine .of_fields rfl rfl ?_ rfl rfl rfl (UpdateForm.creditLimit_applyTo hv) rfl rfl rfl rfl
        simp [UpdateForm.applyTo, hp]
      · next p hp =>
        rw [hp] at hq hb
        refine (Move.movePayer ha hv hp ?_ (by simpa using hq)).run
        simpa using hb

theorem transferInRange_iff (x : Int) : transferInRange x = true ↔ 1 ≤ x ∧ x ≤ 100000000 := by
  unfold transferInRange
  rw [Bool.and_eq_true, decide_eq_true_iff, decide_eq_true_iff]
  rfl

/-- A balance replaced by one in range. -/
theorem move_setBalance {s : State} {n : Nat} {a : Account} {x : Int} (ha : s.account n = some a)
    (hx : a.inRange → -999999999 ≤ x ∧ x ≤ 999999999) : Move L s (s.setBalance n x) :=
  move_modifyAccount ha (fun _ => rfl) (.of_fields rfl rfl rfl rfl rfl rfl (fun _ => rfl) rfl rfl rfl rfl)
    fun h => by
      obtain ⟨h1, h2⟩ := hx h
      obtain ⟨_, _, h⟩ := h
      exact ⟨h1, h2, h⟩

theorem moves_credit (n : Nat) (x : Int) (s : State) : Moves L s (creditWork n x s).1 := by
  unfold creditWork
  split
  · exact .refl L s
  · next hx =>
    have hx : transferInRange x = true := by simpa using hx
    rw [transferInRange_iff] at hx
    refine moves_withAccount fun a ha => ?_
    split_ifs with _ hl
    · exact .refl L s
    · exact .refl L s
    · simp only [Config.balanceTop, not_lt] at hl
      refine (move_setBalance ha fun h => ?_).run.trans
        (quiet_retries _ _).run
      have := h.1
      omega

theorem moves_debit (n : Nat) (x : Int) (s : State) : Moves L s (debitWork n x s).1 := by
  unfold debitWork
  split
  · exact .refl L s
  · next hx =>
    have hx : transferInRange x = true := by simpa using hx
    rw [transferInRange_iff] at hx
    refine moves_withAccount fun a ha => ?_
    split_ifs with _ hl
    · exact .refl L s
    · exact .refl L s
    · simp only [Config.balanceBottom, not_lt] at hl
      refine (move_setBalance ha fun h => ?_).run
      have := h.2.1
      omega

/-- A registered account made ACTIVE, BLOCKED, or CLOSING where it has no members. -/
theorem move_setAccountState {s : State} {n : Nat} {a : Account} {x : AccountState}
    (ha : s.account n = some a) (hk : a.kind ≠ .transient)
    (hx : x = .active ∨ x = .blocked ∨ (x = .closing ∧ a.memberCount = 0)) :
    Move L s (s.setAccountState n x) := by
  have hp : x ≠ .pending := by rcases hx with e | e | ⟨e, _⟩ <;> rw [e] <;> simp
  exact move_modifyAccount ha (fun _ => rfl)
    ⟨⟨rfl, rfl, rfl, rfl, rfl, .inr (.inr ⟨hk, hx⟩), fun _ => rfl, rfl, fun h => absurd h hp,
      fun h => absurd h hp⟩, rfl, rfl, rfl, fun h => absurd h hk⟩ id

end Sys2Proof.Machine
end

section
/-! SUPPORT. The remaining commands and events as runs of moves, and from them every step. -/

namespace Sys2Proof.Machine

variable {L : Prop}

theorem moves_requestEndIf (s : State) (n : Nat) (i : StationId) : Moves L s (State.blockAt n s i) := by
  unfold State.blockAt
  split
  · exact moves_requestEnd s i _
  · exact .refl L s

theorem moves_block (n : Nat) (s : State) : Moves L s (blockWork n s).1 := by
  have hb : ∀ u : State, Moves L u (u.blockJobs n) := fun u =>
    .foldl (State.blockAt n) (fun s i => moves_requestEndIf s n i) allStations u
  refine moves_withAccount fun a ha => ?_
  split_ifs with hk
  · exact .refl L s
  · dsimp only
    exact hb s
  · dsimp only
    exact (move_setAccountState ha hk (.inr (.inl rfl))).run.trans (hb _)

theorem moves_unblock (n : Nat) (s : State) : Moves L s (unblockWork n s).1 := by
  refine moves_withAccount fun a ha => ?_
  split_ifs with hk
  · exact .refl L s
  · exact (move_setAccountState ha (fun h => hk (.inl h)) (.inl rfl)).run

theorem moves_retireAccount (n : Nat) (s : State) : Moves L s (retireAccountWork n s).1 := by
  refine moves_withAccount fun a ha => ?_
  split_ifs with hk hs hm hj
  · exact (Move.remove ha (.inl ⟨hk, hs⟩)).run
  · exact .refl L s
  · exact .refl L s
  · exact (move_setAccountState ha hk (.inr (.inr ⟨rfl, by omega⟩))).run
  · exact (Move.remove ha (.inr ⟨hk, by omega, by omega⟩)).run

/-- The sheets of a station's lists carry at most 16 impressions (R27, R41, R118). -/
theorem Station.sheetImpressions_le {st : Station} (hr : st.roomy) (hs : st.sheetsSound) :
    st.sheetImpressions ≤ 16 := by
  have h : ∀ l : List Sheet, (∀ x ∈ l, 1 ≤ x.impressions ∧ x.impressions ≤ 2) →
      (l.map Sheet.impressions).sum ≤ 2 * l.length := by
    intro l
    induction l with
    | nil => simp
    | cons x l ih =>
      intro hx
      have h1 := (hx x (by simp)).2
      have h2 := ih fun y hy => hx y (by simp [hy])
      simp only [List.map_cons, List.sum_cons, List.length_cons]
      omega
  have h1 := h _ hs
  unfold Station.roomy at hr
  simp only [Config.maxSheetsInPath] at hr
  rw [List.length_append] at h1
  unfold Station.sheetImpressions
  omega

theorem impressionsInPath_le {s : State} (h : s.sheetsBounded) (n : Nat) : s.impressionsInPath n ≤ 256 := by
  have hl : ∀ l : List StationId, (l.map fun i =>
      if (s.station i).job.map Job.billing = some n then (s.station i).sheetImpressions else 0).sum ≤
        16 * l.length := by
    intro l
    induction l with
    | nil => simp
    | cons i l ih =>
      have h1 := Station.sheetImpressions_le (h i).1 (h i).2
      simp only [List.map_cons, List.sum_cons, List.length_cons]
      split <;> omega
  exact hl allStations

theorem zeroCounts_get : ∀ k : Fin 8, zeroCounts[k] = 0 := by decide

/-- A closed period leaves every figure in range (R27). -/
theorem Account.inRange_periodClosed {a : Account} (h : a.inRange) {m : Nat} (hm : m ≤ 256) :
    (a.periodClosed m).inRange := by
  obtain ⟨h1, h2, h3, h4, -⟩ := h
  refine ⟨h1, h2, h3, h4, ?_, ?_, ?_, fun k => ?_⟩
  · show m ≤ 16777215; omega
  · show false = true ↔ m = 16777215
    simp only [Bool.false_eq_true, false_iff]; omega
  · exact Nat.zero_le _
  · show zeroCounts[k] ≤ 16777215
    rw [zeroCounts_get]
    omega

theorem Account.follows_periodClosed (a : Account) (m : Nat) : a.Follows (a.periodClosed m) :=
  .of_fields rfl rfl rfl rfl rfl rfl (fun _ => rfl) rfl rfl rfl rfl

theorem move_closePeriods (s : State) (chosen : Account → Bool) : Move L s (s.closePeriods chosen) := by
  unfold State.closePeriods
  refine .accounts (fun a => if chosen a then a.periodClosed (s.impressionsInPath a.number) else a)
    (fun a => ?_) (fun _ a _ => ?_) (fun _ hb a _ h => ?_) <;> split
  · exact (a.follows_periodClosed _).number
  · rfl
  · exact a.follows_periodClosed _
  · exact .refl a
  · exact Account.inRange_periodClosed h (impressionsInPath_le hb _)
  · exact h

theorem moves_closePeriod (n : Nat) (s : State) : Moves L s (closePeriodWork n s).1 := by
  unfold closePeriodWork
  split
  · exact (move_closePeriods s _).run
  · exact moves_withAccount fun _ _ => (move_closePeriods s _).run

theorem moves_bindToken (k : Token) (n : Nat) (s : State) : Moves L s (bindTokenWork k n s).1 := by
  unfold bindTokenWork
  split
  · exact .refl L s
  · next hk =>
    refine moves_withAccount fun a ha => ?_
    split_ifs with h ht hl
    · exact .refl L s
    · exact .refl L s
    · exact .refl L s
    · refine (Move.bind ha hk (fun e => h (.inl e)) (by simpa using ht) ?_ ?_).run <;> omega

theorem moves_unbindToken (k : Token) (s : State) : Moves L s (unbindTokenWork k s).1 := by
  unfold unbindTokenWork
  split_ifs
  · exact .refl L s
  · split
    · exact .refl L s
    · next n ht =>
      split_ifs with h
      · exact .refl L s
      · refine (Move.unbind ht fun a ha hk => h ?_).run
        simp [ha, hk]

/-! ### Tariffs, schedules and settings -/

theorem TariffForm.consistent_table {f : TariffForm} (h : f.valid = true) : f.table.consistent := by
  simp only [TariffForm.valid, Bool.and_eq_true, decide_eq_true_eq, centsWithin_iff] at h
  unfold Tariff.consistent
  rw [if_pos (by rfl)]
  refine ⟨rfl, ?_⟩
  simp only [TariffForm.table]
  omega

theorem Tariff.set_law {s : State} (l : TariffLetter) {d : Tariff} (hd : d.consistent) (h : TariffsLaw s) :
    TariffsLaw { s with tariffs := s.tariffs.set l d } := by
  intro k
  show (s.tariffs.set l.val d)[k.val].consistent
  rw [Vector.getElem_set]
  split
  · exact hd
  · exact h k

theorem Schedule.set_law {s : State} (n : Fin 4) {d : Schedule} (hd : d.wellFormed = true)
    (h : SchedulesLaw s) : SchedulesLaw { s with schedules := s.schedules.set n d } := by
  intro k
  show (s.schedules.set n.val d)[k.val].wellFormed = true
  rw [Vector.getElem_set]
  split
  · exact hd
  · exact h k

theorem moves_writeTariff (letter : Nat) (f : TariffForm) (s : State) :
    Moves L s (writeTariffWork letter f s).1 := by
  unfold writeTariffWork
  split
  · exact .refl L s
  · next l _ =>
    split
    · next h =>
      exact Quiet.run ⟨rfl, rfl, fun _ => .refl L _, fun _ h => h,
        Tariff.set_law l (TariffForm.consistent_table h), id⟩
    · exact .refl L s

theorem moves_writeSchedule (number : Nat) (f : ScheduleForm) (s : State) :
    Moves L s (writeScheduleWork number f s).1 := by
  unfold writeScheduleWork
  split
  · exact .refl L s
  · next n _ =>
    split
    · next h =>
      simp only [ScheduleForm.valid, Bool.and_eq_true] at h
      exact Quiet.run ⟨rfl, rfl, fun _ => .refl L _, fun _ h => h, id, Schedule.set_law n h.2⟩
    · exact .refl L s

theorem moves_setGlobals (f : Option GlobalsForm) (s : State) : Moves L s (setGlobalsWork f s).1 := by
  unfold setGlobalsWork
  split
  · exact .refl L s
  · split
    · exact .refl L s
    · next g _ =>
      exact Quiet.run (t := { s with globals := g }) (.of_parts rfl rfl rfl rfl rfl rfl)

/-! ### Station commands -/

theorem moves_configureStation (n : Nat) (f : ConfigForm) (s : State) :
    Moves L s (configureStationWork n f s).1 := by
  refine moves_withStation fun i => ?_
  split
  · exact .refl L s
  · split_ifs
    · exact .refl L s
    · dsimp only
      exact Quiet.run (quiet_modifyStation (.of_fields rfl rfl rfl rfl))
    · exact .refl L s

theorem moves_enableStation (n : Nat) (s : State) : Moves L s (enableStationWork n s).1 := by
  refine moves_withStation fun i => ?_
  split
  · next h => exact (quiet_enter fun _ => by simp [h]).run
  · exact .refl L s
  · exact .refl L s

theorem moves_disableStation (n : Nat) (s : State) : Moves L s (disableStationWork n s).1 := by
  refine moves_withStation fun i => ?_
  split
  · next h => exact (quiet_enter fun _ => by simp [h]).run
  · next h => exact (quiet_enter fun _ => by simp [h]).run
  · exact .refl L s
  · exact .refl L s

theorem moves_setStationTariff (n l : Nat) (s : State) : Moves L s (setStationTariffWork n l s).1 := by
  refine moves_withStation fun i => ?_
  split
  · exact .refl L s
  · dsimp only
    exact Quiet.run (quiet_modifyStation (.of_fields rfl rfl rfl rfl))

theorem moves_alarms (n : Nat) (s : State) : Moves L s (alarmsWork n s).1 := by
  refine moves_withStation fun i => ?_
  dsimp only
  exact Quiet.run (quiet_modifyStation (.of_fields rfl rfl rfl rfl))

theorem moves_openJob (k n : Nat) (s : State)
    (hj : L → ∀ i, (s.station i).state = .idle → (s.station i).job = none) :
    Moves L s (openJobWork k n s).1 := by
  refine moves_withStation fun i => moves_withAccount fun u hu => ?_
  split
  · exact .refl L s
  · next h =>
    obtain ⟨hs, _, ha, _⟩ := openingCheck_none h
    exact (Move.openJob .host hu (by simpa using ha) hs fun l => hj l i hs).run

theorem moves_endJob (n : Nat) (s : State) : Moves L s (endJobWork n s).1 := by
  refine moves_withStation fun i => ?_
  split
  · exact moves_requestEnd s i _
  · exact moves_requestEnd s i _
  · exact moves_requestEnd s i _
  · exact moves_requestEnd s i _
  · exact moves_cancelWalkup s i
  all_goals exact .refl L s

theorem moves_clearJam (n : Nat) (s : State) : Moves L s (clearJamWork n s).1 := by
  refine moves_withStation fun i => ?_
  split
  · next h =>
    dsimp only
    exact moves_jamClear fun _ => by simp [h]
  · exact .refl L s

theorem moves_resetStation (n : Nat) (s : State) : Moves L s (resetStationWork n s).1 := by
  refine moves_withStation fun i => ?_
  have hj : ∀ x, (s.station i).state = x → x ≠ .opening → Moves L s (s.resetJobAt i).1 := by
    intro x h hx
    unfold State.resetJobAt
    dsimp only
    exact moves_resetJob fun _ => by rw [h]; exact hx
  split
  · next h => exact hj _ h (by simp)
  · next h => exact hj _ h (by simp)
  · next h => exact hj _ h (by simp)
  · next h => exact hj _ h (by simp)
  · exact moves_cancelWalkup s i
  all_goals exact .refl L s

theorem moves_returnToService (n : Nat) (s : State) : Moves L s (returnToServiceWork n s).1 := by
  refine moves_withStation fun i => ?_
  split_ifs with h
  · exact .refl L s
  · exact (quiet_enter fun _ => by simp [h]).run
  · exact .refl L s

/-! ### Reader commands -/

theorem moves_configureReader (n x : Nat) (s : State) : Moves L s (configureReaderWork n x s).1 := by
  refine moves_withStation fun i => ?_
  split
  · exact .refl L s
  · dsimp only
    exact Quiet.run (quiet_modifyReader fun h => Reader.inRange_of_fields h (.inr rfl) rfl rfl rfl rfl)

theorem moves_readReader (n : Nat) (s : State) : Moves L s (readReaderWork n s).1 := by
  refine moves_withStation fun i => ?_
  dsimp only
  exact Quiet.run (quiet_modifyReader fun h => Reader.inRange_of_fields h (.inr rfl) rfl rfl rfl rfl)

theorem moves_presetReaderCounters (n w x y z : Nat) (s : State) :
    Moves L s (presetReaderCountersWork n w x y z s).1 := by
  refine moves_withStation fun i => ?_
  split
  · next h =>
    simp only [counterInRange, Bool.and_eq_true, decide_eq_true_eq] at h
    obtain ⟨⟨⟨h1, h2⟩, h3⟩, h4⟩ := h
    dsimp only
    exact Quiet.run (quiet_modifyReader fun g => ⟨g.1, h1, h2, h3, h4⟩)
  · exact .refl L s

theorem moves_sendShopMessage (n : Nat) (s : State) : Moves L s (sendShopMessageWork n s).1 := by
  unfold sendShopMessageWork
  split
  · exact .refl L s
  · exact (quiet_bus s _).run

/-! ### Walk-up commands -/

/-- One walk-up record changed, whichever it is, its station kept. -/
theorem move_modifyWalkup (s : State) (n : Nat) {f : Account → Account} (hn : ∀ a, (f a).number = a.number)
    (hf : ∀ a : Account, a.Follows (f a)) (hr : ∀ a : Account, a.inRange → (f a).inRange) :
    Move L s (s.modifyAccount n f) := by
  refine .accounts _ (fun a => ?_) (fun _ a _ => ?_) (fun _ _ a _ h => ?_) <;> split
  · exact hn a
  · rfl
  · exact hf a
  · exact .refl a
  · exact hr a h
  · exact h

theorem moves_takeAuthRequest (s : State) : Moves L s (takeAuthRequestWork s).1 := by
  unfold takeAuthRequestWork
  split
  · exact .refl L s
  · next n rest _ =>
    have h1 : Quiet L s (s.setWalkupUnit { s.wau with waiting := rest }) :=
      .of_parts rfl rfl rfl rfl rfl rfl
    exact h1.run.trans (move_modifyWalkup (f := Account.asTaken) _ n (fun _ => rfl)
      (fun a => .of_walkup (g := fun w => { w with requestState := some .taken }) (fun _ => rfl)
        (fun _ _ => rfl) (fun _ h => h) _ rfl) fun _ h => h).run

/-- A record with its grant (R172 step 2). -/
theorem Account.follows_withGrant (a : Account) (g : Nat) : a.Follows (a.withGrant g) :=
  .of_walkup (g := fun w => { w with granted := some g }) (fun _ => rfl) (fun _ h => h) (fun _ h => h) _ rfl

/-- A TAKEN record stands in the table, PENDING, with its walk-up fields (R170 check 2). -/
theorem takenRecord_some {s : State} {r : Nat} {a : Account} {w : Walkup}
    (h : s.takenRecord r = some (a, w)) :
    a ∈ s.accounts ∧ a.isPending ∧ a.walkup = some w ∧ w.requestState = some .taken ∧ w.authRef = r := by
  unfold State.takenRecord at h
  split at h
  · cases h
  · next b hb =>
    have hm := List.mem_of_find?_eq_some hb
    have hp := List.find?_some hb
    split at h
    · cases h
    · next v hv =>
      split at h
      · next ht =>
        simp only [Option.some.injEq, Prod.mk.injEq] at h
        obtain ⟨rfl, rfl⟩ := h
        simp only [Account.pendsWith, Bool.and_eq_true, beq_iff_eq, hv, Option.map_some,
          Option.some.injEq] at hp
        exact ⟨hm, hp.1, hv, ht, hp.2⟩
      · cases h

/-- A grant is at most 10,000.00 (R170 check 1). -/
theorem authOutcome_grant {r o g : Nat} {x : Option Int} (h : authOutcome r o x = some (.approved g)) :
    g ≤ 1000000 := by
  unfold authOutcome at h
  split at h
  · split at h
    · next hg =>
      simp only [Option.some.injEq, AuthOutcome.approved.injEq] at h
      simp only [Config.grantTop] at hg
      omega
    · cases h
  · split at h <;> cases h
  · cases h

/-- Numbers in order are numbers in order after a change that keeps them. -/
theorem accountsInOrder_map {s t : State} {f : Account → Account} (hf : ∀ a, (f a).number = a.number)
    (ht : t.accounts = s.accounts.map f) : AccountsInOrder t ↔ AccountsInOrder s := by
  unfold AccountsInOrder
  rw [ht, List.map_map]
  have : Account.number ∘ f = Account.number := funext hf
  rw [this]

theorem moves_approveResult {s : State} {a : Account} {w : Walkup} {g : Nat} (ha : a ∈ s.accounts)
    (hp : a.isPending) (hw : a.walkup = some w) (hg : g ≤ 1000000)
    (hj : L → ∀ i, (s.station i).state = .opening → (s.station i).job = none) :
    Moves L s (s.approveResult a w g).1 := by
  have hn : ∀ x : Account, (if x.number = a.number then x.withGrant (min g w.requested) else x).number =
      x.number := fun x => by split <;> rfl
  have h1 : Moves L s (s.modifyAccount a.number fun x => x.withGrant (min g w.requested)) :=
    (move_modifyWalkup s _ (f := fun x => x.withGrant (min g w.requested)) (fun _ => rfl) (fun x => x.follows_withGrant _) fun x hx => by
      obtain ⟨-, -, h⟩ := hx
      have h1 : -999999999 ≤ ((min g w.requested : Nat) : Int) := by omega
      have h2 : ((min g w.requested : Nat) : Int) ≤ 999999999 := by omega
      exact ⟨h1, h2, h⟩).run
  have hb : AccountsInOrder (s.modifyAccount a.number fun x => x.withGrant (min g w.requested)) →
      (s.modifyAccount a.number fun x => x.withGrant (min g w.requested)).account
        (a.withGrant (min g w.requested)).number = some (a.withGrant (min g w.requested)) := by
    intro o
    have o' := (accountsInOrder_map hn rfl).1 o
    show (s.modifyAccount a.number _).account a.number = _
    rw [State.account_modifyAccount _ _ _ _ (by intro; rfl), if_pos rfl, account_of_mem o' ha]
    rfl
  have hp : (a.withGrant (min g w.requested)).isPending := hp
  have hbw : (a.withGrant (min g w.requested)).walkup =
      some { w with granted := some (min g w.requested) } := by simp [Account.withGrant, hw]
  unfold State.approveResult
  dsimp only
  split
  · exact h1.trans (Move.endWalkup _ hp hb hbw rfl).run
  · split
    · exact h1.trans (Move.endWalkup _ hp hb hbw rfl).run
    · next hc =>
      obtain ⟨hs, _⟩ := openingCheck_none hc
      exact h1.trans (Move.openWalkup hp hb hbw rfl hs fun l => hj l _ hs).run

theorem moves_authResult (r o : Nat) (x : Option Int) (s : State)
    (hj : L → ∀ i, (s.station i).state = .opening → (s.station i).job = none) :
    Moves L s (authResultWork r o x s).1 := by
  unfold authResultWork
  split
  · exact .refl L s
  · next result hr =>
    split
    · exact .refl L s
    · next a w hw =>
      obtain ⟨hm, hp, hw, _⟩ := takenRecord_some hw
      cases result with
      | declined => exact (Move.endWalkup _ hp (fun o => account_of_mem o hm) hw rfl).run
      | approved g => exact moves_approveResult hm hp hw (authOutcome_grant hr) hj

/-! ### Every command, every step -/

theorem moves_resetRelease (s : State) : Moves L s s.released.drive := by
  refine Moves.trans (Move.reset (t := s.released) rfl rfl (fun i => ?_) (fun i => ?_) (fun l => ?_)
    fun n => ?_).run (quiet_drive _).run
  · have : s.released.station i = Station.afterReset (s.station i).pins := by
      show (mapSixteen _ s.stations)[i] = _
      rw [mapSixteen_get]; rfl
    rw [this]; exact ⟨rfl, rfl, rfl⟩
  · have : s.released.reader i = .afterReset := by
      show (Vector.replicate 16 Reader.afterReset)[i] = _
      simp
    rw [this]; exact ⟨by decide, by decide, by decide, by decide, by decide⟩
  · have : s.released.tariffs[l] = .undefined := by
      show (Vector.replicate 4 Tariff.undefined)[l] = _
      simp
    rw [this]; rfl
  · have : s.released.schedules[n] = .empty := by
      show (Vector.replicate 4 Schedule.empty)[n] = _
      simp
    rw [this]; rfl

/-- Every command is a run of moves from a state whose stations, if they are lawful, say so. -/
theorem exec_moves {c : Instr} {s t : State} (e : exec c s = .next t) : Moves s.lawfulStations s t := by
  have hi : s.lawfulStations → ∀ i, (s.station i).state = .idle → (s.station i).job = none :=
    fun h i hs => (h i).job_none (by rw [hs]; rfl)
  have ho : s.lawfulStations → ∀ i, (s.station i).state = .opening → (s.station i).job = none :=
    fun h i hs => (h i).job_none (by rw [hs]; rfl)
  cases c with
  | deviceReset =>
    cases e
    refine Moves.trans (Quiet.run ?_) (quiet_drive _).run
    exact .of_parts rfl rfl rfl rfl rfl rfl
  | resetRelease => cases e; exact moves_resetRelease s
  | selectPeriodStart => exact moves_event e (quiet_link s _).run
  | selectPeriodEnd mosi => exact moves_event e (quiet_link s _).run
  | loadAccount f => exact moves_hostCommand e (moves_loadAccount f s)
  | updateAccount f => exact moves_hostCommand e (moves_updateAccount f s)
  | credit n x => exact moves_hostCommand e (moves_credit n x s)
  | debit n x => exact moves_hostCommand e (moves_debit n x s)
  | block n => exact moves_hostCommand e (moves_block n s)
  | unblock n => exact moves_hostCommand e (moves_unblock n s)
  | retireAccount n => exact moves_hostCommand e (moves_retireAccount n s)
  | closePeriod n => exact moves_hostCommand e (moves_closePeriod n s)
  | readAccount n => exact moves_hostCommand e (moves_reading s _)
  | listAccounts n => exact moves_hostCommand (body := fun s => (s, s.listAccountsResponse n)) e (.refl _ s)
  | bindToken k n => exact moves_hostCommand e (moves_bindToken k n s)
  | unbindToken k => exact moves_hostCommand e (moves_unbindToken k s)
  | findToken k => exact moves_hostCommand (body := fun s => (s, s.findTokenResponse k)) e (.refl _ s)
  | writeTariff l f => exact moves_hostCommand e (moves_writeTariff l f s)
  | readTariff l => exact moves_hostCommand (body := fun s => (s, s.readTariffResponse l)) e (.refl _ s)
  | writeSchedule n f => exact moves_hostCommand e (moves_writeSchedule n f s)
  | readSchedule n =>
    exact moves_hostCommand (body := fun s => (s, s.readScheduleResponse n)) e (.refl _ s)
  | setGlobals f => exact moves_hostCommand e (moves_setGlobals f s)
  | configureStation n f => exact moves_hostCommand e (moves_configureStation n f s)
  | enableStation n => exact moves_hostCommand e (moves_enableStation n s)
  | disableStation n => exact moves_hostCommand e (moves_disableStation n s)
  | setStationTariff n l => exact moves_hostCommand e (moves_setStationTariff n l s)
  | readStation n => exact moves_hostCommand e (moves_reading s _)
  | readStationAlarms n =>
    exact moves_hostCommand (body := fun s => alarmsWork n s.makeOwedRetries) e
      ((moves_makeOwedRetries s).trans (moves_alarms n _))
  | openJob i n => exact moves_hostCommand e (moves_openJob i n s hi)
  | endJob n => exact moves_hostCommand e (moves_endJob n s)
  | clearJam n => exact moves_hostCommand e (moves_clearJam n s)
  | resetStation n => exact moves_hostCommand e (moves_resetStation n s)
  | returnToService n => exact moves_hostCommand e (moves_returnToService n s)
  | configureReader n x => exact moves_hostCommand e (moves_configureReader n x s)
  | readReader n =>
    exact moves_hostCommand (body := fun s => readReaderWork n s.makeOwedRetries) e
      ((moves_makeOwedRetries s).trans (moves_readReader n _))
  | presetReaderCounters n w x y z =>
    exact moves_hostCommand e (moves_presetReaderCounters n w x y z s)
  | sendShopMessage n => exact moves_hostCommand e (moves_sendShopMessage n s)
  | resetReaderBus => exact moves_hostCommand (body := fun s => (s.resetBus, bare .ok)) e (quiet_resetBus s).run
  | takeAuthRequest => exact moves_hostCommand e (moves_takeAuthRequest s)
  | authResult r o x => exact moves_hostCommand e (moves_authResult r o x s ho)
  | statusSummary => exact moves_hostCommand e (moves_reading s _)
  | retryOfHeldStations n => exact moves_event e ((moves_retry s n).trans (quiet_retries _ _).run)
  | lineLevelChange i l high =>
    have hd : Quiet s.lawfulStations s (s.modifyStation i fun st => st.levelChange l high) :=
      quiet_modifyStation (Station.follows_levelChange _ l high)
    change execLineLevelChange i l high s = _ at e
    unfold execLineLevelChange at e
    split_ifs at e <;> cases e
    · exact .refl _ s
    · exact Quiet.run (quiet_modifyStation (.of_fields rfl rfl rfl rfl))
    · exact (hd.trans (quiet_drive _)).run
  | filterTimerExpiry i l => exact moves_event e (moves_filterExpiry s i l)
  | permitDelayExpiry i => exact moves_event e (Quiet.run (quiet_modifyStation (.of_fields rfl rfl rfl rfl)))
  | idleTimerExpiry i => exact moves_event e (moves_idleExpiry s i)
  | drainTimerExpiry i =>
    refine moves_event e ?_
    split
    · exact .refl _ s
    · next h =>
      refine (quiet_jamEntry _ fun l => ?_).run
      rw [(l i).closing_of_timer (by simpa [Option.isSome_iff_ne_none] using h)]
      simp
  | jamTimeout i =>
    refine moves_event e ?_
    split
    · exact .refl _ s
    · next h =>
      refine moves_jamTimedOut fun l => ?_
      rw [(l i).jammed_of_timer (by simpa [Option.isSome_iff_ne_none] using h)]
      simp
  | authTimerExpiry n => exact moves_event e (moves_authExpiry s n)
  | pollPeriodStart =>
    refine moves_event e ?_
    unfold State.startPeriodIfDue
    split
    · exact (quiet_startPeriod s).run
    · exact .refl _ s
  | periodTimerExpiry => exact moves_event e (quiet_bus s _).run
  | broadcastTransferEnd => exact moves_event e (quiet_broadcastEnd s).run
  | slotStart => exact moves_event e (quiet_nextSlot s).run
  | displayTransferEnd d => exact moves_event e (quiet_displayEnd s d).run
  | pollTransferEnd a => exact moves_event e (quiet_pollEnd s a).run
  | answerLimitExpiry => exact moves_event e (quiet_limitReached s).run
  | answerReceived frame => exact moves_event e (moves_answerTaken frame hi)
  | clockReleased => exact moves_event e (quiet_bus s _).run

theorem Station.follows_count (st : Station) : st.Follows L st.count :=
  .of_fields rfl rfl rfl 
    (stake_map_of (f := fun j => { j with idleTimer := Timer.count j.idleTimer }) (fun _ => rfl) _)

theorem moves_tick (s : State) : Moves L s s.tick := by
  unfold State.tick
  split
  · exact .refl L s
  · have h1 : Move L s { s with accounts := s.accounts.map Account.count } :=
      .accounts _ (fun _ => rfl) (fun _ a _ => .of_walkup
        (g := fun w => { w with authTimer := Timer.count w.authTimer }) (fun _ => rfl) (fun _ h => h)
        (fun w h => by simpa [Timer.count] using h) _ rfl) fun _ _ a _ h => h
    refine h1.run.trans (Quiet.run ⟨rfl, rfl, fun i => ?_, fun _ h => h, id, id⟩)
    show (s.station i).Follows L (mapSixteen _ s.stations)[i]
    rw [mapSixteen_get]
    exact Station.follows_count _

/-- The queue's rest, put in its place. -/
theorem quiet_queue (s : State) (q : List Instr) : Quiet L s { s with pending := q } :=
  .of_parts rfl rfl rfl rfl rfl rfl

/-- Every step is a run of moves. -/
theorem step_moves {s t : State} (e : step s = .next t) : Moves s.lawfulStations s t := by
  unfold step at e
  split at e
  · rcases ownStep_cases s with ⟨status, _, _, g⟩ | ⟨c, _, _, _, g⟩ | ⟨_, _, g⟩ <;> rw [g] at e
    · cases e
      exact ((quiet_link s _).trans (quiet_drive _)).run
    · exact exec_moves e
    · cases e
      exact moves_tick s
  · next c rest _ => exact (quiet_queue s rest).run.trans (exec_moves e)

end Sys2Proof.Machine
end

section
/-! SUPPORT. What a move does to the account table and the token index, as edits; the laws of members,
capacities and token lists, each kept by every edit. -/

namespace Sys2Proof.Machine

variable {L : Prop}

/-! ### Money and counts alone -/

/-- `b` is `a` but for money, holds, period figures and the count of open jobs. -/
def Account.Money (a b : Account) : Prop :=
  b = { a with
    balance := b.balance, held := b.held, memberHeld := b.memberHeld, periodCharges := b.periodCharges
    classCounts := b.classCounts, openJobs := b.openJobs }

theorem Account.Money.refl (a : Account) : a.Money a := rfl

theorem Account.Money.trans {a b c : Account} (h : a.Money b) (g : b.Money c) : a.Money c := by
  unfold Account.Money at *
  rw [h] at g
  exact g

theorem Account.Money.carries {a b : Account} (h : a.Money b) : a.Carries b := by
  unfold Account.Money at h
  rw [h]
  exact .of_fields rfl rfl rfl rfl rfl rfl (fun _ => rfl) rfl

theorem Account.Money.state {a b : Account} (h : a.Money b) : b.state = a.state := by
  unfold Account.Money at h
  rw [h]

theorem Account.Money.number {a b : Account} (h : a.Money b) : b.number = a.number := h.carries.number

/-- The table of `t` is that of `s` but for money, holds, period figures and counts of open jobs. -/
def MoneyOnly (s t : State) : Prop :=
  t.tokens = s.tokens ∧ ∃ g : Account → Account, t.accounts = s.accounts.map g ∧ ∀ a : Account, a.Money (g a)

theorem MoneyOnly.refl (s : State) : MoneyOnly s s := ⟨rfl, id, by simp, fun a => .refl a⟩

theorem MoneyOnly.trans {s t u : State} (h : MoneyOnly s t) (g : MoneyOnly t u) : MoneyOnly s u := by
  obtain ⟨h1, f, h2, h3⟩ := h
  obtain ⟨g1, e, g2, g3⟩ := g
  exact ⟨g1.trans h1, e ∘ f, by rw [g2, h2, List.map_map], fun a => (h3 a).trans (g3 _)⟩

theorem moneyOnly_modifyAccount (s : State) (n : Nat) {f : Account → Account} (hf : ∀ a : Account, a.Money (f a)) :
    MoneyOnly s (s.modifyAccount n f) :=
  ⟨rfl, fun a => if a.number = n then f a else a, rfl, fun a => by
    dsimp only
    split
    · exact hf a
    · exact .refl a⟩

theorem moneyOnly_of_ledger {s t : State} (ha : t.accounts = s.accounts) (hk : t.tokens = s.tokens) :
    MoneyOnly s t := ⟨hk, id, by simp [ha], fun a => .refl a⟩

theorem moneyOnly_raiseHold (s : State) (i : StationId) (j : Job) (c : Nat) :
    MoneyOnly s (s.raiseHold i j c) := by
  have h1 := moneyOnly_modifyAccount (s.modifyJob i fun k => { k with hold := k.hold + c }) j.billing
    (f := fun a => { a with held := a.held + c }) fun _ => rfl
  unfold State.raiseHold
  dsimp only
  split
  · exact h1
  · exact h1.trans (moneyOnly_modifyAccount _ j.user fun _ => rfl)

theorem moneyOnly_settleMoney (s : State) (j : Job) : MoneyOnly s (s.settleMoney j) := by
  have h1 := moneyOnly_modifyAccount s j.billing (f := fun a =>
    { a with balance := chargedBalance a.balance (settlementCharge j).1, held := a.held - j.hold })
    fun _ => rfl
  unfold State.settleMoney
  dsimp only
  split
  · exact h1
  · exact h1.trans (moneyOnly_modifyAccount _ j.user fun _ => rfl)

theorem moneyOnly_settlePeriod (s : State) (j : Job) : MoneyOnly s (s.settlePeriod j) := by
  have h1 := moneyOnly_modifyAccount s j.user (f := Account.settleFigures j) fun _ => rfl
  unfold State.settlePeriod
  dsimp only
  split
  · exact h1
  · exact h1.trans (moneyOnly_modifyAccount _ j.billing (f := Account.settleFigures j) fun _ => rfl)

theorem moneyOnly_placeHold (s : State) (j : Job) : MoneyOnly s (s.placeHold j) := by
  have h1 := moneyOnly_modifyAccount s j.billing (f := fun a =>
    { a with held := a.held + j.hold, openJobs := a.openJobs + 1 }) fun _ => rfl
  unfold State.placeHold
  dsimp only
  split
  · exact h1
  · exact h1.trans (moneyOnly_modifyAccount _ j.user fun _ => rfl)

theorem moneyOnly_openAt (s : State) (i : StationId) (u : Account) (o : OpenedBy) :
    MoneyOnly s (s.openAt i u o) := by
  obtain ⟨hk, g, ha, hg⟩ := moneyOnly_placeHold
    (s.modifyStation i fun st => { st with job := some (s.newJob i u o), state := .running }) (s.newJob i u o)
  exact ⟨hk, g, ha, hg⟩

/-! ### Edits of the table -/

/-- A record that may be entered in the table: of a kind that suits it, without members. -/
structure Account.Enters (a : Account) : Prop where
  suits : a.suitsKind
  members : a.memberCount = 0
  notClosing : a.state ≠ .closing

/-- One change of the account table and the token index. -/
inductive Edit : State → State → Prop
  | carry {s t : State} (f : Account → Account) (ha : t.accounts = s.accounts.map f)
      (hk : t.tokens = s.tokens) (hn : ∀ a, (f a).number = a.number)
      (hf : AccountsInOrder s → ∀ a ∈ s.accounts, a.Carries (f a)) : Edit s t
  | settled {s : State} {n : Nat} {a : Account} (c : Nat) (ha : s.account n = some a)
      (hk : a.kind = .transient) : Edit s (s.settleTransient n a c)
  | remove {s : State} {n : Nat}
      (h : AccountsInOrder s → ∃ a, s.account n = some a ∧
        (a.kind = .transient ∨ a.state = .closing ∨ a.memberCount = 0)) : Edit s (s.removeAccount n)
  | enter {s t : State} (a : Account) (ha : t.accounts = insertAccount a s.accounts)
      (hk : t.tokens = s.tokens ++ a.tokens.map fun k => ⟨k, a.number⟩)
      (hn : MembersLaw s → s.account a.number = none) (he : a.Enters) (hp : a.payer = none)
      (hl : s.accounts.length < Config.maxAccounts)
      (hz : a.kind = .transient → s.transientCount < Config.maxTransients)
      (hm : a.tokens = [] ∨ s.tokens.length < Config.maxTokens)
      (ht : if a.kind = .transient then a.state ≠ .settled ∧ ∃ k, a.tokens = [k] ∧ k ≠ 0#64 ∧ s.tokenAccount k = none
        else a.tokens = []) : Edit s t
  | enterMember {s : State} {a : Account} {p : Nat} (hn : s.account a.number = none) (he : a.Enters)
      (hk : a.kind = .member) (hp : a.payer = some p) (hq : s.payerFault p = none)
      (hl : s.accounts.length < Config.maxAccounts) (ht : a.tokens = []) :
      Edit s ((s.addAccount a).addMember p)
  | movePayer {s : State} {f : UpdateForm} {a : Account} {p : Nat} (ha : s.account f.number = some a)
      (hv : f.valid a.kind = true) (hp : f.payer? = some p) (hq : s.payerFault p = none) :
      Edit s ((s.modifyAccount a.number f.applyTo).movePayer a.payer p)
  | bind {s : State} {k : Token} {n : Nat} {a : Account} (ha : s.account n = some a) (hk : k ≠ 0#64)
      (h : a.kind ≠ .transient) (ht : s.tokenAccount k = none)
      (hl : a.tokens.length < Config.maxTokensPerAccount) (hm : s.tokens.length < Config.maxTokens) :
      Edit s (s.bindToken k n)
  | unbind {s : State} {k : Token} {n : Nat} (ht : s.tokenAccount k = some n)
      (h : ∀ a, s.account n = some a → a.kind ≠ .transient) : Edit s (s.unbindToken k n)
  | clear {s t : State} (ha : t.accounts = []) (hk : t.tokens = []) : Edit s t

/-- A run of edits. -/
def Edits : State → State → Prop := Relation.ReflTransGen Edit

theorem Edits.refl (s : State) : Edits s s := Relation.ReflTransGen.refl

theorem Edits.trans {s t u : State} (h : Edits s t) (g : Edits t u) : Edits s u :=
  Relation.ReflTransGen.trans h g

theorem Edit.run {s t : State} (h : Edit s t) : Edits s t := Relation.ReflTransGen.single h

/-- What every edit keeps, a run of edits keeps. -/
theorem Edits.keeps {P : State → Prop} (hP : ∀ s t, Edit s t → P s → P t) {s t : State} (h : Edits s t)
    (hs : P s) : P t := by
  induction h with
  | refl => exact hs
  | tail _ m ih => exact hP _ _ m ih

theorem MoneyOnly.edit {s t : State} (h : MoneyOnly s t) : Edit s t := by
  obtain ⟨hk, g, ha, hg⟩ := h
  exact .carry g ha hk (fun a => (hg a).number) fun _ a _ => (hg a).carries

theorem edits_ledger {s t : State} (ha : t.accounts = s.accounts) (hk : t.tokens = s.tokens) : Edits s t :=
  (moneyOnly_of_ledger ha hk).edit.run

theorem edits_closeAccount (s : State) (c n : Nat) : Edits s (s.closeAccount c n) := by
  cases h : s.account n with
  | none =>
    have e : s.closeAccount c n = s := by unfold State.closeAccount; rw [h]
    rw [e]; exact .refl s
  | some a =>
    rcases closeAccount_cases (c := c) h with ⟨hk, e⟩ | ⟨_, hs, _, e⟩ | ⟨_, _, e⟩ <;> rw [e]
    · exact (Edit.settled c h hk).run
    · exact (Edit.remove fun _ => ⟨a, h, .inr (.inl hs)⟩).run
    · exact .refl s

theorem edits_settleJob (s : State) (i : StationId) (dest : StationState) (j : Job) :
    Edits s (s.settleJob i dest j) := by
  have h1 : Edits s ((s.settleMoney j).settlePeriod j) :=
    ((moneyOnly_settleMoney s j).trans (moneyOnly_settlePeriod _ j)).edit.run
  unfold State.settleJob
  extract_lets charge s1 ba s2 s3 s4 s5
  have h2 : Edits s1 s2 := edits_ledger rfl rfl
  have h3 : Edits s2 s4 := by
    by_cases h : j.user = j.billing
    · simp only [s4, h, if_true]; exact edits_closeAccount _ _ _
    · simp only [s4, h, if_false]; exact (edits_closeAccount _ _ _).trans (edits_closeAccount _ _ _)
  exact h1.trans (h2.trans (h3.trans (edits_ledger rfl rfl)))

/-! ### Records in their places -/

theorem insertAccount_perm {a : Account} {l : List Account} (hn : ∀ b ∈ l, b.number ≠ a.number) :
    (insertAccount a l).Perm (a :: l) := by
  induction l with
  | nil => exact .refl _
  | cons b l ih =>
    have hb := hn b (by simp)
    unfold insertAccount
    split_ifs with h1 h2
    · exact .refl _
    · exact ((ih fun c hc => hn c (by simp [hc])).cons b).trans (.swap a b l)
    · omega

theorem insertAccount_length_le (a : Account) (l : List Account) :
    (insertAccount a l).length ≤ l.length + 1 := by
  induction l with
  | nil => simp [insertAccount]
  | cons b l ih =>
    unfold insertAccount
    split_ifs <;> simp only [List.length_cons] <;> omega

theorem insertAccount_inOrder {a : Account} {l : List Account}
    (h : (l.map Account.number).Pairwise (· < ·)) :
    ((insertAccount a l).map Account.number).Pairwise (· < ·) := by
  have hm : ∀ (b : Account) (l : List Account), b ∈ insertAccount a l → b = a ∨ b ∈ l := by
    intro b l
    induction l with
    | nil => simp [insertAccount]
    | cons c l ih =>
      unfold insertAccount
      split_ifs
      · simp
      · simp only [List.mem_cons]
        rintro (rfl | hb)
        · exact .inr (.inl rfl)
        · exact (ih hb).imp id .inr
      · simp only [List.mem_cons]
        rintro (rfl | hb)
        · exact .inl rfl
        · exact .inr (.inr hb)
  induction l with
  | nil => simp [insertAccount]
  | cons b l ih =>
    rw [List.map_cons, List.pairwise_cons] at h
    obtain ⟨hb, hl⟩ := h
    unfold insertAccount
    split_ifs with h1 h2
    · simp only [List.map_cons, List.pairwise_cons, List.mem_cons, forall_eq_or_imp]
      exact ⟨⟨h1, fun n hn => h1.trans (hb n hn)⟩, hb, hl⟩
    · rw [List.map_cons, List.pairwise_cons]
      refine ⟨fun n hn => ?_, ih hl⟩
      obtain ⟨c, hc, rfl⟩ := List.mem_map.1 hn
      rcases hm c l hc with rfl | hc
      · exact h2
      · exact hb _ (List.mem_map_of_mem hc)
    · have : a.number = b.number := by omega
      rw [List.map_cons, List.pairwise_cons, this]
      exact ⟨hb, hl⟩

/-- A table in order is a found record and the table without it. -/
theorem dropAccount_perm {s : State} (o : AccountsInOrder s) {n : Nat} {a : Account}
    (ha : s.account n = some a) : s.accounts.Perm (a :: (s.dropAccount n).accounts) := by
  show s.accounts.Perm (a :: s.accounts.filter fun b => b.number != n)
  unfold AccountsInOrder at o
  unfold State.account at ha
  generalize s.accounts = l at o ha
  induction l with
  | nil => cases ha
  | cons b l ih =>
    rw [List.map_cons, List.pairwise_cons] at o
    by_cases hb : b.number = n
    · rw [List.find?_cons_of_pos (by simpa using hb)] at ha
      obtain rfl := Option.some.inj ha
      rw [List.filter_cons_of_neg (by simpa using hb), List.filter_eq_self.2]
      intro c hc
      have := o.1 c.number (List.mem_map_of_mem hc)
      simp only [bne_iff_ne]
      omega
    · rw [List.find?_cons_of_neg (by simpa using hb)] at ha
      rw [List.filter_cons_of_pos (by simpa using hb)]
      exact ((ih o.2 ha).cons b).trans (.swap a b _)

/-- In a table in order a number finds a record exactly when the record stands there with it. -/
theorem account_eq_some_iff {s : State} (o : AccountsInOrder s) {n : Nat} {a : Account} :
    s.account n = some a ↔ a ∈ s.accounts ∧ a.number = n :=
  ⟨fun h => ⟨State.account_mem s h, State.account_number s h⟩, fun ⟨h, e⟩ => e ▸ account_of_mem o h⟩

/-- Order is of the numbers alone. -/
theorem accountsInOrder_sublist {s t : State} (h : t.accounts.Sublist s.accounts) (o : AccountsInOrder s) :
    AccountsInOrder t :=
  o.sublist (h.map Account.number)

theorem removeAccount_eq {s : State} {n : Nat} {a : Account} (ha : s.account n = some a) :
    s.removeAccount n = ((s.dropTokens a.tokens).leavePayer a).dropAccount n := by
  unfold State.removeAccount; rw [ha]

/-- The records after a removal: those left, the payer's with one member less (R26). -/
theorem accounts_removeAccount {s : State} {n : Nat} {a : Account} (ha : s.account n = some a) :
    (s.removeAccount n).accounts = (s.accounts.map fun b =>
      if some b.number = a.payer then { b with memberCount := b.memberCount - 1 } else b).filter
        fun b => b.number != n := by
  rw [removeAccount_eq ha]
  unfold State.leavePayer State.dropMember
  split
  · next h => simp [h, State.dropAccount, State.dropTokens]
  · next p h =>
    show List.filter _ (List.map _ _) = _
    simp only [h, Option.some.injEq]
    rfl

theorem tokens_removeAccount {s : State} {n : Nat} {a : Account} (ha : s.account n = some a) :
    (s.removeAccount n).tokens = s.tokens.filter fun e => !a.tokens.contains e.token := by
  rw [removeAccount_eq ha]
  unfold State.leavePayer
  split <;> rfl

/-! ### The order of the table -/

theorem accountsInOrder_addAccount {s t : State} {a : Account} (o : AccountsInOrder s)
    (ht : t.accounts = insertAccount a s.accounts) : AccountsInOrder t := by
  unfold AccountsInOrder at *
  rw [ht]
  exact insertAccount_inOrder o

theorem numbers_map_filter {s t : State} {f : Account → Account} {p : Account → Bool}
    (hf : ∀ a, (f a).number = a.number) (ht : t.accounts = (s.accounts.map f).filter p)
    (o : AccountsInOrder s) : AccountsInOrder t := by
  have h : AccountsInOrder { s with accounts := s.accounts.map f } := (accountsInOrder_map hf rfl).2 o
  exact accountsInOrder_sublist (s := { s with accounts := s.accounts.map f })
    (by rw [ht]; exact List.filter_sublist) h

theorem accountsInOrder_modifyAccount {s : State} {n : Nat} {f : Account → Account}
    (hf : ∀ a, (f a).number = a.number) (o : AccountsInOrder s) : AccountsInOrder (s.modifyAccount n f) :=
  (accountsInOrder_map (f := fun a => if a.number = n then f a else a)
    (fun a => by split <;> simp [hf]) rfl).2 o

theorem accountsInOrder_movePayer {s : State} {q : Option Nat} {p : Nat} (o : AccountsInOrder s) :
    AccountsInOrder (s.movePayer q p) := by
  unfold State.movePayer State.addMember State.dropMember
  (repeat' split)
  · exact o
  · exact accountsInOrder_modifyAccount (fun _ => rfl) o
  · exact accountsInOrder_modifyAccount (fun _ => rfl) (accountsInOrder_modifyAccount (fun _ => rfl) o)

theorem Edit.inOrder {s t : State} (h : Edit s t) (o : AccountsInOrder s) : AccountsInOrder t := by
  cases h with
  | carry f ha hk hn hf => exact (accountsInOrder_map hn ha).2 o
  | settled c ha hk => exact accountsInOrder_modifyAccount (fun _ => rfl) o
  | remove h =>
    obtain ⟨a, ha, _⟩ := h o
    exact numbers_map_filter (fun b => by split <;> rfl) (accounts_removeAccount ha) o
  | enter a ha => exact accountsInOrder_addAccount o ha
  | enterMember hn he hk hp hq hl ht =>
    exact accountsInOrder_modifyAccount (fun _ => rfl) (accountsInOrder_addAccount o rfl)
  | movePayer => exact accountsInOrder_movePayer (accountsInOrder_modifyAccount (fun _ => rfl) o)
  | bind => exact accountsInOrder_modifyAccount (fun _ => rfl) o
  | unbind => exact accountsInOrder_modifyAccount (fun _ => rfl) o
  | clear ha hk => unfold AccountsInOrder; rw [ha]; exact List.Pairwise.nil

end Sys2Proof.Machine
end

section
/-! SUPPORT. Every move as a run of edits: the record that LOAD ACCOUNT spells, the number of a new
walk-up, and the moves one by one. -/

namespace Sys2Proof.Machine

variable {L : Prop}

/-! ### The record of LOAD ACCOUNT (R18, R19) -/

/-- What a well-made form spells. -/
theorem asRecord_some {f : LoadForm} {a : Account} (h : f.asRecord = some a) :
    ∃ kind state, kindOf f.kind = some kind ∧ loadStateOf f.state = some state ∧
      f.hasReservedBits = false ∧ f.inRange = true ∧ f.suitsKind kind = true ∧ a = f.record kind state := by
  unfold LoadForm.asRecord at h
  split at h
  · next kind state hk hs =>
    split at h
    · next hv =>
      simp only [Bool.and_eq_true, Bool.not_eq_true'] at hv
      exact ⟨kind, state, hk, hs, hv.1.1, hv.1.2, hv.2, (Option.some.inj h).symm⟩
    · cases h
  · cases h

theorem loadStateOf_some {n : Nat} {x : AccountState} (h : loadStateOf n = some x) :
    (n = 0 ∧ x = .active) ∨ (n = 1 ∧ x = .blocked) := by
  unfold loadStateOf at h
  split at h <;> simp_all

/-- A loaded record may enter the table, and has neither tokens nor a walk-up. -/
theorem asRecord_enters {f : LoadForm} {a : Account} (h : f.asRecord = some a) :
    a.Enters ∧ a.kind ≠ .transient ∧ a.tokens = [] := by
  obtain ⟨kind, state, -, hs, -, hr, hk, rfl⟩ := asRecord_some h
  simp only [LoadForm.inRange, Bool.and_eq_true, decide_eq_true_eq] at hr
  obtain ⟨⟨⟨⟨⟨⟨⟨h1, h2⟩, -⟩, -⟩, -⟩, -⟩, -⟩, -⟩ := hr
  have ht : kind ≠ .transient := by rintro rfl; cases hk
  have hst : state = .active ∨ state = .blocked := by
    rcases loadStateOf_some hs with ⟨_, e⟩ | ⟨_, e⟩ <;> simp [e]
  simp only [Config.lastRegistered] at h2
  refine ⟨⟨⟨?_, h1, ?_, ?_, ?_, ?_, ?_⟩, rfl, ?_⟩, ht, rfl⟩
  · show kind = .transient ↔ 60000 ≤ f.number
    simp only [ht, false_iff]; omega
  · show f.number ≤ 60999; omega
  · show f.payer?.isSome = true ↔ kind = .member
    cases kind <;> simp_all [LoadForm.suitsKind]
  · show (none : Option Walkup).isSome = true ↔ kind = .transient
    simp [ht]
  · show kind = .transient ↔ state = .pending ∨ state = .opened ∨ state = .settled
    rcases hst with e | e <;> simp [e, ht]
  · show kind ≠ .credit → (f.limit?.getD 0).toNat = 0
    cases kind <;> simp_all [LoadForm.suitsKind]
  · show state ≠ .closing
    rcases hst with e | e <;> simp [e]

/-! ### The number of a new walk-up (R163) -/

theorem nextTransientNumber_add (m k : Nat) :
    nextTransientNumber (60000 + (m + k) % 1000) = 60000 + (m + (k + 1)) % 1000 := by
  unfold nextTransientNumber Config.firstTransient Config.lastTransient
  split_ifs <;> omega

theorem nextTransientNumber_bounds (n : Nat) :
    60000 ≤ nextTransientNumber n ∧ nextTransientNumber n ≤ 60999 := by
  unfold nextTransientNumber Config.firstTransient Config.lastTransient
  split_ifs <;> omega

/-- The search ends at a free number, or every number that it tried is taken. -/
theorem firstFree_transient (taken : Nat → Bool) (m fuel k : Nat) :
    taken (firstFree nextTransientNumber taken fuel (60000 + (m + k) % 1000)) = false ∨
      ∀ r < fuel, taken (60000 + (m + (k + r)) % 1000) = true := by
  induction fuel generalizing k with
  | zero => exact .inr fun r hr => absurd hr (Nat.not_lt_zero r)
  | succ fuel ih =>
    unfold firstFree
    split
    · next h =>
      rw [nextTransientNumber_add]
      refine (ih (k + 1)).imp id fun g r hr => ?_
      cases r with
      | zero => exact h
      | succ r =>
        have := g r (by omega)
        rwa [show k + 1 + r = k + (r + 1) by omega] at this
    · next h => exact .inl (by simpa using h)

theorem firstFree_bounds (taken : Nat → Bool) (fuel n : Nat) (h : 60000 ≤ n ∧ n ≤ 60999) :
    60000 ≤ firstFree nextTransientNumber taken fuel n ∧
      firstFree nextTransientNumber taken fuel n ≤ 60999 := by
  induction fuel generalizing n with
  | zero => exact h
  | succ fuel ih =>
    unfold firstFree
    split
    · exact ih _ (nextTransientNumber_bounds n)
    · exact h

/-- With fewer TRANSIENT records than there may be, the search finds a free number (R163, R165). -/
theorem account_freshNumber {s : State} (hk : ∀ a ∈ s.accounts, a.suitsKind)
    (hc : s.transientCount < Config.maxTransients) : s.account s.freshNumber = none := by
  have hb := nextTransientNumber_bounds s.wau.numberRotor
  set m := nextTransientNumber s.wau.numberRotor - 60000 with hm
  have he : nextTransientNumber s.wau.numberRotor = 60000 + (m + 0) % 1000 := by omega
  unfold State.freshNumber
  rw [he]
  rcases firstFree_transient (fun n => (s.account n).isSome) m 1000 0 with h | h
  · simpa using h
  · exfalso
    have hn : ((List.range 32).map fun r => 60000 + (m + (0 + r)) % 1000).Nodup := by
      refine List.Nodup.map_on (fun x hx y hy e => ?_) List.nodup_range
      simp only [List.mem_range] at hx hy
      omega
    have hs : ((List.range 32).map fun r => 60000 + (m + (0 + r)) % 1000) ⊆
        (s.accounts.filter fun a => a.kind == .transient).map Account.number := by
      intro n hn
      obtain ⟨r, hr, rfl⟩ := List.mem_map.1 hn
      rw [List.mem_range] at hr
      obtain ⟨a, ha⟩ := Option.isSome_iff_exists.1 (h r (by omega))
      have hmem := State.account_mem s ha
      have hnum := State.account_number s ha
      obtain ⟨hkind, -⟩ := hk a hmem
      refine List.mem_map.2 ⟨a, List.mem_filter.2 ⟨hmem, ?_⟩, hnum⟩
      simp only [beq_iff_eq]
      exact hkind.2 (by rw [hnum]; simp only [Config.firstTransient]; omega)
    have := (List.subperm_of_subset hn hs).length_le
    simp only [List.length_map, List.length_range] at this
    unfold State.transientCount at hc
    simp only [Config.maxTransients] at hc
    omega

theorem freshNumber_bounds (s : State) : 60000 ≤ s.freshNumber ∧ s.freshNumber ≤ 60999 :=
  firstFree_bounds _ _ _ (nextTransientNumber_bounds _)

/-! ### A new walk-up (R166) -/

/-- The record of a walk-up as it stands in the table, with its token. -/
def State.walkupRecord (s : State) (i : StationId) (k : Token) : Account :=
  { s.newTransient i with tokens := [k] }

/-- Adding a record and appending to its tokens is adding the record with them. -/
theorem insertAccount_map {a : Account} {l : List Account} (hn : ∀ b ∈ l, b.number ≠ a.number)
    {f : Account → Account} (hf : ∀ b, (f b).number = b.number) :
    (insertAccount a l).map (fun b => if b.number = a.number then f b else b) = insertAccount (f a) l := by
  induction l with
  | nil => simp [insertAccount]
  | cons b l ih =>
    have hb := hn b (by simp)
    have hm : ∀ c ∈ l, c.number ≠ a.number := fun c hc => hn c (by simp [hc])
    have hid : l.map (fun c => if c.number = a.number then f c else c) = l := by
      conv_rhs => rw [← List.map_id l]
      exact List.map_congr_left fun c hc => by rw [if_neg (hm c hc)]; rfl
    unfold insertAccount
    rw [hf a]
    split_ifs with h1 h2
    · simp [hb, hid]
    · simp [hb, ih hm]
    · omega

theorem accounts_startWalkup {s : State} {i : StationId} {k : Token}
    (hn : s.account s.freshNumber = none) :
    (s.startWalkup i k).accounts = insertAccount (s.walkupRecord i k) s.accounts := by
  show ((insertAccount (s.newTransient i) s.accounts).map fun b =>
    if b.number = (s.newTransient i).number then { b with tokens := b.tokens ++ [k] } else b) = _
  rw [insertAccount_map (account_none_iff hn) (f := fun b => { b with tokens := b.tokens ++ [k] })
    fun _ => rfl]
  rfl

theorem walkupRecord_enters (s : State) (i : StationId) (k : Token) : (s.walkupRecord i k).Enters := by
  obtain ⟨h1, h2⟩ := freshNumber_bounds s
  refine ⟨⟨?_, ?_, h2, ?_, ?_, ?_, fun _ => rfl⟩, rfl, ?_⟩
  · show AccountKind.transient = .transient ↔ 60000 ≤ s.freshNumber
    simp [h1]
  · show 1 ≤ s.freshNumber
    omega
  all_goals simp [State.walkupRecord, State.newTransient]

/-- The checks of a walk-up request (R165). -/
theorem walkupAllowed_iff (s : State) (i : StationId) : s.walkupAllowed i = true ↔
    (s.tariffOf i).isDefined = true ∧ s.transientCount < 32 ∧ s.accounts.length < 1024 ∧
      s.tokens.length < 2048 := by
  unfold State.walkupAllowed
  simp only [Bool.and_eq_true, decide_eq_true_eq, and_assoc]
  rfl

/-! ### Moves as edits -/

theorem edits_startWalkup {s : State} {i : StationId} {k : Token} (h : s.walkupAllowed i = true)
    (hk : k ≠ 0#64) (ht : s.tokenAccount k = none) (hm : ∀ a ∈ s.accounts, a.suitsKind) :
    Edits s (s.startWalkup i k) := by
  obtain ⟨-, h1, h2, h3⟩ := (walkupAllowed_iff s i).1 h
  have hn := account_freshNumber hm h1
  exact (Edit.enter (s.walkupRecord i k) (accounts_startWalkup hn) rfl (fun _ => hn)
    (walkupRecord_enters s i k) rfl h2 (fun _ => h1) (.inr h3)
    (by rw [if_pos (by rfl)]; exact ⟨by simp [State.walkupRecord, State.newTransient], k, rfl, hk, ht⟩)).run

theorem edits_endWalkup {s : State} {a : Account} (i : StationId) (d : Display) (hp : a.isPending)
    (ha : AccountsInOrder s → s.account a.number = some a) : Edits s (s.endWalkup a i d) := by
  have hk : a.kind = .transient := by
    simp only [Account.isPending, Bool.and_eq_true, beq_iff_eq] at hp
    exact hp.1
  unfold State.endWalkup
  extract_lets wau w u v
  have h1 : Edits s w := edits_ledger rfl rfl
  have h2 : Edit w u := Edit.remove fun o => ⟨a, ha o, .inl hk⟩
  have h3 : Edits u (v.placeDisplay i d) := edits_ledger rfl rfl
  exact h1.trans (h2.run.trans h3)

theorem edits_openWalkup {s : State} {i : StationId} {a : Account} (hp : a.isPending)
    (ha : AccountsInOrder s → s.account a.number = some a) : Edits s (s.openWalkup i a) := by
  obtain ⟨hk, g, hg, hm⟩ := moneyOnly_openAt s i a .reader
  have h1 : Edit s (s.openAt i a .reader) := MoneyOnly.edit ⟨hk, g, hg, hm⟩
  refine h1.run.trans (Edit.run (Edit.carry (fun b => if b.number = a.number then b.asOpened else b)
    rfl rfl (fun b => by split <;> rfl) fun o b hb => ?_))
  split
  · next hbn =>
    have os : AccountsInOrder s := (accountsInOrder_map (fun x => (hm x).number) hg).1 o
    rw [hg] at hb
    obtain ⟨x, hx, rfl⟩ := List.mem_map.1 hb
    have hxa : x = a := eq_of_account os (ha os) hx ((hm x).number.symm.trans hbn)
    simp only [Account.isPending, Bool.and_eq_true, beq_iff_eq] at hp
    have hs : (g x).state = .pending := by rw [(hm x).state, hxa, hp.2]
    have hne : (g x).asOpened.state ≠ .pending := by simp [Account.asOpened]
    exact ⟨rfl, rfl, rfl, rfl, rfl, .inr (.inl ⟨hs, rfl⟩), fun _ => rfl, by simp [Account.asOpened],
      fun h => absurd h hne, fun h => absurd h hne⟩
  · exact .refl b

/-- Every move is a run of edits of the table, the start of a walk-up excepted. -/
theorem Move.edits_or_start {s t : State} (h : Move L s t) :
    Edits s t ∨ ∃ i k, s.walkupAllowed i = true ∧ k ≠ 0#64 ∧ s.tokenAccount k = none ∧
      t = s.startWalkup i k := by
  cases h with
  | quiet h => exact .inl (edits_ledger h.accounts h.tokens)
  | accounts f hn hf hr =>
    exact .inl (Edit.run (Edit.carry f rfl rfl hn fun o a ha => (hf o a ha).toCarries))
  | raiseHold c hj => exact .inl (moneyOnly_raiseHold _ _ _ c).edit.run
  | settle hj ho hd => exact .inl (edits_settleJob _ _ _ _)
  | openJob by_ hu ha hs hj => exact .inl (moneyOnly_openAt _ _ _ _).edit.run
  | openWalkup hp ha hw hi hs hj => exact .inl (edits_openWalkup hp ha)
  | startWalkup h hi hk ht => exact .inr ⟨_, _, h, hk, ht, rfl⟩
  | endWalkup d hp ha hw hi => exact .inl (edits_endWalkup _ d hp ha)
  | load hf hn hl hp =>
    obtain ⟨he, hk, ht⟩ := asRecord_enters hf
    exact .inl (Edit.enter _ rfl (by simp [ht]) (fun _ => hn) he hp hl (fun h => absurd h hk) (.inl ht)
      (by rw [if_neg hk]; exact ht)).run
  | loadMember hf hn hl hp hq =>
    obtain ⟨he, hk, ht⟩ := asRecord_enters hf
    have hmem := he.suits.2.2.2.1.1 (by rw [hp]; rfl)
    exact .inl (Edit.enterMember hn he hmem hp hq hl ht).run
  | movePayer ha hv hp hj hq => exact .inl (Edit.movePayer ha hv hp hq).run
  | remove ha h =>
    refine .inl (Edit.remove fun _ => ⟨_, ha, ?_⟩).run
    rcases h with ⟨h, _⟩ | ⟨_, h, _⟩
    · exact .inl h
    · exact .inr (.inr h)
  | bind ha hk h ht hl hm => exact .inl (Edit.bind ha hk h ht hl hm).run
  | unbind ht h => exact .inl (Edit.unbind ht h).run
  | reset ha hk hs hr ht hd => exact .inl (Edit.clear ha hk).run

/-- Every move is a run of edits of the table, in a table whose records suit their kinds. -/
theorem Move.edits {s t : State} (h : Move L s t) (hm : MembersLaw s) : Edits s t := by
  obtain ⟨-, hs, -⟩ := hm
  rcases h.edits_or_start with h | ⟨i, k, ha, hk, ht, rfl⟩
  · exact h
  · exact edits_startWalkup ha hk ht hs

/-- The order of the table is kept by every move (R1). -/
theorem Move.inOrder {s t : State} (h : Move L s t) (o : AccountsInOrder s) : AccountsInOrder t := by
  rcases h.edits_or_start with h | ⟨i, k, -, -, -, rfl⟩
  · exact h.keeps (fun _ _ e => e.inOrder) o
  · exact accountsInOrder_modifyAccount (s := s.addAccount (s.newTransient i)) (fun _ => rfl)
      (accountsInOrder_addAccount o rfl)

end Sys2Proof.Machine
end

section
/-! SUPPORT. The law of members and the capacities, kept by every edit of the table (R1, R7). -/

namespace Sys2Proof.Machine

variable {L : Prop}

/-! ### The law of members, of a list of records -/

/-- How many records name `n` as payer (R7). -/
def memberTally (l : List Account) (n : Nat) : Nat := l.countP fun a => a.payer == some n

/-- The law of R7 but for the order of the table. -/
structure MembersFit (l : List Account) : Prop where
  suits : ∀ a ∈ l, a.suitsKind
  payers : ∀ a ∈ l, ∀ p, a.payer = some p → ∃ b ∈ l, b.number = p ∧ (b.kind = .prepaid ∨ b.kind = .credit)
  tally : ∀ a ∈ l, a.memberCount = memberTally l a.number
  closing : ∀ a ∈ l, a.state = .closing → a.memberCount = 0

theorem membersLaw_iff (s : State) : MembersLaw s ↔ AccountsInOrder s ∧ MembersFit s.accounts := by
  unfold MembersLaw State.membersOf
  simp only [← List.countP_eq_length_filter]
  constructor
  · rintro ⟨o, h1, h2, h3⟩
    refine ⟨o, h1, fun a ha p hp => ?_, fun a ha => (h3 a ha).1, fun a ha => (h3 a ha).2⟩
    obtain ⟨b, hb, hk⟩ := h2 a ha p hp
    exact ⟨b, State.account_mem s hb, State.account_number s hb, hk⟩
  · rintro ⟨o, h1, h2, h3, h4⟩
    refine ⟨o, h1, fun a ha p hp => ?_, fun a ha => ⟨h3 a ha, h4 a ha⟩⟩
    obtain ⟨b, hb, hn, hk⟩ := h2 a ha p hp
    exact ⟨b, (account_eq_some_iff o).2 ⟨hb, hn⟩, hk⟩

theorem memberTally_perm {l m : List Account} (h : l.Perm m) (n : Nat) : memberTally l n = memberTally m n :=
  h.countP_eq _

theorem MembersFit.perm {l m : List Account} (h : l.Perm m) (g : MembersFit l) : MembersFit m :=
  ⟨fun a ha => g.suits a (h.mem_iff.2 ha), fun a ha p hp => by
    obtain ⟨b, hb, hk⟩ := g.payers a (h.mem_iff.2 ha) p hp
    exact ⟨b, h.mem_iff.1 hb, hk⟩,
    fun a ha => by rw [← memberTally_perm h]; exact g.tally a (h.mem_iff.2 ha),
    fun a ha => g.closing a (h.mem_iff.2 ha)⟩

theorem memberTally_map {l : List Account} {f : Account → Account} (hf : ∀ a ∈ l, (f a).payer = a.payer)
    (n : Nat) : memberTally (l.map f) n = memberTally l n := by
  unfold memberTally
  rw [List.countP_map]
  refine List.countP_congr fun a ha => ?_
  simp [hf a ha]

theorem memberTally_cons (a : Account) (l : List Account) (n : Nat) :
    memberTally (a :: l) n = memberTally l n + if a.payer = some n then 1 else 0 := by
  unfold memberTally
  rw [List.countP_cons]
  simp

/-- Records changed in what the law of members does not read. -/
theorem MembersFit.map {l : List Account} {f : Account → Account} (g : MembersFit l)
    (hn : ∀ a ∈ l, (f a).number = a.number) (hk : ∀ a ∈ l, (f a).kind = a.kind)
    (hp : ∀ a ∈ l, (f a).payer = a.payer) (hm : ∀ a ∈ l, (f a).memberCount = a.memberCount)
    (hs : ∀ a ∈ l, a.suitsKind → (f a).suitsKind)
    (hc : ∀ a ∈ l, (f a).state = .closing → a.state = .closing ∨ a.memberCount = 0) :
    MembersFit (l.map f) := by
  refine ⟨?_, ?_, ?_, ?_⟩ <;> intro b hb <;> obtain ⟨a, ha, rfl⟩ := List.mem_map.1 hb
  · exact hs a ha (g.suits a ha)
  · intro p hap
    rw [hp a ha] at hap
    obtain ⟨c, hc, hcn, hck⟩ := g.payers a ha p hap
    exact ⟨f c, List.mem_map_of_mem hc, (hn c hc).trans hcn, by rw [hk c hc]; exact hck⟩
  · rw [memberTally_map hp, hm a ha, hn a ha]
    exact g.tally a ha
  · intro hst
    rw [hm a ha]
    exact (hc a ha hst).elim (g.closing a ha) id

theorem Account.Carries.suitsKind {a b : Account} (h : a.Carries b) (g : a.suitsKind) : b.suitsKind := by
  obtain ⟨g1, g2, g3, g4, g5, g6, g7⟩ := g
  refine ⟨by rw [h.kind, h.number]; exact g1, h.number ▸ g2, h.number ▸ g3,
    by rw [h.payer, h.kind]; exact g4, by rw [h.absent, h.kind]; exact g5, ?_, fun hk => ?_⟩
  · rw [h.kind]
    rcases h.state with e | ⟨e1, e2⟩ | ⟨hk, e⟩
    · rw [e]; exact g6
    · rw [g6, e1, e2]; simp
    · rcases e with e | e | ⟨e, _⟩ <;> simp [e, hk]
  · rw [h.kind] at hk
    rw [h.credit hk]
    exact g7 hk

theorem Account.Carries.closing {a b : Account} (h : a.Carries b) (g : b.state = .closing) :
    a.state = .closing ∨ a.memberCount = 0 := by
  rcases h.state with e | ⟨_, e⟩ | ⟨_, e⟩
  · exact .inl (e ▸ g)
  · rw [e] at g; cases g
  · rcases e with e | e | ⟨_, e⟩
    · rw [e] at g; cases g
    · rw [e] at g; cases g
    · exact .inr e

theorem MembersFit.carry {l : List Account} {f : Account → Account} (g : MembersFit l)
    (hf : ∀ a ∈ l, a.Carries (f a)) : MembersFit (l.map f) :=
  g.map (fun a ha => (hf a ha).number) (fun a ha => (hf a ha).kind) (fun a ha => (hf a ha).payer)
    (fun a ha => (hf a ha).memberCount) (fun a ha => (hf a ha).suitsKind) fun a ha => (hf a ha).closing

/-! ### The edits, one by one -/

theorem payerFault_none {s : State} {p : Nat} (h : s.payerFault p = none) :
    ∃ b, s.account p = some b ∧ (b.kind = .prepaid ∨ b.kind = .credit) ∧ b.state ≠ .closing := by
  unfold State.payerFault at h
  split at h
  · cases h
  · next b hb =>
    split_ifs at h with h1 h2
    refine ⟨b, hb, ?_, h2⟩
    cases hk : b.kind <;> simp_all

/-- A TRANSIENT record after the settlement of its job (R76, R178). -/
def Account.asSettled (a : Account) (c : Nat) : Account :=
  { a with
    state := .settled, tokens := [], walkup := a.walkup.map fun w => { w with finalCharge := some c } }

/-- A TRANSIENT record becoming SETTLED suits its kind still (R76). -/
theorem MembersFit.settled {s : State} {n : Nat} {a : Account} (c : Nat) (o : AccountsInOrder s)
    (g : MembersFit s.accounts) (ha : s.account n = some a) (hk : a.kind = .transient) :
    MembersFit (s.settleTransient n a c).accounts := by
  show MembersFit (s.accounts.map fun b => if b.number = n then b.asSettled c else b)
  refine g.map (fun b _ => ?_) (fun b _ => ?_) (fun b _ => ?_) (fun b _ => ?_) (fun b hb => ?_)
    fun b _ => ?_ <;> split
  · rfl
  · rfl
  · rfl
  · rfl
  · rfl
  · rfl
  · rfl
  · rfl
  · next e =>
    obtain rfl := eq_of_account o ha hb e
    rintro ⟨g1, g2, g3, g4, g5, g6, g7⟩
    exact ⟨g1, g2, g3, g4, by simpa [Account.asSettled] using g5, by simp [Account.asSettled, hk], g7⟩
  · exact id
  · exact fun h => by cases h
  · exact .inl

/-- A record that may be removed is named as payer by none. -/
theorem MembersFit.unnamed {s : State} {n : Nat} {a : Account} (o : AccountsInOrder s)
    (g : MembersFit s.accounts) (ha : s.account n = some a)
    (h : a.kind = .transient ∨ a.state = .closing ∨ a.memberCount = 0) :
    ∀ b ∈ s.accounts, b.payer ≠ some n := by
  have hm := State.account_mem s ha
  have hn := State.account_number s ha
  intro b hb hp
  obtain ⟨c, hc, hcn, hk⟩ := g.payers b hb n hp
  obtain rfl := eq_of_account o ha hc hcn
  have h0 : c.memberCount = 0 ∨ c.kind = .transient := by
    rcases h with h | h | h
    · exact .inr h
    · exact .inl (g.closing c hm h)
    · exact .inl h
  rcases h0 with h0 | h0
  · have := g.tally c hm
    rw [h0, hn, memberTally] at this
    have := List.countP_eq_zero.1 this.symm b hb
    simp [hp] at this
  · rw [h0] at hk
    rcases hk with hk | hk <;> cases hk

theorem MembersFit.remove {s : State} {n : Nat} {a : Account} (o : AccountsInOrder s)
    (g : MembersFit s.accounts) (ha : s.account n = some a)
    (h : a.kind = .transient ∨ a.state = .closing ∨ a.memberCount = 0) :
    MembersFit (s.removeAccount n).accounts := by
  have hu := g.unnamed o ha h
  have hn := State.account_number s ha
  have hperm := dropAccount_perm o ha
  have g' := g.perm hperm
  set r := (s.dropAccount n).accounts with hr
  have hrm : ∀ b ∈ r, b ∈ s.accounts ∧ b.number ≠ n := by
    intro b hb
    have := List.mem_filter.1 (show b ∈ s.accounts.filter fun b => b.number != n from hb)
    exact ⟨this.1, by simpa using this.2⟩
  have e : (s.removeAccount n).accounts = r.map fun b =>
      if some b.number = a.payer then { b with memberCount := b.memberCount - 1 } else b := by
    rw [accounts_removeAccount ha, List.filter_map]
    congr 1
    refine List.filter_congr fun b _ => ?_
    simp only [Function.comp]
    split <;> rfl
  have hpay : ∀ b ∈ r, (if some b.number = a.payer then { b with memberCount := b.memberCount - 1 }
      else b : Account).payer = b.payer := fun b _ => by split <;> rfl
  have hnum : ∀ b : Account, (if some b.number = a.payer then { b with memberCount := b.memberCount - 1 }
      else b : Account).number = b.number := fun b => by split <;> rfl
  have hkind : ∀ b : Account, (if some b.number = a.payer then { b with memberCount := b.memberCount - 1 }
      else b : Account).kind = b.kind := fun b => by split <;> rfl
  rw [e]
  refine ⟨?_, ?_, ?_, ?_⟩ <;> intro x hx <;> obtain ⟨b, hb, rfl⟩ := List.mem_map.1 hx
  · have := g'.suits b (List.mem_cons_of_mem _ hb)
    split
    · exact this
    · exact this
  · intro p hp
    rw [hpay b hb] at hp
    obtain ⟨c, hc, hcn, hck⟩ := g'.payers b (List.mem_cons_of_mem _ hb) p hp
    rcases List.mem_cons.1 hc with rfl | hc
    · exact absurd (hp.trans (congrArg some (hcn.symm.trans hn))) (hu b (hrm b hb).1)
    · exact ⟨_, List.mem_map_of_mem hc, (hnum c).trans hcn, by rw [hkind c]; exact hck⟩
  · rw [memberTally_map hpay, hnum b]
    have ht := g'.tally b (List.mem_cons_of_mem _ hb)
    rw [memberTally_cons] at ht
    by_cases hb' : a.payer = some b.number
    · rw [if_pos hb'.symm]
      rw [if_pos hb'] at ht
      show b.memberCount - 1 = _
      omega
    · rw [if_neg fun h => hb' h.symm]
      rw [if_neg hb'] at ht
      simpa using ht
  · have := g'.closing b (List.mem_cons_of_mem _ hb)
    split
    · intro hs; show b.memberCount - 1 = 0; rw [this hs]
    · exact this

/-- A number that stands at no record is named as payer by none. -/
theorem MembersFit.tally_absent {l : List Account} (g : MembersFit l) {n : Nat}
    (hn : ∀ b ∈ l, b.number ≠ n) : memberTally l n = 0 := by
  refine List.countP_eq_zero.2 fun b hb hp => ?_
  obtain ⟨c, hc, hcn, _⟩ := g.payers b hb n (by simpa using hp)
  exact hn c hc hcn

theorem MembersFit.enter {l : List Account} {a : Account} (g : MembersFit l)
    (hn : ∀ b ∈ l, b.number ≠ a.number) (he : a.Enters) (hp : a.payer = none) :
    MembersFit (insertAccount a l) := by
  refine MembersFit.perm (insertAccount_perm hn).symm ⟨?_, ?_, ?_, ?_⟩ <;> intro b hb <;>
    rcases List.mem_cons.1 hb with rfl | hb
  · exact he.suits
  · exact g.suits b hb
  · intro p h; rw [hp] at h; cases h
  · intro p h
    obtain ⟨c, hc, hk⟩ := g.payers b hb p h
    exact ⟨c, List.mem_cons_of_mem _ hc, hk⟩
  · rw [memberTally_cons, g.tally_absent hn, he.members, hp]; rfl
  · rw [memberTally_cons, hp, g.tally b hb]; rfl
  · exact fun _ => he.members
  · exact g.closing b hb

/-- One member more on the record `p`. -/
def withMemberOf (p : Nat) (b : Account) : Account :=
  if b.number = p then { b with memberCount := b.memberCount + 1 } else b

theorem withMemberOf_number (p : Nat) (b : Account) : (withMemberOf p b).number = b.number := by
  unfold withMemberOf; split <;> rfl

theorem withMemberOf_kind (p : Nat) (b : Account) : (withMemberOf p b).kind = b.kind := by
  unfold withMemberOf; split <;> rfl

theorem withMemberOf_payer (p : Nat) (b : Account) : (withMemberOf p b).payer = b.payer := by
  unfold withMemberOf; split <;> rfl

theorem withMemberOf_suits {p : Nat} {b : Account} (h : b.suitsKind) : (withMemberOf p b).suitsKind := by
  unfold withMemberOf; split <;> exact h

/-- A record whose tally is its own count and one for the payer just named. -/
theorem withMemberOf_memberCount (p : Nat) (b : Account) :
    (withMemberOf p b).memberCount = b.memberCount + if p = b.number then 1 else 0 := by
  unfold withMemberOf
  by_cases h : b.number = p
  · rw [if_pos h, if_pos h.symm]
  · rw [if_neg h, if_neg (Ne.symm h)]; rfl

theorem withMemberOf_closing {p : Nat} {b : Account} (h : b.state = .closing → b.memberCount = 0)
    (hb : b.number = p → b.state ≠ .closing) :
    (withMemberOf p b).state = .closing → (withMemberOf p b).memberCount = 0 := by
  unfold withMemberOf
  split
  · next e => exact fun hs => absurd hs (hb e)
  · exact h

theorem MembersFit.enterMember {s : State} {a : Account} {p : Nat} (o : AccountsInOrder s)
    (g : MembersFit s.accounts) (hn : s.account a.number = none) (he : a.Enters) (hp : a.payer = some p)
    (hq : s.payerFault p = none) : MembersFit ((s.addAccount a).addMember p).accounts := by
  have hne := account_none_iff hn
  obtain ⟨b, hb, hbk, hbs⟩ := payerFault_none hq
  have hbm := State.account_mem s hb
  have hbn := State.account_number s hb
  show MembersFit ((insertAccount a s.accounts).map (withMemberOf p))
  refine MembersFit.perm ((insertAccount_perm hne).symm.map _) ?_
  have hap : a.number ≠ p := fun h => hne b hbm (hbn.trans h.symm)
  have hsame : ∀ x ∈ s.accounts, x.number = p → x.state ≠ .closing := fun x hx h => by
    rw [eq_of_account o hb hx h]; exact hbs
  have ht : ∀ n, memberTally ((a :: s.accounts).map (withMemberOf p)) n =
      memberTally s.accounts n + if p = n then 1 else 0 := by
    intro n
    rw [memberTally_map fun x _ => withMemberOf_payer p x, memberTally_cons, hp]
    simp
  refine ⟨?_, ?_, ?_, ?_⟩ <;> intro y hy <;> obtain ⟨x, hx, rfl⟩ := List.mem_map.1 hy <;>
    rcases List.mem_cons.1 hx with rfl | hx
  · exact withMemberOf_suits he.suits
  · exact withMemberOf_suits (g.suits x hx)
  · intro q h
    rw [withMemberOf_payer, hp] at h
    obtain rfl := Option.some.inj h
    exact ⟨_, List.mem_map_of_mem (List.mem_cons_of_mem _ hbm), (withMemberOf_number _ b).trans hbn,
      by rw [withMemberOf_kind]; exact hbk⟩
  · intro q h
    rw [withMemberOf_payer] at h
    obtain ⟨c, hc, hcn, hck⟩ := g.payers x hx q h
    exact ⟨_, List.mem_map_of_mem (List.mem_cons_of_mem _ hc), (withMemberOf_number _ c).trans hcn,
      by rw [withMemberOf_kind]; exact hck⟩
  · rw [ht, withMemberOf_number, withMemberOf_memberCount, g.tally_absent hne, he.members]
  · rw [ht, withMemberOf_number, withMemberOf_memberCount, g.tally x hx]
  · exact withMemberOf_closing (fun _ => he.members) fun h => absurd h hap
  · exact withMemberOf_closing (g.closing x hx) (hsame x hx)

/-- One member less on the record `q`. -/
def withoutMemberOf (q : Nat) (b : Account) : Account :=
  if b.number = q then { b with memberCount := b.memberCount - 1 } else b

theorem withoutMemberOf_number (q : Nat) (b : Account) : (withoutMemberOf q b).number = b.number := by
  unfold withoutMemberOf; split <;> rfl

/-- A valid update keeps number, kind and member count, and takes the payer supplied. -/
theorem UpdateForm.applyTo_payer {f : UpdateForm} {p : Nat} (hp : f.payer? = some p) (a : Account) :
    (f.applyTo a).payer = some p := by simp [UpdateForm.applyTo, hp]

/-- The update of a record of a kind that carries no payer, and of one that does, suits the kind. -/
theorem UpdateForm.suitsKind_applyTo {f : UpdateForm} {a : Account} {p : Nat} (hv : f.valid a.kind = true)
    (hp : f.payer? = some p) (h : a.suitsKind) : (f.applyTo a).suitsKind := by
  obtain ⟨h1, h2, h3, h4, h5, h6, h7⟩ := h
  refine ⟨h1, h2, h3, ?_, h5, h6, fun hk => ?_⟩
  · rw [UpdateForm.applyTo_payer hp]
    exact iff_of_true rfl (UpdateForm.member_of_payer hv hp)
  · rw [UpdateForm.creditLimit_applyTo hv hk]
    exact h7 hk

/-- The records after an update with a payer (R20). -/
theorem accounts_movePayer {s : State} {f : UpdateForm} {n p q : Nat} (hq : q ≠ p) :
    ((s.modifyAccount n f.applyTo).movePayer (some q) p).accounts =
      s.accounts.map fun b => withMemberOf p (withoutMemberOf q (if b.number = n then f.applyTo b else b)) := by
  unfold State.movePayer
  rw [if_neg (by simpa using hq)]
  show List.map _ (List.map _ (List.map _ _)) = _
  rw [List.map_map, List.map_map]
  rfl

/-- The member counts move with the payer (R7, R20). -/
theorem MembersFit.movePayer {s : State} {f : UpdateForm} {a : Account} {p : Nat} (o : AccountsInOrder s)
    (g : MembersFit s.accounts) (ha : s.account f.number = some a) (hv : f.valid a.kind = true)
    (hp : f.payer? = some p) (hq : s.payerFault p = none) :
    MembersFit ((s.modifyAccount a.number f.applyTo).movePayer a.payer p).accounts := by
  have hm := State.account_mem s ha
  have hn := State.account_number s ha
  have hk : a.kind = .member := UpdateForm.member_of_payer hv hp
  obtain ⟨b, hb, hbk, hbs⟩ := payerFault_none hq
  have hbm := State.account_mem s hb
  have hbn := State.account_number s hb
  have hs := UpdateForm.suitsKind_applyTo hv hp (g.suits a hm)
  have other : ∀ c ∈ s.accounts, (c.kind = .prepaid ∨ c.kind = .credit) → c.number ≠ a.number := by
    intro c hc hck h
    rw [eq_of_account o ha hc (h.trans hn), hk] at hck
    rcases hck with hck | hck <;> cases hck
  obtain ⟨q, haq⟩ : ∃ q, a.payer = some q :=
    Option.isSome_iff_exists.1 ((g.suits a hm).2.2.2.1.2 hk)
  obtain ⟨c, hc, hcn, hck⟩ := g.payers a hm q haq
  have hpn : b.number ≠ a.number := other b hbm hbk
  have hqn : c.number ≠ a.number := other c hc hck
  rw [hbn] at hpn
  rw [hcn] at hqn
  rw [haq]
  by_cases e : q = p
  · subst e
    have e1 : (s.modifyAccount a.number f.applyTo).movePayer (some q) q =
        s.modifyAccount a.number f.applyTo := by unfold State.movePayer; rw [if_pos rfl]
    rw [e1]
    show MembersFit (s.accounts.map fun b => if b.number = a.number then f.applyTo b else b)
    refine g.map (fun b _ => ?_) (fun b _ => ?_) (fun b hb => ?_) (fun b _ => ?_) (fun b hb => ?_)
      fun b _ => ?_ <;> split
    · rfl
    · rfl
    · rfl
    · rfl
    · next h => rw [eq_of_account o ha hb (h.trans hn), UpdateForm.applyTo_payer hp, haq]
    · rfl
    · rfl
    · rfl
    · next h => rw [eq_of_account o ha hb (h.trans hn)]; exact fun _ => hs
    · exact id
    · exact .inl
    · exact .inl
  · rw [accounts_movePayer e]
    have hperm := dropAccount_perm o ha
    have g' := g.perm hperm
    have hr : ∀ x ∈ (s.dropAccount f.number).accounts, x ∈ s.accounts ∧ x.number ≠ a.number := by
      intro x hx
      have := List.mem_filter.1 (show x ∈ s.accounts.filter fun b => b.number != f.number from hx)
      exact ⟨this.1, by rw [hn]; simpa using this.2⟩
    set r := (s.dropAccount f.number).accounts with hrdef
    have hfa : withMemberOf p (withoutMemberOf q (if a.number = a.number then f.applyTo a else a)) =
        f.applyTo a := by
      have h1 : ¬(f.applyTo a).number = q := fun h => hqn h.symm
      have h2 : ¬(f.applyTo a).number = p := fun h => hpn h.symm
      rw [if_pos rfl]
      unfold withoutMemberOf
      rw [if_neg h1]
      unfold withMemberOf
      rw [if_neg h2]
    have hmap : (r.map fun x => withMemberOf p (withoutMemberOf q
        (if x.number = a.number then f.applyTo x else x))) =
        r.map fun x => withMemberOf p (withoutMemberOf q x) :=
      List.map_congr_left fun x hx => by rw [if_neg (hr x hx).2]
    refine MembersFit.perm (hperm.map _).symm ?_
    rw [List.map_cons, hfa, hmap]
    have hnum : ∀ x, (withMemberOf p (withoutMemberOf q x)).number = x.number := fun x =>
      (withMemberOf_number _ _).trans (withoutMemberOf_number _ _)
    have hkind : ∀ x, (withMemberOf p (withoutMemberOf q x)).kind = x.kind := fun x =>
      (withMemberOf_kind _ _).trans (by unfold withoutMemberOf; split <;> rfl)
    have hpay : ∀ x, (withMemberOf p (withoutMemberOf q x)).payer = x.payer := fun x =>
      (withMemberOf_payer _ _).trans (by unfold withoutMemberOf; split <;> rfl)
    have hcount : ∀ x, (withMemberOf p (withoutMemberOf q x)).memberCount =
        (if x.number = q then x.memberCount - 1 else x.memberCount) + if p = x.number then 1 else 0 := by
      intro x
      rw [withMemberOf_memberCount, withoutMemberOf_number]
      unfold withoutMemberOf
      split <;> rfl
    have ht : ∀ m, memberTally (f.applyTo a :: r.map fun x => withMemberOf p (withoutMemberOf q x)) m =
        memberTally r m + if p = m then 1 else 0 := by
      intro m
      rw [memberTally_cons, memberTally_map fun x _ => hpay x, UpdateForm.applyTo_payer hp]
      simp
    have ht0 : ∀ m, memberTally (a :: r) m = memberTally r m + if q = m then 1 else 0 := by
      intro m
      rw [memberTally_cons, haq]
      simp
    refine ⟨?_, ?_, ?_, ?_⟩ <;> intro y hy <;> rcases List.mem_cons.1 hy with rfl | hy
    · exact hs
    · obtain ⟨x, hx, rfl⟩ := List.mem_map.1 hy
      refine withMemberOf_suits ?_
      have := g'.suits x (List.mem_cons_of_mem _ hx)
      unfold withoutMemberOf
      split <;> exact this
    · intro m h
      rw [UpdateForm.applyTo_payer hp] at h
      obtain rfl := Option.some.inj h
      have hbr : b ∈ r := by
        rcases List.mem_cons.1 (hperm.mem_iff.1 hbm) with rfl | h
        · exact absurd hbn.symm hpn
        · exact h
      exact ⟨_, List.mem_cons_of_mem _ (List.mem_map_of_mem hbr), (hnum b).trans hbn,
        by rw [hkind]; exact hbk⟩
    · obtain ⟨x, hx, rfl⟩ := List.mem_map.1 hy
      intro m h
      rw [hpay] at h
      obtain ⟨d, hd, hdn, hdk⟩ := g'.payers x (List.mem_cons_of_mem _ hx) m h
      have hdr : d ∈ r := by
        rcases List.mem_cons.1 hd with rfl | h
        · rw [hk] at hdk; rcases hdk with hdk | hdk <;> cases hdk
        · exact h
      exact ⟨_, List.mem_cons_of_mem _ (List.mem_map_of_mem hdr), (hnum d).trans hdn,
        by rw [hkind]; exact hdk⟩
    · rw [ht]
      have h1 := g'.tally a (by simp)
      rw [ht0, if_neg hqn] at h1
      rw [if_neg (show p ≠ (f.applyTo a).number from hpn)]
      exact h1
    · obtain ⟨x, hx, rfl⟩ := List.mem_map.1 hy
      have h1 := g'.tally x (List.mem_cons_of_mem _ hx)
      rw [ht0] at h1
      rw [ht, hnum, hcount, h1]
      by_cases h : x.number = q
      · rw [if_pos h, if_pos h.symm]; omega
      · rw [if_neg h, if_neg (Ne.symm h)]; rfl
    · exact g'.closing a (by simp)
    · obtain ⟨x, hx, rfl⟩ := List.mem_map.1 hy
      refine withMemberOf_closing ?_ ?_
      · have := g'.closing x (List.mem_cons_of_mem _ hx)
        unfold withoutMemberOf
        split
        · intro h; show x.memberCount - 1 = 0; rw [this h]
        · exact this
      · intro h
        rw [withoutMemberOf_number] at h
        have hxb : x = b := eq_of_account o hb (hr x hx).1 h
        subst hxb
        unfold withoutMemberOf
        split <;> exact hbs

/-- A record with another list of tokens. -/
theorem MembersFit.tokens {l : List Account} (g : MembersFit l) (n : Nat) (f : Account → List Token) :
    MembersFit (l.map fun a => if a.number = n then { a with tokens := f a } else a) := by
  refine g.map (fun b _ => ?_) (fun b _ => ?_) (fun b _ => ?_) (fun b _ => ?_) (fun b _ => ?_)
    fun b _ => ?_ <;> split
  · rfl
  · rfl
  · rfl
  · rfl
  · rfl
  · rfl
  · rfl
  · rfl
  · exact id
  · exact id
  · exact .inl
  · exact .inl

theorem Edit.members {s t : State} (h : Edit s t) (hm : MembersLaw s) : MembersLaw t := by
  have o := hm.1
  obtain ⟨-, g⟩ := (membersLaw_iff s).1 hm
  refine (membersLaw_iff t).2 ⟨h.inOrder o, ?_⟩
  cases h with
  | carry f ha hk hn hf => rw [ha]; exact g.carry (hf o)
  | settled c ha hk => exact g.settled c o ha hk
  | remove h =>
    obtain ⟨a, ha, hc⟩ := h o
    exact g.remove o ha hc
  | enter a ha hk hn he hp hl hz hx ht => rw [ha]; exact g.enter (account_none_iff (hn hm)) he hp
  | enterMember hn he hk hp hq hl ht => exact g.enterMember o hn he hp hq
  | movePayer ha hv hp hq => exact g.movePayer o ha hv hp hq
  | bind ha hk h ht hl hm => exact g.tokens _ _
  | unbind ht h => exact g.tokens _ _
  | clear ha hk => rw [ha]; exact ⟨by simp, by simp, by simp, by simp⟩

/-- The law of members is kept by every move (R7). -/
theorem Move.members {s t : State} (h : Move L s t) (hm : MembersLaw s) : MembersLaw t :=
  (h.edits hm).keeps (fun _ _ e => e.members) hm

end Sys2Proof.Machine
end

section
/-! SUPPORT. The capacities and the law of the token lists, kept by every edit of the table (R1, R12, R14). -/

namespace Sys2Proof.Machine

variable {L : Prop}

/-! ### Capacities (R1, R14, R162) -/

/-- Records changed in neither number nor kind. -/
theorem transients_map {l : List Account} {f : Account → Account} (hf : ∀ a ∈ l, (f a).kind = a.kind) :
    ((l.map f).filter fun a => a.kind == .transient).length =
      (l.filter fun a => a.kind == .transient).length := by
  rw [← List.countP_eq_length_filter, ← List.countP_eq_length_filter, List.countP_map]
  exact List.countP_congr fun a ha => by simp [hf a ha]

theorem WithinCapacity.of_map {s t : State} {f : Account → Account} (h : WithinCapacity s)
    (ha : t.accounts = s.accounts.map f) (hf : ∀ a ∈ s.accounts, (f a).kind = a.kind)
    (hk : t.tokens.length ≤ Config.maxTokens) : WithinCapacity t := by
  obtain ⟨h1, h2, -⟩ := h
  refine ⟨by rw [ha, List.length_map]; exact h1, ?_, hk⟩
  unfold State.transientCount
  rw [ha, transients_map hf]
  exact h2

theorem WithinCapacity.of_sublist {s t : State} (h : WithinCapacity s)
    (ha : t.accounts.Sublist s.accounts) (hk : t.tokens.length ≤ s.tokens.length) : WithinCapacity t := by
  obtain ⟨h1, h2, h3⟩ := h
  exact ⟨ha.length_le.trans h1, (ha.filter _).length_le.trans h2, hk.trans h3⟩

/-- A new record among those before it: one TRANSIENT more if it is one. -/
theorem transients_insertAccount {a : Account} {l : List Account} (hn : ∀ b ∈ l, b.number ≠ a.number) :
    ((insertAccount a l).filter fun b => b.kind == .transient).length =
      (l.filter fun b => b.kind == .transient).length + if a.kind = .transient then 1 else 0 := by
  rw [((insertAccount_perm hn).filter _).length_eq, List.filter_cons]
  simp only [beq_iff_eq]
  split <;> rfl

theorem WithinCapacity.of_insert {s t : State} {a : Account} (h : WithinCapacity s)
    (hn : s.account a.number = none) (ha : t.accounts = insertAccount a s.accounts)
    (hl : s.accounts.length < Config.maxAccounts)
    (hz : a.kind = .transient → s.transientCount < Config.maxTransients)
    (hk : t.tokens.length ≤ Config.maxTokens) : WithinCapacity t := by
  obtain ⟨-, h2, -⟩ := h
  refine ⟨?_, ?_, hk⟩
  · rw [ha]
    exact (insertAccount_length_le a s.accounts).trans hl
  · unfold State.transientCount at *
    rw [ha, transients_insertAccount (account_none_iff hn)]
    split
    · next e => exact hz e
    · exact h2

theorem withMemberOf_tokens (p : Nat) (b : Account) : (withMemberOf p b).tokens = b.tokens := by
  unfold withMemberOf; split <;> rfl

theorem withMemberOf_state (p : Nat) (b : Account) : (withMemberOf p b).state = b.state := by
  unfold withMemberOf; split <;> rfl

/-- What a change of payer does to the table, as one function of a record (R20). -/
theorem exists_movePayer (s : State) (f : UpdateForm) (n : Nat) (q : Option Nat) (p : Nat) :
    ∃ g : Account → Account, ((s.modifyAccount n f.applyTo).movePayer q p).accounts = s.accounts.map g ∧
      ((s.modifyAccount n f.applyTo).movePayer q p).tokens = s.tokens ∧
      ∀ a, (g a).number = a.number ∧ (g a).kind = a.kind ∧ (g a).tokens = a.tokens ∧ (g a).state = a.state := by
  have hu : ∀ a : Account, (if a.number = n then f.applyTo a else a).number = a.number ∧
      (if a.number = n then f.applyTo a else a).kind = a.kind ∧
      (if a.number = n then f.applyTo a else a).tokens = a.tokens ∧
      (if a.number = n then f.applyTo a else a).state = a.state := fun a => by
    split <;> exact ⟨rfl, rfl, rfl, rfl⟩
  have hd : ∀ (q : Nat) (a : Account), (withoutMemberOf q a).kind = a.kind ∧
      (withoutMemberOf q a).tokens = a.tokens ∧ (withoutMemberOf q a).state = a.state := fun q a => by
    unfold withoutMemberOf; split <;> exact ⟨rfl, rfl, rfl⟩
  by_cases h : q = some p
  · refine ⟨_, ?_, ?_, hu⟩ <;> · unfold State.movePayer; rw [if_pos h]; rfl
  · cases q with
    | none =>
      refine ⟨fun a => withMemberOf p (if a.number = n then f.applyTo a else a), ?_, ?_, fun a => ?_⟩
      · unfold State.movePayer
        rw [if_neg h]
        show List.map _ (List.map _ _) = _
        rw [List.map_map]
        rfl
      · unfold State.movePayer
        rw [if_neg h]
        rfl
      · obtain ⟨h1, h2, h3, h4⟩ := hu a
        exact ⟨(withMemberOf_number _ _).trans h1, (withMemberOf_kind _ _).trans h2,
          (withMemberOf_tokens _ _).trans h3, (withMemberOf_state _ _).trans h4⟩
    | some q =>
      refine ⟨_, accounts_movePayer (by simpa using h), ?_, fun a => ?_⟩
      · unfold State.movePayer
        rw [if_neg h]
        rfl
      · obtain ⟨h1, h2, h3, h4⟩ := hu a
        obtain ⟨g2, g3, g4⟩ := hd q (if a.number = n then f.applyTo a else a)
        exact ⟨(withMemberOf_number _ _).trans ((withoutMemberOf_number _ _).trans h1),
          (withMemberOf_kind _ _).trans (g2.trans h2), (withMemberOf_tokens _ _).trans (g3.trans h3),
          (withMemberOf_state _ _).trans (g4.trans h4)⟩

/-- The records after a removal are a part of those before, the payer's member count apart. -/
theorem exists_removeAccount {s : State} {n : Nat} {a : Account} (ha : s.account n = some a) :
    ∃ g : Account → Account,
      (s.removeAccount n).accounts = (s.accounts.map g).filter (fun b => b.number != n) ∧
      ∀ b, (g b).number = b.number ∧ (g b).kind = b.kind ∧ (g b).tokens = b.tokens ∧ (g b).state = b.state :=
  ⟨_, accounts_removeAccount ha, fun b => by split <;> exact ⟨rfl, rfl, rfl, rfl⟩⟩

theorem Edit.capacity {s t : State} (h : Edit s t) (hm : MembersLaw s) (hc : WithinCapacity s) :
    WithinCapacity t := by
  have o := hm.1
  have hk := hc.2.2
  cases h with
  | carry f ha ht hn hf => exact hc.of_map ha (fun a h => (hf o a h).kind) (by rw [ht]; exact hk)
  | settled c ha hkind =>
    exact hc.of_map (t := State.settleTransient _ _ _ c) rfl (fun a _ => by split <;> rfl)
      ((List.length_filter_le _ _).trans hk)
  | remove h =>
    obtain ⟨a, ha, -⟩ := h o
    obtain ⟨g, hg, hp⟩ := exists_removeAccount ha
    have h1 : WithinCapacity { s with accounts := s.accounts.map g } :=
      hc.of_map rfl (fun b _ => (hp b).2.1) hk
    refine h1.of_sublist (by rw [hg]; exact List.filter_sublist) ?_
    rw [tokens_removeAccount ha]
    exact List.length_filter_le _ _
  | enter a ha ht hn he hp hl hz hx htok =>
    refine hc.of_insert (hn hm) ha hl hz ?_
    rw [ht, List.length_append, List.length_map]
    split at htok
    · obtain ⟨-, k, hk', -⟩ := htok
      rcases hx with hx | hx
      · rw [hx] at hk'; cases hk'
      · rw [hk']; exact hx
    · rw [htok]; exact hk
  | enterMember hn he hkind hp hq hl ht =>
    have h1 : WithinCapacity (s.addAccount _) :=
      hc.of_insert hn rfl hl (fun e => by rw [hkind] at e; cases e) hk
    exact h1.of_map (t := State.addMember _ _) rfl (fun b _ => by split <;> rfl) hk
  | movePayer ha hv hp hq =>
    obtain ⟨g, hg, ht, hp⟩ := exists_movePayer s _ _ _ _
    exact hc.of_map hg (fun a _ => (hp a).2.1) (by rw [ht]; exact hk)
  | bind ha hk' h ht hl hx =>
    refine hc.of_map (t := State.bindToken _ _ _) rfl (fun b _ => by split <;> rfl) ?_
    show (s.tokens ++ [_]).length ≤ _
    rw [List.length_append]
    exact hx
  | unbind ht h =>
    exact hc.of_map (t := State.unbindToken _ _ _) rfl (fun b _ => by split <;> rfl)
      ((List.length_filter_le _ _).trans hk)
  | clear ha ht => exact ⟨by simp [ha], by simp [State.transientCount, ha], by simp [ht]⟩

/-! ### The law of the token lists (R12, R14) -/

/-- The tokens that the index binds to `n`, in their order. -/
def tokensOf (ts : List TokenEntry) (n : Nat) : List Token :=
  (ts.filter fun e => e.account == n).map TokenEntry.token

/-- A record holds as many tokens as its kind and state let it. -/
def Account.tokensFit (a : Account) : Prop :=
  if a.kind = .transient then a.tokens.length = if a.state = .settled then 0 else 1
  else a.tokens.length ≤ Config.maxTokensPerAccount

/-- The law of R12 and R14, of a table and an index. -/
structure TokensFit (l : List Account) (ts : List TokenEntry) : Prop where
  once : (ts.map TokenEntry.token).Nodup
  nonzero : ∀ e ∈ ts, e.token ≠ 0#64
  named : ∀ e ∈ ts, ∃ a ∈ l, a.number = e.account
  lists : ∀ a ∈ l, a.tokens = tokensOf ts a.number
  fits : ∀ a ∈ l, a.tokensFit

theorem account_isSome_iff (s : State) (n : Nat) : (s.account n).isSome ↔ ∃ a ∈ s.accounts, a.number = n := by
  unfold State.account
  rw [List.find?_isSome]
  simp

theorem tokenListsLaw_iff (s : State) : TokenListsLaw s ↔ TokensFit s.accounts s.tokens := by
  unfold TokenListsLaw TokensLaw
  simp only [account_isSome_iff]
  exact ⟨fun ⟨⟨h1, h2⟩, h3, h4⟩ => ⟨h1, h2, h3, fun a h => (h4 a h).1, fun a h => (h4 a h).2⟩,
    fun ⟨h1, h2, h3, h4, h5⟩ => ⟨⟨h1, h2⟩, h3, fun a h => ⟨h4 a h, h5 a h⟩⟩⟩

/-- Records changed in what the law does not read. -/
theorem TokensFit.map {l : List Account} {ts : List TokenEntry} {f : Account → Account}
    (g : TokensFit l ts) (hn : ∀ a ∈ l, (f a).number = a.number) (ht : ∀ a ∈ l, (f a).tokens = a.tokens)
    (hf : ∀ a ∈ l, a.tokensFit → (f a).tokensFit) : TokensFit (l.map f) ts := by
  refine ⟨g.once, g.nonzero, fun e he => ?_, ?_, ?_⟩
  · obtain ⟨a, ha, h⟩ := g.named e he
    exact ⟨f a, List.mem_map_of_mem ha, (hn a ha).trans h⟩
  all_goals intro b hb; obtain ⟨a, ha, rfl⟩ := List.mem_map.1 hb
  · rw [ht a ha, hn a ha]; exact g.lists a ha
  · exact hf a ha (g.fits a ha)

theorem Account.tokensFit_of_eq {a b : Account} (hk : b.kind = a.kind) (ht : b.tokens = a.tokens)
    (hs : b.state = a.state) (h : a.tokensFit) : b.tokensFit := by
  unfold Account.tokensFit at *
  rw [hk, ht, hs]; exact h

theorem Account.Carries.tokensFit {a b : Account} (h : a.Carries b) (g : a.tokensFit) : b.tokensFit := by
  unfold Account.tokensFit at *
  rw [h.kind, h.tokens]
  by_cases hk : a.kind = .transient
  · rw [if_pos hk] at g ⊢
    rcases h.state with e | ⟨e1, e2⟩ | ⟨e, _⟩
    · rw [e]; exact g
    · rw [g, e1, e2]; rfl
    · exact absurd hk e
  · rw [if_neg hk] at g ⊢
    exact g

/-- With each token once, the tokens of `n` are found in the entries of `n` alone. -/
theorem TokensFit.mem_tokensOf {l : List Account} {ts : List TokenEntry} (g : TokensFit l ts)
    {e : TokenEntry} (he : e ∈ ts) (n : Nat) : e.token ∈ tokensOf ts n ↔ e.account = n := by
  unfold tokensOf
  constructor
  · intro h
    obtain ⟨d, hd, hde⟩ := List.mem_map.1 h
    obtain ⟨hdt, hdn⟩ := List.mem_filter.1 hd
    have : d = e := List.inj_on_of_nodup_map g.once hdt he hde
    rw [← this]
    simpa using hdn
  · intro h
    exact List.mem_map.2 ⟨e, List.mem_filter.2 ⟨he, by simpa using h⟩, rfl⟩

/-- Dropping the tokens of `n` from the index drops the entries of `n`. -/
theorem TokensFit.filter_tokensOf {l : List Account} {ts : List TokenEntry} (g : TokensFit l ts) (n : Nat) :
    (ts.filter fun e => !(tokensOf ts n).contains e.token) = ts.filter fun e => e.account != n := by
  refine List.filter_congr fun e he => ?_
  by_cases h : e.account = n
  · simp [h, (g.mem_tokensOf he n).2 h]
  · have := mt (g.mem_tokensOf he n).1 h
    simp [h, this]

/-- What is left of the index when the entries of `n` are gone. -/
theorem tokensOf_filter_account (ts : List TokenEntry) (n m : Nat) :
    tokensOf (ts.filter fun e => e.account != n) m = if m = n then [] else tokensOf ts m := by
  unfold tokensOf
  rw [List.filter_filter]
  split
  · next h =>
    subst h
    rw [List.filter_eq_nil_iff.2 (by simp)]
    rfl
  · next h =>
    congr 1
    refine List.filter_congr fun e _ => ?_
    by_cases he : e.account = m
    · simp [he, h]
    · simp [he]

/-- Fewer entries: each token still once and none 0. -/
theorem TokensFit.once_filter {l : List Account} {ts : List TokenEntry} (g : TokensFit l ts)
    (p : TokenEntry → Bool) : ((ts.filter p).map TokenEntry.token).Nodup :=
  g.once.sublist ((List.filter_sublist).map _)

/-- The records other than `n`, with the entries of `n` gone from the index. -/
theorem TokensFit.dropAccount {l : List Account} {ts : List TokenEntry} {n : Nat} (g : TokensFit l ts) :
    TokensFit (l.filter fun b => b.number != n) (ts.filter fun e => e.account != n) := by
  refine ⟨g.once_filter _, fun e he => g.nonzero e (List.mem_filter.1 he).1, fun e he => ?_, ?_, ?_⟩
  · obtain ⟨he1, he2⟩ := List.mem_filter.1 he
    obtain ⟨a, ha, h⟩ := g.named e he1
    exact ⟨a, List.mem_filter.2 ⟨ha, by rw [h]; exact he2⟩, h⟩
  all_goals intro a ha; obtain ⟨ha1, ha2⟩ := List.mem_filter.1 ha
  · rw [tokensOf_filter_account, if_neg (by simpa using ha2)]
    exact g.lists a ha1
  · exact g.fits a ha1

/-- A TRANSIENT record SETTLED, its token out of the index (R76). -/
theorem TokensFit.settled {s : State} {n : Nat} {a : Account} (c : Nat) (o : AccountsInOrder s)
    (g : TokensFit s.accounts s.tokens) (ha : s.account n = some a) (hk : a.kind = .transient) :
    TokensFit (s.settleTransient n a c).accounts (s.settleTransient n a c).tokens := by
  have hm := State.account_mem s ha
  have hn := State.account_number s ha
  have ht : (s.settleTransient n a c).tokens = s.tokens.filter fun e => e.account != n := by
    rw [← g.filter_tokensOf n, ← hn, ← g.lists a hm]
    rfl
  rw [ht]
  show TokensFit (s.accounts.map fun b => if b.number = n then b.asSettled c else b) _
  have hnum : ∀ b : Account, (if b.number = n then b.asSettled c else b).number = b.number := fun b => by
    split <;> rfl
  refine ⟨g.once_filter _, fun e he => g.nonzero e (List.mem_filter.1 he).1, fun e he => ?_, ?_, ?_⟩
  · obtain ⟨b, hb, h⟩ := g.named e (List.mem_filter.1 he).1
    exact ⟨_, List.mem_map_of_mem hb, (hnum b).trans h⟩
  all_goals intro x hx; obtain ⟨b, hb, rfl⟩ := List.mem_map.1 hx
  · rw [hnum b, tokensOf_filter_account]
    split
    · rfl
    · exact g.lists b hb
  · split
    · next e =>
      obtain rfl := eq_of_account o ha hb e
      unfold Account.tokensFit
      simp [Account.asSettled, hk]
    · exact g.fits b hb

theorem TokensFit.remove {s : State} {n : Nat} {a : Account} (g : TokensFit s.accounts s.tokens)
    (ha : s.account n = some a) : TokensFit (s.removeAccount n).accounts (s.removeAccount n).tokens := by
  obtain ⟨f, hf, hp⟩ := exists_removeAccount ha
  have hm := State.account_mem s ha
  have hn := State.account_number s ha
  rw [hf, tokens_removeAccount ha, g.lists a hm, hn, g.filter_tokensOf n]
  exact (g.map (fun b _ => (hp b).1) (fun b _ => (hp b).2.2.1)
    fun b _ => Account.tokensFit_of_eq (hp b).2.1 (hp b).2.2.1 (hp b).2.2.2).dropAccount

/-- No entry names a number that no record has. -/
theorem TokensFit.tokensOf_absent {l : List Account} {ts : List TokenEntry} (g : TokensFit l ts) {n : Nat}
    (hn : ∀ b ∈ l, b.number ≠ n) : tokensOf ts n = [] := by
  unfold tokensOf
  rw [List.filter_eq_nil_iff.2 fun e he => ?_]
  · rfl
  · obtain ⟨b, hb, h⟩ := g.named e he
    simpa [← h] using hn b hb

theorem tokensOf_append (ts us : List TokenEntry) (n : Nat) :
    tokensOf (ts ++ us) n = tokensOf ts n ++ tokensOf us n := by simp [tokensOf]

theorem tokensOf_singleton (k : Token) (n m : Nat) : tokensOf [⟨k, n⟩] m = if n = m then [k] else [] := by
  unfold tokensOf
  by_cases h : n = m <;> simp [h]

theorem tokenAccount_none {s : State} {k : Token} (h : s.tokenAccount k = none) :
    ∀ e ∈ s.tokens, e.token ≠ k := by
  intro e he
  have := List.find?_eq_none.1 (Option.map_eq_none_iff.1 h) e he
  simpa using this

theorem tokenAccount_some {s : State} {k : Token} {n : Nat} (h : s.tokenAccount k = some n) :
    ⟨k, n⟩ ∈ s.tokens := by
  obtain ⟨e, he, hn⟩ := Option.map_eq_some_iff.1 h
  have h1 := List.mem_of_find?_eq_some he
  have h2 : e.token = k := by simpa using List.find?_some he
  rw [← h2, ← hn]
  exact h1

/-- A fresh token entered at the end of the index. -/
theorem once_append {s : State} {k : Token} {n : Nat} (h : (s.tokens.map TokenEntry.token).Nodup)
    (hk : s.tokenAccount k = none) : ((s.tokens ++ [TokenEntry.mk k n]).map TokenEntry.token).Nodup := by
  rw [List.map_append, List.nodup_append]
  refine ⟨h, List.nodup_singleton _, fun x hx y hy => ?_⟩
  obtain ⟨e, he, rfl⟩ := List.mem_map.1 hx
  obtain rfl := List.mem_singleton.1 hy
  exact tokenAccount_none hk e he

theorem TokensFit.enterTokenless {l : List Account} {ts : List TokenEntry} {a : Account} (g : TokensFit l ts)
    (hn : ∀ b ∈ l, b.number ≠ a.number) (hk : a.kind ≠ .transient) (ht : a.tokens = []) :
    TokensFit (insertAccount a l) ts := by
  have hmem : ∀ b, b ∈ insertAccount a l ↔ b ∈ a :: l := fun b => (insertAccount_perm hn).mem_iff
  refine ⟨g.once, g.nonzero, fun e he => ?_, ?_, ?_⟩
  · obtain ⟨b, hb, h⟩ := g.named e he
    exact ⟨b, (hmem b).2 (List.mem_cons_of_mem _ hb), h⟩
  all_goals intro b hb; rcases List.mem_cons.1 ((hmem b).1 hb) with rfl | hb
  · rw [ht, g.tokensOf_absent hn]
  · exact g.lists b hb
  · unfold Account.tokensFit
    rw [if_neg hk, ht]
    exact Nat.zero_le _
  · exact g.fits b hb

theorem TokensFit.enterWalkup {s : State} {a : Account} {k : Token} (g : TokensFit s.accounts s.tokens)
    (hn : ∀ b ∈ s.accounts, b.number ≠ a.number) (hk : a.kind = .transient) (hs : a.state ≠ .settled)
    (ht : a.tokens = [k]) (h0 : k ≠ 0#64) (hf : s.tokenAccount k = none) :
    TokensFit (insertAccount a s.accounts) (s.tokens ++ [⟨k, a.number⟩]) := by
  have hmem : ∀ b, b ∈ insertAccount a s.accounts ↔ b ∈ a :: s.accounts := fun b =>
    (insertAccount_perm hn).mem_iff
  refine ⟨once_append g.once hf, fun e he => ?_, fun e he => ?_, ?_, ?_⟩
  · rcases List.mem_append.1 he with he | he
    · exact g.nonzero e he
    · rw [List.mem_singleton.1 he]; exact h0
  · rcases List.mem_append.1 he with he | he
    · obtain ⟨b, hb, h⟩ := g.named e he
      exact ⟨b, (hmem b).2 (List.mem_cons_of_mem _ hb), h⟩
    · rw [List.mem_singleton.1 he]
      exact ⟨a, (hmem a).2 (by simp), rfl⟩
  all_goals intro b hb; rcases List.mem_cons.1 ((hmem b).1 hb) with rfl | hb
  · rw [tokensOf_append, g.tokensOf_absent hn, tokensOf_singleton, if_pos rfl, ht]
    rfl
  · rw [tokensOf_append, tokensOf_singleton, if_neg (Ne.symm (hn b hb)), List.append_nil]
    exact g.lists b hb
  · unfold Account.tokensFit
    simp [hk, hs, ht]
  · exact g.fits b hb

theorem TokensFit.bind {s : State} {k : Token} {n : Nat} {a : Account} (o : AccountsInOrder s)
    (g : TokensFit s.accounts s.tokens) (ha : s.account n = some a) (h0 : k ≠ 0#64)
    (hk : a.kind ≠ .transient) (hf : s.tokenAccount k = none)
    (hl : a.tokens.length < Config.maxTokensPerAccount) :
    TokensFit (s.bindToken k n).accounts (s.bindToken k n).tokens := by
  show TokensFit (s.accounts.map fun b => if b.number = n then { b with tokens := b.tokens ++ [k] } else b)
    (s.tokens ++ [⟨k, n⟩])
  have hnum : ∀ b : Account,
      (if b.number = n then { b with tokens := b.tokens ++ [k] } else b : Account).number = b.number :=
    fun b => by split <;> rfl
  refine ⟨once_append g.once hf, fun e he => ?_, fun e he => ?_, ?_, ?_⟩
  · rcases List.mem_append.1 he with he | he
    · exact g.nonzero e he
    · rw [List.mem_singleton.1 he]; exact h0
  · rcases List.mem_append.1 he with he | he
    · obtain ⟨b, hb, h⟩ := g.named e he
      exact ⟨_, List.mem_map_of_mem hb, (hnum b).trans h⟩
    · rw [List.mem_singleton.1 he]
      exact ⟨_, List.mem_map_of_mem (State.account_mem s ha), (hnum a).trans (State.account_number s ha)⟩
  all_goals intro x hx; obtain ⟨b, hb, rfl⟩ := List.mem_map.1 hx
  · rw [hnum b, tokensOf_append, tokensOf_singleton, ← g.lists b hb]
    by_cases e : b.number = n
    · rw [if_pos e, if_pos e.symm]
    · rw [if_neg e, if_neg (Ne.symm e), List.append_nil]
  · split
    · next e =>
      obtain rfl := eq_of_account o ha hb e
      unfold Account.tokensFit
      rw [if_neg (by exact hk)]
      show (b.tokens ++ [k]).length ≤ _
      rw [List.length_append]
      exact hl
    · exact g.fits b hb

theorem tokensOf_filter_token (ts : List TokenEntry) (k : Token) (m : Nat) :
    tokensOf (ts.filter fun e => e.token != k) m = (tokensOf ts m).filter fun u => u != k := by
  unfold tokensOf
  rw [List.filter_filter, List.filter_map, List.filter_filter]
  congr 1
  refine List.filter_congr fun e _ => ?_
  exact Bool.and_comm _ _

theorem TokensFit.unbind {s : State} {k : Token} {n : Nat} (g : TokensFit s.accounts s.tokens)
    (ho : AccountsInOrder s) (ht : s.tokenAccount k = some n)
    (h : ∀ a, s.account n = some a → a.kind ≠ .transient) :
    TokensFit (s.unbindToken k n).accounts (s.unbindToken k n).tokens := by
  show TokensFit (s.accounts.map fun b =>
    if b.number = n then { b with tokens := b.tokens.filter fun u => u != k } else b)
    (s.tokens.filter fun e => e.token != k)
  have hnum : ∀ b : Account, (if b.number = n then { b with tokens := b.tokens.filter fun u => u != k }
      else b : Account).number = b.number := fun b => by split <;> rfl
  have hmem := tokenAccount_some ht
  refine ⟨g.once_filter _, fun e he => g.nonzero e (List.mem_filter.1 he).1, fun e he => ?_, ?_, ?_⟩
  · obtain ⟨b, hb, h⟩ := g.named e (List.mem_filter.1 he).1
    exact ⟨_, List.mem_map_of_mem hb, (hnum b).trans h⟩
  all_goals intro x hx; obtain ⟨b, hb, rfl⟩ := List.mem_map.1 hx
  · rw [hnum b, tokensOf_filter_token, ← g.lists b hb]
    split
    · rfl
    · next e =>
      refine (List.filter_eq_self.2 fun u hu => ?_).symm
      rw [g.lists b hb] at hu
      simp only [bne_iff_ne]
      rintro rfl
      exact e ((g.mem_tokensOf hmem b.number).1 hu).symm
  · split
    · next e =>
      have hk := h b (e ▸ account_of_mem ho hb)
      have := g.fits b hb
      unfold Account.tokensFit at this ⊢
      rw [if_neg hk] at this
      rw [if_neg (by exact hk)]
      exact (List.length_filter_le _ _).trans this
    · exact g.fits b hb

/-- The law of the token lists is kept by every edit. -/
theorem Edit.tokenLists {s t : State} (h : Edit s t) (hm : MembersLaw s) (ht : TokenListsLaw s) :
    TokenListsLaw t := by
  have o := hm.1
  rw [tokenListsLaw_iff] at ht ⊢
  cases h with
  | carry f ha hk hn hf =>
    rw [ha, hk]
    exact ht.map (fun a _ => hn a) (fun a h => (hf o a h).tokens) fun a h => (hf o a h).tokensFit
  | settled c ha hk => exact ht.settled c o ha hk
  | remove h =>
    obtain ⟨a, ha, -⟩ := h o
    exact ht.remove ha
  | enter a ha hk hn he hp hl hz hx htok =>
    have hne := account_none_iff (hn hm)
    rw [ha, hk]
    split at htok
    · next e =>
      obtain ⟨h1, k, h2, h3, h4⟩ := htok
      rw [h2]
      exact ht.enterWalkup hne e h1 h2 h3 h4
    · next e =>
      rw [htok, List.map_nil, List.append_nil]
      exact ht.enterTokenless hne e htok
  | enterMember hn he hk hp hq hl htok =>
    have h1 := ht.enterTokenless (account_none_iff hn) (by rw [hk]; decide) htok
    exact h1.map (f := withMemberOf _) (fun b _ => withMemberOf_number _ b)
      (fun b _ => withMemberOf_tokens _ b) fun b _ =>
        Account.tokensFit_of_eq (withMemberOf_kind _ b) (withMemberOf_tokens _ b) (withMemberOf_state _ b)
  | movePayer ha hv hp hq =>
    obtain ⟨g, hg, hk, hp⟩ := exists_movePayer s _ _ _ _
    rw [hg, hk]
    exact ht.map (fun b _ => (hp b).1) (fun b _ => (hp b).2.2.1)
      fun b _ => Account.tokensFit_of_eq (hp b).2.1 (hp b).2.2.1 (hp b).2.2.2
  | bind ha hk h hf hl hx => exact ht.bind o ha hk h hf hl
  | unbind hf h => exact ht.unbind o hf h
  | clear ha hk => rw [ha, hk]; exact ⟨by simp, by simp, by simp, by simp, by simp⟩

theorem Edit.tokenBooks {s t : State} (h : Edit s t) (hb : TokenBooksLaw s) : TokenBooksLaw t := by
  obtain ⟨hm, hc, ht⟩ := hb
  exact ⟨h.members hm, h.capacity hm hc, h.tokenLists hm ht⟩

theorem Move.tokenBooks {s t : State} (h : Move L s t) (hb : TokenBooksLaw s) : TokenBooksLaw t :=
  (h.edits hb.1).keeps (fun _ _ e => e.tokenBooks) hb

theorem Move.capacity {s t : State} (h : Move L s t) (hm : MembersLaw s) (hc : WithinCapacity s) :
    WithinCapacity t :=
  ((h.edits hm).keeps (P := fun u => MembersLaw u ∧ WithinCapacity u)
    (fun _ _ e hu => ⟨e.members hu.1, e.capacity hu.1 hu.2⟩) ⟨hm, hc⟩).2

/-- Settles O8: every step is a run of moves, every move a run of edits of the table and the index, and
every edit keeps the law. -/
theorem tokenListsMatchTheIndex : Obligations.TokenListsMatchTheIndex :=
  fun _ _ hb h => (step_moves h).keeps (fun _ _ m => m.tokenBooks) hb

end Sys2Proof.Machine
end

section
/-! SUPPORT. Tariffs, schedules, readers and the figures of accounts, kept by every move (O12). -/

namespace Sys2Proof.Machine

variable {L : Prop}

/-! ### Tables and readers (R33, R37, R149) -/

/-- Tariffs and schedules as they were, and every reader in range if it was. -/
structure KeepsBoards (s t : State) : Prop where
  tariffs : TariffsLaw s → TariffsLaw t
  schedules : SchedulesLaw s → SchedulesLaw t
  readers : ReadersLaw s → ReadersLaw t

/-- A display leaves the figures of a reader. -/
theorem Reader.inRange_shown {s t : State} {i : StationId} {d : Display} (h : ShownOn i d s t)
    (hr : (s.reader i).inRange) : (t.reader i).inRange := by
  unfold ShownOn at h
  rw [h]
  exact hr

/-- A change whose frame names neither tables nor readers, but for one display at most. -/
theorem KeepsBoards.of_frame {s t : State} {ps : List Part} (h : KeepsAllBut ps s t)
    (ht : Part.tariffs ∉ ps) (hd : Part.schedules ∉ ps) (hr : ReadersLaw s → ReadersLaw t) :
    KeepsBoards s t := by
  have e1 : t.tariffs = s.tariffs := h _ ht
  have e2 : t.schedules = s.schedules := h _ hd
  exact ⟨by unfold TariffsLaw; rw [e1]; exact id, by unfold SchedulesLaw; rw [e2]; exact id, hr⟩

/-- A change that leaves tables and readers. -/
theorem KeepsBoards.of_eq {s t : State} (ht : t.tariffs = s.tariffs) (hd : t.schedules = s.schedules)
    (hr : ∀ i, t.reader i = s.reader i) : KeepsBoards s t :=
  ⟨by unfold TariffsLaw; rw [ht]; exact id, by unfold SchedulesLaw; rw [hd]; exact id,
    fun h i => by rw [hr i]; exact h i⟩

theorem ReadersLaw.of_shown {s t : State} {i : StationId} {d : Display} (ho : KeepsOtherReaders i s t)
    (hd : ShownOn i d s t) (h : ReadersLaw s) : ReadersLaw t := fun k => by
  by_cases hk : k = i
  · subst hk; exact Reader.inRange_shown hd (h k)
  · rw [ho k hk]; exact h k

theorem ReadersLaw.of_placeDisplay {s t : State} {i : StationId} {d : Display}
    (e : ∀ k, t.reader k = s.reader k) (h : ReadersLaw s) : ReadersLaw (t.placeDisplay i d) :=
  (quiet_placeDisplay (L := True) t i d).reader |> fun g k => g k (by rw [e k]; exact h k)

theorem keepsBoards_openAt (s : State) (i : StationId) (u : Account) (o : OpenedBy) :
    KeepsBoards s (s.openAt i u o) := by
  have e : ∀ j : Job, ((s.modifyStation i fun st => { st with job := some j, state := .running }).placeHold j).tariffs
      = s.tariffs ∧ ((s.modifyStation i fun st => { st with job := some j, state := .running }).placeHold j).schedules
      = s.schedules ∧ ∀ k, ((s.modifyStation i fun st => { st with job := some j, state := .running }).placeHold j).reader k
      = s.reader k := by
    intro j
    unfold State.placeHold
    dsimp only
    split <;> exact ⟨rfl, rfl, fun _ => rfl⟩
  obtain ⟨e1, e2, e3⟩ := e (s.newJob i u o)
  refine ⟨fun h => ?_, fun h => ?_, fun h => ReadersLaw.of_placeDisplay e3 h⟩
  · show ∀ l : TariffLetter, (State.placeHold _ (s.newJob i u o)).tariffs[l].consistent
    rw [e1]; exact h
  · show ∀ n : Fin 4, (State.placeHold _ (s.newJob i u o)).schedules[n].wellFormed = true
    rw [e2]; exact h

/-- Tables and readers stay well formed under every move. -/
theorem Move.boards {s t : State} (h : Move L s t) : KeepsBoards s t := by
  cases h with
  | quiet h => exact ⟨h.tariffs, h.schedules, fun g i => h.reader i (g i)⟩
  | accounts f hn hf hr => exact .of_eq rfl rfl fun _ => rfl
  | raiseHold c hj =>
    exact .of_frame (keepsAllBut_raiseHold s _ _ c) (by decide) (by decide) fun h k => by
      rw [reader_raiseHold]; exact h k
  | settle hj ho hd =>
    obtain ⟨f1, -, f3, f4, -⟩ := settleJob_facts s _ _ _
    exact .of_frame f1 (by decide) (by decide) (ReadersLaw.of_shown f3 f4)
  | openJob by_ hu ha hs hj => exact keepsBoards_openAt s _ _ _
  | openWalkup hp ha hw hi hs hj =>
    obtain ⟨h1, h2, h3⟩ := keepsBoards_openAt s _ _ .reader
    exact ⟨h1, h2, h3⟩
  | startWalkup h hs hk ht =>
    exact ⟨id, id, fun h => ReadersLaw.of_placeDisplay (s := s) (fun _ => rfl) h⟩
  | endWalkup d hp ha hw hi =>
    obtain ⟨f1, -, f3, -, -, f6, -⟩ := endWalkup_facts s _ _ d
    exact .of_frame f1 (by decide) (by decide) (ReadersLaw.of_shown f3 f6)
  | load hf hn hl hp => exact .of_eq rfl rfl fun _ => rfl
  | loadMember hf hn hl hp hq => exact .of_eq rfl rfl fun _ => rfl
  | movePayer ha hv hp hj hq =>
    unfold State.movePayer
    split
    · exact .of_eq rfl rfl fun _ => rfl
    · split <;> exact .of_eq rfl rfl fun _ => rfl
  | remove ha h =>
    exact .of_frame (onlyAccounts_removeAccount s _).keepsAllBut (by decide) (by decide) fun h k => by
      rw [(onlyAccounts_removeAccount s _).reader]; exact h k
  | bind ha hk h ht hl hm => exact .of_eq rfl rfl fun _ => rfl
  | unbind ht h => exact .of_eq rfl rfl fun _ => rfl
  | reset ha hk hs hr ht hd => exact ⟨fun _ => ht, fun _ => hd, fun _ => hr⟩

/-! ### Figures (R5, R8, R10, R11) -/

/-- Every record of the table is in range. -/
def State.accountsInRange (s : State) : Prop := ∀ a ∈ s.accounts, a.inRange

theorem State.accountsInRange.modifyAccount {s : State} (h : s.accountsInRange) (n : Nat)
    {f : Account → Account} (hf : ∀ a : Account, a.inRange → (f a).inRange) :
    (s.modifyAccount n f).accountsInRange := by
  intro b hb
  obtain ⟨a, ha, rfl⟩ := List.mem_map.1 hb
  split
  · exact hf a (h a ha)
  · exact h a ha

theorem State.accountsInRange.raiseHold {s : State} (h : s.accountsInRange) (i : StationId) (j : Job)
    (c : Nat) : (s.raiseHold i j c).accountsInRange := by
  have h1 := State.accountsInRange.modifyAccount (s := s.modifyJob i fun k => { k with hold := k.hold + c })
    h j.billing (f := fun a => { a with held := a.held + c }) fun _ h => h
  unfold State.raiseHold
  dsimp only
  split
  · exact h1
  · exact h1.modifyAccount j.user (f := fun a => { a with memberHeld := a.memberHeld + c }) fun _ h => h

theorem State.accountsInRange.placeHold {s : State} (h : s.accountsInRange) (j : Job) :
    (s.placeHold j).accountsInRange := by
  have h1 := h.modifyAccount j.billing (f := fun a =>
    { a with held := a.held + j.hold, openJobs := a.openJobs + 1 }) fun _ h => h
  unfold State.placeHold
  dsimp only
  split
  · exact h1
  · exact h1.modifyAccount j.user (f := fun a =>
      { a with memberHeld := a.memberHeld + j.hold, openJobs := a.openJobs + 1 }) fun _ h => h

theorem State.accountsInRange.openAt {s : State} (h : s.accountsInRange) (i : StationId) (u : Account)
    (o : OpenedBy) : (s.openAt i u o).accountsInRange :=
  State.accountsInRange.placeHold
    (s := s.modifyStation i fun st => { st with job := some (s.newJob i u o), state := .running }) h _

/-- The balance after a charge stays in its range (R5, R74). -/
theorem Account.inRange_charged {a : Account} (h : a.inRange) (c n : Nat) :
    ({ a with balance := chargedBalance a.balance c, held := n } : Account).inRange := by
  obtain ⟨h1, h2, h3⟩ := h
  refine ⟨?_, ?_, h3⟩
  · exact le_max_left (-999999999) _
  · show max Config.balanceFloor (a.balance - (c : Int)) ≤ 999999999
    simp only [Config.balanceFloor]
    omega

theorem zipEight_sat_le (u v : Vector Nat 8) (k : Fin 8) :
    (zipEight (satAdd Config.meterTop) u v)[k] ≤ 16777215 := by
  fin_cases k <;> exact min_le_right _ _

/-- The period figures after a settlement saturate in their ranges (R11, R75). -/
theorem Account.inRange_settleFigures {a : Account} (h : a.inRange) (j : Job) :
    (a.settleFigures j).inRange := by
  obtain ⟨h1, h2, h3, h4, h5, h6, -, -⟩ := h
  exact ⟨h1, h2, h3, h4, h5, h6, min_le_right _ _, zipEight_sat_le _ _⟩

theorem State.accountsInRange.settleMoney {s : State} (h : s.accountsInRange) (j : Job) :
    (s.settleMoney j).accountsInRange := by
  have h1 := h.modifyAccount j.billing fun a h =>
    Account.inRange_charged h (settlementCharge j).1 (a.held - j.hold)
  unfold State.settleMoney
  dsimp only
  split
  · exact h1
  · exact h1.modifyAccount j.user (f := fun a => { a with memberHeld := a.memberHeld - j.hold }) fun _ h => h

theorem State.accountsInRange.settlePeriod {s : State} (h : s.accountsInRange) (j : Job) :
    (s.settlePeriod j).accountsInRange := by
  have h1 := h.modifyAccount j.user fun a h => Account.inRange_settleFigures h j
  unfold State.settlePeriod
  dsimp only
  split
  · exact h1
  · exact h1.modifyAccount j.billing fun a h => Account.inRange_settleFigures h j

theorem State.accountsInRange.removeAccount {s : State} (h : s.accountsInRange) (n : Nat) :
    (s.removeAccount n).accountsInRange := by
  cases ha : s.account n with
  | none => unfold State.removeAccount; rw [ha]; exact h
  | some a =>
    intro b hb
    rw [accounts_removeAccount ha] at hb
    obtain ⟨c, hc, rfl⟩ := List.mem_map.1 (List.mem_filter.1 hb).1
    split
    · exact h c hc
    · exact h c hc

theorem State.accountsInRange.closeAccount {s : State} (h : s.accountsInRange) (c n : Nat) :
    (s.closeAccount c n).accountsInRange := by
  unfold State.closeAccount
  split
  · exact h
  · next a _ =>
    split_ifs
    · exact State.accountsInRange.modifyAccount (s := s.dropTokens a.tokens) h n fun _ h => h
    · exact h.removeAccount n
    · exact h

theorem State.accountsInRange.settleJob {s : State} (h : s.accountsInRange) (i : StationId)
    (dest : StationState) (j : Job) : (s.settleJob i dest j).accountsInRange := by
  have h1 := (h.settleMoney j).settlePeriod j
  unfold State.settleJob
  extract_lets charge s1 ba s2 s3 s4 s5
  have h2 : s2.accountsInRange := h1
  have h4 : s4.accountsInRange := by
    by_cases e : j.user = j.billing
    · simp only [s4, e, if_true]; exact h2.closeAccount _ _
    · simp only [s4, e, if_false]; exact (h2.closeAccount _ _).closeAccount _ _
  exact h4

theorem mem_insertAccount {a b : Account} {l : List Account} (h : b ∈ insertAccount a l) : b = a ∨ b ∈ l := by
  induction l with
  | nil => simpa [insertAccount] using h
  | cons c l ih =>
    unfold insertAccount at h
    split_ifs at h
    · simpa using h
    · rcases List.mem_cons.1 h with rfl | h
      · exact .inr (by simp)
      · exact (ih h).imp id fun g => List.mem_cons_of_mem _ g
    · rcases List.mem_cons.1 h with rfl | h
      · exact .inl rfl
      · exact .inr (List.mem_cons_of_mem _ h)

theorem State.accountsInRange.addAccount {s : State} (h : s.accountsInRange) {a : Account}
    (ha : a.inRange) : (s.addAccount a).accountsInRange := by
  intro b hb
  rcases mem_insertAccount hb with rfl | hb
  · exact ha
  · exact h b hb

/-- A supplied amount within its bound, or its absence. -/
theorem centsWithin_getD {top : Int} {x : Option Int} (h : x.all (centsWithin top) = true) (ht : 0 ≤ top) :
    ((x.getD 0).toNat : Int) ≤ top := by
  cases x with
  | none => simpa using ht
  | some y =>
    have := (centsWithin_iff top y).1 h
    simp only [Option.getD_some]
    omega

/-- A loaded record is in range (R18 check 1). -/
theorem asRecord_inRange {f : LoadForm} {a : Account} (h : f.asRecord = some a) : a.inRange := by
  obtain ⟨kind, state, -, -, -, hr, -, rfl⟩ := asRecord_some h
  simp only [LoadForm.inRange, Bool.and_eq_true, Bool.or_eq_true, Bool.not_eq_true', decide_eq_true_eq] at hr
  obtain ⟨⟨⟨⟨⟨⟨-, hb⟩, hl⟩, -⟩, hc⟩, -⟩, hg⟩ := hr
  have hbal : -999999999 ≤ f.balance?.getD 0 ∧ f.balance?.getD 0 ≤ 999999999 := by
    cases e : f.balance? with
    | none => simp
    | some x =>
      rw [e] at hb
      obtain ⟨h1, h2⟩ := Bool.and_eq_true_iff.1 hb
      exact ⟨(by decide : (-999999999 : Int) ≤ Config.balanceBottom).trans (of_decide_eq_true h1),
        of_decide_eq_true h2⟩
  have hlim := centsWithin_getD hl (by decide)
  refine ⟨hbal.1, hbal.2, ?_, ?_, ?_, ?_, ?_, ?_⟩
  · show (f.limit?.getD 0).toNat ≤ 10000000
    simp only [Config.limitTop] at hlim
    omega
  · intro cap hcap
    obtain ⟨x, hx, rfl⟩ := Option.map_eq_some_iff.1 (show f.cap?.map Int.toNat = some cap from hcap)
    rw [hx] at hc
    have := (centsWithin_iff _ _).1 hc
    simp only [Config.limitTop] at this
    omega
  all_goals rcases Bool.eq_false_or_eq_true f.hasFigures with e | e
  all_goals simp only [LoadForm.record, e, if_true, Bool.true_and, Bool.false_and]
  · exact ((hg.resolve_left (by simp [e])).1).1
  · simp
  · simp [Config.meterTop]
  · simp
  · have := (centsWithin_iff _ _).1 ((hg.resolve_left (by simp [e])).1).2
    simp only [Config.chargesTop] at this
    omega
  · simp
  · intro k
    have := List.all_eq_true.1 (hg.resolve_left (by simp [e])).2 f.classCounts[k] (by simp)
    exact of_decide_eq_true this
  · intro k
    show zeroCounts[k] ≤ _
    rw [zeroCounts_get]
    omega

/-- The record of a new walk-up is in range. -/
theorem newTransient_inRange (s : State) (i : StationId) : (s.newTransient i).inRange := by
  unfold State.newTransient
  refine ⟨?_, ?_, Nat.zero_le _, (fun _ h => nomatch h), Nat.zero_le _, ?_, Nat.zero_le _, fun k => ?_⟩
  · exact (by decide : (-999999999 : Int) ≤ 0)
  · exact (by decide : (0 : Int) ≤ 999999999)
  · exact (by decide : false = true ↔ 0 = 16777215)
  · show zeroCounts[k] ≤ 16777215
    rw [zeroCounts_get]
    omega

/-- A valid update of a record of the table (R20). -/
theorem State.accountsInRange.updated {s : State} {f : UpdateForm} {n : Nat} {a : Account}
    (hr : s.accountsInRange) (o : AccountsInOrder s) (ha : s.account n = some a)
    (hv : f.valid a.kind = true) : (s.modifyAccount a.number f.applyTo).accountsInRange := by
  intro b hm
  obtain ⟨c, hc, rfl⟩ := List.mem_map.1 hm
  split
  · next e =>
    obtain rfl := eq_of_account o ha hc (e.trans (State.account_number s ha))
    exact UpdateForm.inRange_applyTo hv (hr _ hc)
  · exact hr c hc

/-- Member counts are in no range. -/
theorem State.accountsInRange.movePayer {s : State} (hr : s.accountsInRange) (q : Option Nat) (p : Nat) :
    (s.movePayer q p).accountsInRange := by
  have hadd : ∀ t : State, t.accountsInRange → (t.addMember p).accountsInRange := fun t h =>
    h.modifyAccount p (f := fun b => { b with memberCount := b.memberCount + 1 }) fun _ h => h
  unfold State.movePayer
  split
  · exact hr
  · split
    · exact hadd _ hr
    · exact hadd _ (hr.modifyAccount _ (f := fun b => { b with memberCount := b.memberCount - 1 })
        fun _ h => h)

/-- The figures stay in range under every move (R5, R8, R10, R11). -/
theorem Move.accountsInRange {s t : State} (h : Move L s t) (o : AccountsInOrder s) (hb : s.sheetsBounded)
    (hr : s.accountsInRange) : t.accountsInRange := by
  cases h with
  | quiet h => unfold State.accountsInRange; rw [h.accounts]; exact hr
  | accounts f hn hf hg =>
    intro b hm
    obtain ⟨a, ha, rfl⟩ := List.mem_map.1 hm
    exact hg o hb a ha (hr a ha)
  | raiseHold c hj => exact hr.raiseHold _ _ c
  | settle hj ho hd => exact hr.settleJob _ _ _
  | openJob by_ hu ha hs hj => exact hr.openAt _ _ _
  | openWalkup hp ha hw hi hs hj =>
    exact (hr.openAt _ _ _).modifyAccount _ (f := Account.asOpened) fun _ h => h
  | startWalkup h hs hk ht =>
    exact (hr.addAccount (newTransient_inRange s _)).modifyAccount _
      (f := fun a => { a with tokens := a.tokens ++ [_] }) fun _ h => h
  | endWalkup d hp ha hw hi =>
    unfold State.endWalkup
    extract_lets wau w u v
    have h1 : w.accountsInRange := hr
    exact h1.removeAccount _
  | load hf hn hl hp => exact hr.addAccount (asRecord_inRange hf)
  | loadMember hf hn hl hp hq =>
    exact (hr.addAccount (asRecord_inRange hf)).modifyAccount _
      (f := fun b => { b with memberCount := b.memberCount + 1 }) fun _ h => h
  | movePayer ha hv hp hj hq =>
    exact (hr.updated o ha hv).movePayer _ _
  | remove ha h => exact hr.removeAccount _
  | bind ha hk h ht hl hm =>
    exact hr.modifyAccount _ (f := fun a => { a with tokens := a.tokens ++ [_] }) fun _ h => h
  | unbind ht h =>
    exact hr.modifyAccount _ (f := fun a => { a with tokens := a.tokens.filter fun u => u != _ }) fun _ h => h
  | reset ha hk hs hr ht hd => intro a hm; rw [ha] at hm; cases hm

/-- Stations whose lists are those of before. -/
theorem State.sheetsBounded.of_lists {s t : State} (h : s.sheetsBounded)
    (hp : ∀ k, (t.station k).path = (s.station k).path)
    (hd : ∀ k, (t.station k).disputed = (s.station k).disputed) : t.sheetsBounded := fun k => by
  obtain ⟨h1, h2⟩ := h k
  exact ⟨by unfold Station.roomy; rw [hp, hd]; exact h1, by unfold Station.sheetsSound; rw [hp, hd]; exact h2⟩

/-- Two stations alike but for the pin have the same lists. -/
theorem Station.lists_of_undriven {a b : Station} (h : a.undriven = b.undriven) :
    a.path = b.path ∧ a.disputed = b.disputed :=
  ⟨(congrArg Station.path h :), (congrArg Station.disputed h :)⟩

/-- One station changed in neither list. -/
theorem State.sheetsBounded.of_one {s t : State} {i : StationId} (h : s.sheetsBounded)
    (ho : KeepsOtherStations i s t) (hp : (t.station i).path = (s.station i).path)
    (hd : (t.station i).disputed = (s.station i).disputed) : t.sheetsBounded := by
  refine h.of_lists (fun k => ?_) fun k => ?_ <;> by_cases hk : k = i
  · rw [hk, hp]
  · exact (Station.lists_of_undriven (ho k hk)).1
  · rw [hk, hd]
  · exact (Station.lists_of_undriven (ho k hk)).2

theorem station_openAt (s : State) (i k : StationId) (u : Account) (o : OpenedBy) :
    (s.openAt i u o).station k =
      if k = i then { s.station i with job := some (s.newJob i u o), state := .running } else s.station k := by
  have e : ∀ (t : State) (j : Job), (t.placeHold j).station k = t.station k := by
    intro t j
    unfold State.placeHold
    dsimp only
    split <;> rfl
  show (State.placeHold _ (s.newJob i u o)).station k = _
  rw [e, State.station_modifyStation]

theorem station_startWalkup (s : State) (i k : StationId) (x : Token) :
    (s.startWalkup i x).station k =
      if k = i then { s.station i with state := .opening, sessionToken := some x } else s.station k := by
  unfold State.startWalkup
  rw [State.station_placeDisplay, State.station_modifyStation]
  rfl

/-- The lists keep their bounds under every move (R41, R118). -/
theorem Move.sheetsBounded {s t : State} (h : Move L s t) (hb : s.sheetsBounded) : t.sheetsBounded := by
  cases h with
  | quiet h => exact fun i => ⟨(h.station i).room (hb i).1, (h.station i).sheets (hb i).2⟩
  | accounts f hn hf hg => exact hb
  | raiseHold c hj =>
    refine hb.of_lists (fun k => ?_) fun k => ?_ <;> rw [station_raiseHold] <;> split
    · next e => rw [e]
    · rfl
    · next e => rw [e]
    · rfl
  | settle hj ho hd =>
    obtain ⟨-, f2, -, -, f5⟩ := settleJob_facts s _ _ _
    exact hb.of_one f2 (by rw [f5]) (by rw [f5])
  | openJob by_ hu ha hs hj =>
    refine hb.of_lists (fun k => ?_) fun k => ?_ <;> rw [station_openAt] <;> split
    · next e => rw [e]
    · rfl
    · next e => rw [e]
    · rfl
  | openWalkup hp ha hw hi hs hj =>
    refine hb.of_lists (fun k => ?_) fun k => ?_ <;>
      rw [State.openWalkup, State.station_modifyAccount, station_openAt] <;> split
    · next e => rw [e]
    · rfl
    · next e => rw [e]
    · rfl
  | startWalkup h hs hk ht =>
    refine hb.of_lists (fun k => ?_) fun k => ?_ <;> rw [station_startWalkup] <;> split
    · next e => rw [e]
    · rfl
    · next e => rw [e]
    · rfl
  | endWalkup d hp ha hw hi =>
    obtain ⟨-, f2, -, -, f5, -⟩ := endWalkup_facts s _ _ d
    exact hb.of_one f2 (by rw [f5]) (by rw [f5])
  | load hf hn hl hp => exact hb
  | loadMember hf hn hl hp hq => exact hb
  | movePayer ha hv hp hj hq =>
    unfold State.movePayer
    split
    · exact hb
    · split <;> exact hb
  | remove ha h =>
    exact fun k => by rw [(onlyAccounts_removeAccount s _).station]; exact hb k
  | bind ha hk h ht hl hm => exact hb
  | unbind ht h => exact hb
  | reset ha hk hs hr ht hd =>
    intro k
    obtain ⟨-, h2, h3⟩ := hs k
    unfold Station.roomy Station.sheetsSound
    rw [h2, h3]
    exact ⟨by decide, by simp⟩

/-- The figures with what they rest on. -/
def State.figuresBounded (s : State) : Prop := AccountsInOrder s ∧ s.sheetsBounded ∧ s.accountsInRange

theorem Move.figuresBounded {s t : State} (h : Move L s t) (hb : s.figuresBounded) : t.figuresBounded := by
  obtain ⟨h1, h2, h3⟩ := hb
  exact ⟨h.inOrder h1, h.sheetsBounded h2, h.accountsInRange h1 h2 h3⟩

/-- Settles O12: every step is a run of moves, and each of the four laws is kept by every move; the
figures with the bounds of the lists, which lawful stations have. -/
theorem tablesAndReadersStayInRange : Obligations.TablesAndReadersStayInRange := by
  intro s t h
  have hm := step_moves h
  refine ⟨fun g => hm.keeps (fun _ _ m => m.boards.tariffs) g,
    fun g => hm.keeps (fun _ _ m => m.boards.schedules) g,
    fun g => hm.keeps (fun _ _ m => m.boards.readers) g, ?_⟩
  rintro ⟨⟨o, hl, -⟩, hr, hs⟩
  obtain ⟨-, h2, h3⟩ := hm.keeps (fun _ _ m => m.figuresBounded)
    (show s.figuresBounded from ⟨o, fun i => ⟨(hl i).2.1, hs i⟩, hr⟩)
  exact ⟨h3, fun i => (h2 i).2⟩

end Sys2Proof.Machine
end

section
/-! SUPPORT. The law of the walk-ups in progress, kept by every move from lawful stations (R79, R162). -/

namespace Sys2Proof.Machine

variable {L : Prop}

/-! ### Walk-ups in progress -/

/-- The walk-up record stands at this station, with its request and its timer (Table 8-4). -/
def Account.waitsAt (a : Account) (i : StationId) : Prop :=
  ∃ w, a.walkup = some w ∧ w.station = i ∧ w.requestState.isSome ∧ w.authTimer.isSome

theorem Account.waitsAt.unique {a : Account} {i k : StationId} (h : a.waitsAt i) (g : a.waitsAt k) : i = k := by
  obtain ⟨w, hw, rfl, -⟩ := h
  obtain ⟨v, hv, rfl, -⟩ := g
  rw [hw] at hv
  rw [Option.some.inj hv]

/-- The law of walk-ups, of a list of records and the OPENING stations. -/
structure WalkupsFit (l : List Account) (p : StationId → Prop) : Prop where
  waits : ∀ a ∈ l, a.isPending → ∃ i, a.waitsAt i ∧ p i
  single : ∀ a ∈ l, ∀ b ∈ l, a.isPending → b.isPending → ∀ i, a.waitsAt i → b.waitsAt i →
    a.number = b.number

/-- The stations with a walk-up in progress. -/
def State.openingAt (s : State) (i : StationId) : Prop := (s.station i).state = .opening

theorem walkupsLaw_iff (s : State) : WalkupsLaw s ↔ WalkupsFit s.accounts s.openingAt := by
  constructor
  · rintro ⟨h1, h2⟩
    refine ⟨fun a ha hp => ?_, fun a ha b hb hpa hpb i hi hk => ?_⟩
    · obtain ⟨w, hw, ho, hr, ht⟩ := h1 a ha hp
      exact ⟨w.station, ⟨w, hw, rfl, hr, ht⟩, ho⟩
    · obtain ⟨w, hw, hwi, -⟩ := hi
      obtain ⟨v, hv, hvi, -⟩ := hk
      exact h2 a ha b hb hpa hpb (by rw [hw, hv, Option.map_some, Option.map_some, hwi, hvi])
  · rintro ⟨h1, h2⟩
    refine ⟨fun a ha hp => ?_, fun a ha b hb hpa hpb e => ?_⟩
    · obtain ⟨i, ⟨w, hw, rfl, hr, ht⟩, ho⟩ := h1 a ha hp
      exact ⟨w, hw, ho, hr, ht⟩
    · obtain ⟨i, hi, -⟩ := h1 a ha hpa
      obtain ⟨k, hk, -⟩ := h1 b hb hpb
      have hik : k = i := by
        obtain ⟨w, hw, rfl, -⟩ := hi
        obtain ⟨v, hv, rfl, -⟩ := hk
        rw [hw, hv] at e
        exact (Option.some.inj e).symm
      exact h2 a ha b hb hpa hpb i hi (hik ▸ hk)

/-- Every PENDING record of `m` was one of `l`, and waits where that one waited. -/
def PendingsFrom (l m : List Account) : Prop :=
  ∀ b ∈ m, b.isPending → ∃ a ∈ l, a.isPending ∧ a.number = b.number ∧ ∀ i, a.waitsAt i → b.waitsAt i

theorem PendingsFrom.refl (l : List Account) : PendingsFrom l l := fun a ha hp =>
  ⟨a, ha, hp, rfl, fun _ h => h⟩

theorem PendingsFrom.trans {l m k : List Account} (h : PendingsFrom l m) (g : PendingsFrom m k) :
    PendingsFrom l k := fun c hc hp => by
  obtain ⟨b, hb, hbp, hbn, hbw⟩ := g c hc hp
  obtain ⟨a, ha, hap, han, haw⟩ := h b hb hbp
  exact ⟨a, ha, hap, han.trans hbn, fun i hi => hbw i (haw i hi)⟩

theorem PendingsFrom.of_subset {l m : List Account} (h : ∀ b ∈ m, b.isPending → b ∈ l) : PendingsFrom l m :=
  fun b hb hp => ⟨b, h b hb hp, hp, rfl, fun _ h => h⟩

/-- What a carried record waits for, it waited for. -/
theorem Account.Carries.pending {a b : Account} (h : a.Carries b) (hp : b.isPending) :
    a.isPending ∧ ∀ i, a.waitsAt i → b.waitsAt i := by
  simp only [Account.isPending, Bool.and_eq_true, beq_iff_eq] at hp ⊢
  obtain ⟨hk, hs⟩ := hp
  rw [h.kind] at hk
  refine ⟨⟨hk, ?_⟩, ?_⟩
  · rcases h.state with e | ⟨_, e⟩ | ⟨e, _⟩
    · exact e.symm.trans hs
    · rw [hs] at e; cases e
    · exact absurd hk e
  · rintro i ⟨w, hw, rfl, hr, ht⟩
    obtain ⟨v, hv, h1, h2, h3⟩ := h.walkup hs w hw hr ht
    exact ⟨v, hv, h1, h2, h3⟩

theorem PendingsFrom.map {l : List Account} {f : Account → Account} (hf : ∀ a ∈ l, a.Carries (f a)) :
    PendingsFrom l (l.map f) := by
  intro b hb hp
  obtain ⟨a, ha, rfl⟩ := List.mem_map.1 hb
  obtain ⟨h1, h2⟩ := (hf a ha).pending hp
  exact ⟨a, ha, h1, (hf a ha).number.symm, h2⟩

theorem MoneyOnly.pendings {s t : State} (h : MoneyOnly s t) : PendingsFrom s.accounts t.accounts := by
  obtain ⟨-, g, ha, hg⟩ := h
  rw [ha]
  exact .map fun a _ => (hg a).carries

/-- One member more or less changes nothing that the law reads. -/
theorem PendingsFrom.removeAccount (s : State) (n : Nat) :
    PendingsFrom s.accounts (s.removeAccount n).accounts := by
  cases ha : s.account n with
  | none => unfold State.removeAccount; rw [ha]; exact .refl _
  | some a =>
    rw [accounts_removeAccount ha]
    intro b hb hp
    obtain ⟨c, hc, rfl⟩ := List.mem_map.1 (List.mem_filter.1 hb).1
    refine ⟨c, hc, ?_⟩
    split at hp <;> split
    · exact ⟨hp, rfl, fun _ h => h⟩
    · exact ⟨hp, rfl, fun _ h => h⟩
    · exact ⟨hp, rfl, fun _ h => h⟩
    · exact ⟨hp, rfl, fun _ h => h⟩

theorem PendingsFrom.closeAccount (s : State) (c n : Nat) :
    PendingsFrom s.accounts (s.closeAccount c n).accounts := by
  unfold State.closeAccount
  split
  · exact .refl _
  · next a _ =>
    split_ifs
    · show PendingsFrom s.accounts (s.accounts.map fun b => if b.number = n then b.asSettled c else b)
      refine .trans (m := s.accounts) (.refl _) fun b hb hp => ?_
      obtain ⟨x, hx, rfl⟩ := List.mem_map.1 hb
      split at hp
      · simp [Account.isPending, Account.asSettled] at hp
      · next h => exact ⟨x, hx, hp, by rw [if_neg h], fun _ g => by rw [if_neg h]; exact g⟩
    · exact .removeAccount s n
    · exact .refl _

theorem PendingsFrom.settleJob (s : State) (i : StationId) (dest : StationState) (j : Job) :
    PendingsFrom s.accounts (s.settleJob i dest j).accounts := by
  have h1 := ((moneyOnly_settleMoney s j).trans (moneyOnly_settlePeriod _ j)).pendings
  unfold State.settleJob
  extract_lets charge s1 ba s2 s3 s4 s5
  have h4 : PendingsFrom s2.accounts s4.accounts := by
    by_cases e : j.user = j.billing
    · simp only [s4, e, if_true]; exact .closeAccount _ _ _
    · simp only [s4, e, if_false]; exact (PendingsFrom.closeAccount _ _ _).trans (.closeAccount _ _ _)
  exact h1.trans h4

/-- The law where no PENDING record is new and no station that one waits at leaves OPENING. -/
theorem WalkupsFit.of_pendings {l m : List Account} {p q : StationId → Prop} (g : WalkupsFit l p)
    (h : PendingsFrom l m) (hq : ∀ b ∈ m, b.isPending → ∀ i, b.waitsAt i → p i → q i) : WalkupsFit m q := by
  have hw : ∀ b ∈ m, b.isPending → ∃ a ∈ l, a.isPending ∧ a.number = b.number ∧
      ∃ i, a.waitsAt i ∧ b.waitsAt i ∧ p i := fun b hb hp => by
    obtain ⟨a, ha, hap, han, haw⟩ := h b hb hp
    obtain ⟨i, hi, ho⟩ := g.waits a ha hap
    exact ⟨a, ha, hap, han, i, hi, haw i hi, ho⟩
  refine ⟨fun b hb hp => ?_, fun b hb c hc hbp hcp i hbi hci => ?_⟩
  · obtain ⟨a, -, -, -, i, -, hi, ho⟩ := hw b hb hp
    exact ⟨i, hi, hq b hb hp i hi ho⟩
  · obtain ⟨a, ha, hap, han, k, hak, hbk, -⟩ := hw b hb hbp
    obtain ⟨d, hd, hdp, hdn, e, hde, hce, -⟩ := hw c hc hcp
    obtain rfl := hbi.unique hbk
    obtain rfl := hci.unique hce
    rw [← han, ← hdn]
    exact g.single a ha d hd hap hdp i hak hde

/-- A PENDING record of `m` that waits where one of `l` waits has its number. -/
theorem WalkupsFit.number_of {l m : List Account} {p : StationId → Prop} (g : WalkupsFit l p)
    (h : PendingsFrom l m) {a b : Account} {i : StationId} (ha : a ∈ l) (hap : a.isPending)
    (hai : a.waitsAt i) (hb : b ∈ m) (hbp : b.isPending) (hbi : b.waitsAt i) : b.number = a.number := by
  obtain ⟨c, hc, hcp, hcn, hcw⟩ := h b hb hbp
  obtain ⟨k, hk, -⟩ := g.waits c hc hcp
  obtain rfl := (hcw k hk).unique hbi
  rw [← hcn]
  exact g.single c hc a ha hcp hap k hk hai

/-- The record that an order finds with a walk-up here waits here, if it is PENDING. -/
theorem WalkupsFit.waitsAt_of {l : List Account} {p : StationId → Prop} (g : WalkupsFit l p) {a : Account}
    {w : Walkup} (ha : a ∈ l) (hp : a.isPending) (hw : a.walkup = some w) : a.waitsAt w.station := by
  obtain ⟨i, ⟨v, hv, rfl, hr, ht⟩, -⟩ := g.waits a ha hp
  rw [hw] at hv
  obtain rfl := Option.some.inj hv
  exact ⟨w, hw, rfl, hr, ht⟩

/-- A station left as it was, in what the law reads. -/
theorem opening_of_undriven {s t : State} {k : StationId}
    (h : (t.station k).undriven = (s.station k).undriven) (g : s.openingAt k) : t.openingAt k :=
  (congrArg Station.state h :).trans g

/-- A registered account entering the table. -/
theorem PendingsFrom.insert {a : Account} {l : List Account} (hk : a.kind ≠ .transient) :
    PendingsFrom l (insertAccount a l) := by
  refine .of_subset fun b hb hp => ?_
  rcases mem_insertAccount hb with rfl | hb
  · simp [Account.isPending, hk] at hp
  · exact hb

/-- Records changed in what the law does not read. -/
theorem PendingsFrom.map_of_fields {l : List Account} {f : Account → Account}
    (hf : ∀ a, (f a).number = a.number ∧ (f a).kind = a.kind ∧ (f a).state = a.state ∧ (f a).walkup = a.walkup) :
    PendingsFrom l (l.map f) := by
  intro b hb hp
  obtain ⟨a, ha, rfl⟩ := List.mem_map.1 hb
  obtain ⟨h1, h2, h3, h4⟩ := hf a
  refine ⟨a, ha, ?_, h1.symm, fun i h => ?_⟩
  · unfold Account.isPending at *
    rw [← h2, ← h3]; exact hp
  · unfold Account.waitsAt
    rw [h4]; exact h

theorem PendingsFrom.modifyAccount {s : State} {n : Nat} {f : Account → Account}
    (hf : ∀ a, (f a).number = a.number ∧ (f a).kind = a.kind ∧ (f a).state = a.state ∧ (f a).walkup = a.walkup) :
    PendingsFrom s.accounts (s.modifyAccount n f).accounts :=
  .map_of_fields (f := fun a => if a.number = n then f a else a) fun a => by
    split
    · exact hf a
    · exact ⟨rfl, rfl, rfl, rfl⟩

theorem PendingsFrom.movePayer (s : State) (q : Option Nat) (p : Nat) :
    PendingsFrom s.accounts (s.movePayer q p).accounts := by
  have hadd : ∀ t : State, PendingsFrom t.accounts (t.addMember p).accounts := fun t =>
    .modifyAccount fun _ => ⟨rfl, rfl, rfl, rfl⟩
  unfold State.movePayer
  split
  · exact .refl _
  · split
    · exact hadd _
    · exact PendingsFrom.trans (.modifyAccount (f := fun b => { b with memberCount := b.memberCount - 1 })
        fun _ => ⟨rfl, rfl, rfl, rfl⟩) (hadd _)

/-- A new walk-up at a station that was IDLE (R166). -/
theorem WalkupsFit.startWalkup {s : State} {i : StationId} {x : Token}
    (hn : s.account s.freshNumber = none) (hs : (s.station i).state = .idle)
    (g : WalkupsFit s.accounts s.openingAt) :
    WalkupsFit (s.startWalkup i x).accounts (s.startWalkup i x).openingAt := by
  have hi : ¬ s.openingAt i := by unfold State.openingAt; rw [hs]; decide
  have hst : ∀ k, (s.startWalkup i x).openingAt k ↔ k = i ∨ s.openingAt k := by
    intro k
    unfold State.openingAt
    rw [station_startWalkup]
    split
    · next h => simp [h]
    · next h => simp [h]
  have hwait : ∀ k, (s.walkupRecord i x).waitsAt k ↔ k = i := by
    intro k
    constructor
    · rintro ⟨w, hw, rfl, -⟩
      exact congrArg Walkup.station (Option.some.inj hw).symm
    · rintro rfl
      exact ⟨_, rfl, rfl, rfl, rfl⟩
  have old : ∀ b ∈ s.accounts, b.isPending → ¬ b.waitsAt i := by
    intro b hb hp hbi
    obtain ⟨k, hk, ho⟩ := g.waits b hb hp
    rw [hk.unique hbi] at ho
    exact hi ho
  rw [accounts_startWalkup hn]
  refine ⟨fun b hb hp => ?_, fun b hb c hc hbp hcp k hbk hck => ?_⟩
  · rcases mem_insertAccount hb with rfl | hb
    · exact ⟨i, (hwait i).2 rfl, (hst i).2 (.inl rfl)⟩
    · obtain ⟨k, hk, ho⟩ := g.waits b hb hp
      exact ⟨k, hk, (hst k).2 (.inr ho)⟩
  · rcases mem_insertAccount hb with rfl | hb <;> rcases mem_insertAccount hc with rfl | hc
    · rfl
    · rw [(hwait k).1 hbk] at hck
      exact absurd hck (old c hc hcp)
    · rw [(hwait k).1 hck] at hbk
      exact absurd hbk (old b hb hbp)
    · exact g.single b hb c hc hbp hcp k hbk hck

/-- The opening of a job leaves the walk-ups of the other stations in progress. -/
theorem openingAt_openAt {s : State} {i : StationId} {u : Account} {y : OpenedBy} {k : StationId}
    (hk : k ≠ i) (h : s.openingAt k) : (s.openAt i u y).openingAt k := by
  unfold State.openingAt
  rw [station_openAt, if_neg hk]
  exact h

/-- The law of walk-ups is kept by every move from lawful stations (R79, R162). -/
theorem Move.walkups {s t : State} (h : Move L s t) (hl : L) (hm : MembersLaw s) (hw : WalkupsLaw s) :
    WalkupsLaw t := by
  obtain ⟨o, hs, -⟩ := hm
  rw [walkupsLaw_iff] at hw ⊢
  cases h with
  | quiet h =>
    rw [h.accounts]
    exact hw.of_pendings (.refl _) fun _ _ _ i _ hi => ((h.station i).opening hl).2 hi
  | accounts f hn hf hr =>
    exact hw.of_pendings (.map fun a ha => (hf o a ha).toCarries) fun _ _ _ i _ hi => hi
  | raiseHold c hj =>
    refine hw.of_pendings (moneyOnly_raiseHold s _ _ c).pendings fun _ _ _ k _ hk => ?_
    unfold State.openingAt
    rw [station_raiseHold]
    split
    · next e => rw [e] at hk; exact hk
    · exact hk
  | @settle i _ j hj ho hd =>
    obtain ⟨-, f2, -⟩ := settleJob_facts s i _ j
    refine hw.of_pendings (.settleJob s i _ j) fun _ _ _ k _ hk => ?_
    have hki : k ≠ i := by rintro rfl; exact ho hl hk
    exact opening_of_undriven (f2 k hki) hk
  | @openJob i _ u by_ hu ha hst hj =>
    refine hw.of_pendings (moneyOnly_openAt s i u by_).pendings fun _ _ _ k _ hk => ?_
    refine openingAt_openAt ?_ hk
    rintro rfl
    rw [State.openingAt, hst] at hk
    cases hk
  | @openWalkup i a w hp ha hwa hi hst hj =>
    have hmem := State.account_mem s (ha o)
    have hp1 : PendingsFrom s.accounts (s.openWalkup i a).accounts := by
      refine (moneyOnly_openAt s i a .reader).pendings.trans fun b hb hbp => ?_
      obtain ⟨c, hc, rfl⟩ := List.mem_map.1 hb
      split at hbp
      · simp [Account.isPending, Account.asOpened] at hbp
      · next h => exact ⟨c, hc, hbp, by rw [if_neg h], fun _ g => by rw [if_neg h]; exact g⟩
    refine hw.of_pendings hp1 fun b hb hbp k hbk hk => ?_
    have hki : k ≠ i := by
      rintro rfl
      have hai : a.waitsAt k := hi ▸ hw.waitsAt_of hmem hp hwa
      have hn := hw.number_of hp1 hmem hp hai hb hbp hbk
      obtain ⟨c, -, rfl⟩ := List.mem_map.1 hb
      split at hbp
      · simp [Account.isPending, Account.asOpened] at hbp
      · next h => rw [if_neg h] at hn; exact h hn
    exact openingAt_openAt hki hk
  | startWalkup h hst hk ht =>
    obtain ⟨-, h1, -⟩ := (walkupAllowed_iff s _).1 h
    exact hw.startWalkup (account_freshNumber hs h1) hst
  | @endWalkup a w i d hp ha hwa hi =>
    have hmem := State.account_mem s (ha o)
    obtain ⟨-, f2, -, f4, -⟩ := endWalkup_facts s a i d
    have hp1 : PendingsFrom s.accounts (s.endWalkup a i d).accounts := by
      unfold State.endWalkup
      extract_lets wau v
      exact .removeAccount v a.number
    refine hw.of_pendings hp1 fun b hb hbp k hbk hk => ?_
    have hki : k ≠ i := by
      rintro rfl
      have hai : a.waitsAt k := hi ▸ hw.waitsAt_of hmem hp hwa
      exact account_none_iff f4 b hb (hw.number_of hp1 hmem hp hai hb hbp hbk)
    exact opening_of_undriven (f2 k hki) hk
  | load hf hn hl hp =>
    obtain ⟨-, hk, -⟩ := asRecord_enters hf
    exact hw.of_pendings (.insert hk) fun _ _ _ k _ hk => hk
  | loadMember hf hn hl hp hq =>
    obtain ⟨-, hk, -⟩ := asRecord_enters hf
    exact hw.of_pendings (PendingsFrom.trans (.insert hk) (.modifyAccount (s := s.addAccount _)
      fun _ => ⟨rfl, rfl, rfl, rfl⟩)) fun _ _ _ k _ hk => hk
  | movePayer ha hv hp hj hq =>
    refine hw.of_pendings (PendingsFrom.trans
      (.modifyAccount (f := UpdateForm.applyTo _) fun _ => ⟨rfl, rfl, rfl, rfl⟩)
      (.movePayer (s.modifyAccount _ _) _ _)) fun _ _ _ k _ hk => ?_
    unfold State.movePayer
    split
    · exact hk
    · split <;> exact hk
  | remove ha h =>
    refine hw.of_pendings (.removeAccount s _) fun _ _ _ k _ hk => ?_
    unfold State.openingAt
    rw [(onlyAccounts_removeAccount s _).station]
    exact hk
  | bind ha hk h ht hl hm =>
    exact hw.of_pendings (.modifyAccount fun _ => ⟨rfl, rfl, rfl, rfl⟩) fun _ _ _ k _ hk => hk
  | unbind ht h =>
    exact hw.of_pendings (.modifyAccount fun _ => ⟨rfl, rfl, rfl, rfl⟩) fun _ _ _ k _ hk => hk
  | reset ha hk hs hr ht hd => rw [ha]; exact ⟨by simp, by simp⟩

end Sys2Proof.Machine
end

section
/-! SUPPORT. The law of holds and job counts, kept by every move from lawful stations (R6, R12). -/

namespace Sys2Proof.Machine

variable {L : Prop}

/-! ### Stakes -/

/-- User account, billing account and hold of each open job. -/
def State.stakes (s : State) : List (Nat × Nat × Nat) := s.openJobs.map Job.stake

/-- What is held on the account `n` for the jobs billed to it. -/
def billedHold (xs : List (Nat × Nat × Nat)) (n : Nat) : Nat :=
  (xs.map fun x => if x.2.1 = n then x.2.2 else 0).sum

/-- What is held for the jobs that `n` is the user of. -/
def usedHold (xs : List (Nat × Nat × Nat)) (n : Nat) : Nat :=
  (xs.map fun x => if x.1 = n then x.2.2 else 0).sum

/-- How many jobs concern `n`. -/
def concernCount (xs : List (Nat × Nat × Nat)) (n : Nat) : Nat :=
  (xs.map fun x => if x.1 = n ∨ x.2.1 = n then 1 else 0).sum

theorem holdsOf_stakes (s : State) (f : Job → Bool) (g : Nat × Nat × Nat → Prop) [DecidablePred g]
    (h : ∀ j, f j = true ↔ g j.stake) :
    s.holdsOf f = (s.stakes.map fun x => if g x then x.2.2 else 0).sum := by
  unfold State.holdsOf State.stakes
  generalize s.openJobs = js
  induction js with
  | nil => rfl
  | cons j js ih =>
    rw [List.map_cons, List.map_cons, List.sum_cons, ← ih]
    by_cases hj : f j = true
    · rw [List.filter_cons_of_pos hj, List.map_cons, List.sum_cons, if_pos ((h j).1 hj)]; rfl
    · rw [List.filter_cons_of_neg hj, if_neg fun e => hj ((h j).2 e), Nat.zero_add]

theorem concerns_stakes (s : State) (n : Nat) :
    (s.openJobs.filter fun j => j.concerns n).length = concernCount s.stakes n := by
  unfold concernCount State.stakes
  generalize s.openJobs = js
  induction js with
  | nil => rfl
  | cons j js ih =>
    rw [List.map_cons, List.map_cons, List.sum_cons, ← ih]
    have hc : j.concerns n = true ↔ j.stake.1 = n ∨ j.stake.2.1 = n := by
      simp [Job.concerns, Job.stake]
    by_cases hj : j.concerns n = true
    · rw [List.filter_cons_of_pos (by exact hj), List.length_cons, if_pos (hc.1 hj), Nat.add_comm]
    · rw [List.filter_cons_of_neg (by exact hj), if_neg fun e => hj (hc.2 e), Nat.zero_add]

theorem billedHold_cons (u b c : Nat) (xs : List (Nat × Nat × Nat)) (n : Nat) :
    billedHold ((u, b, c) :: xs) n = (if b = n then c else 0) + billedHold xs n := by
  simp [billedHold]

theorem usedHold_cons (u b c : Nat) (xs : List (Nat × Nat × Nat)) (n : Nat) :
    usedHold ((u, b, c) :: xs) n = (if u = n then c else 0) + usedHold xs n := by
  simp [usedHold]

theorem concernCount_cons (u b c : Nat) (xs : List (Nat × Nat × Nat)) (n : Nat) :
    concernCount ((u, b, c) :: xs) n = (if u = n ∨ b = n then 1 else 0) + concernCount xs n := by
  simp [concernCount]

/-! ### The law, of a list of records and the stakes -/

/-- The figures of a record are those of the open jobs. -/
structure Account.bears (a : Account) (xs : List (Nat × Nat × Nat)) : Prop where
  held : a.held = if a.kind = .member then 0 else billedHold xs a.number
  memberHeld : a.memberHeld = if a.kind = .member then usedHold xs a.number else 0
  openJobs : a.openJobs = concernCount xs a.number

/-- A TRANSIENT has one open job exactly when OPEN (R162). -/
def Account.walkupJob (a : Account) : Prop :=
  a.kind = .transient → a.openJobs = if a.state = .opened then 1 else 0

/-- A stake names a user account and its billing account. -/
def StakeNamed (l : List Account) (x : Nat × Nat × Nat) : Prop :=
  (∃ u ∈ l, u.number = x.1 ∧ u.billingNumber = x.2.1) ∧ ∃ b ∈ l, b.number = x.2.1

/-- The law of R6 and R12 but for the walk-up clause. -/
structure StakesFit (l : List Account) (xs : List (Nat × Nat × Nat)) : Prop where
  named : ∀ x ∈ xs, StakeNamed l x
  bears : ∀ a ∈ l, a.bears xs

theorem holdsLaw_iff {s : State} (o : AccountsInOrder s) :
    HoldsLaw s ↔ StakesFit s.accounts s.stakes ∧ ∀ a ∈ s.accounts, a.walkupJob := by
  have h1 : ∀ n, (s.holdsOf fun j => j.billing == n) = billedHold s.stakes n := fun n =>
    holdsOf_stakes s _ (fun x => x.2.1 = n) fun j => by simp [Job.stake]
  have h2 : ∀ n, (s.holdsOf fun j => j.user == n) = usedHold s.stakes n := fun n =>
    holdsOf_stakes s _ (fun x => x.1 = n) fun j => by simp [Job.stake]
  have h3 : (∀ j ∈ s.openJobs, ∃ u b, s.account j.user = some u ∧ s.account j.billing = some b ∧
      u.billingNumber = j.billing) ↔ ∀ x ∈ s.stakes, StakeNamed s.accounts x := by
    unfold State.stakes StakeNamed
    rw [List.forall_mem_map]
    refine forall₂_congr fun j _ => ?_
    constructor
    · rintro ⟨u, b, hu, hb, h⟩
      exact ⟨⟨u, State.account_mem s hu, State.account_number s hu, h⟩, b, State.account_mem s hb,
        State.account_number s hb⟩
    · rintro ⟨⟨u, hu, hn, h⟩, b, hb, hm⟩
      exact ⟨u, b, (account_eq_some_iff o).2 ⟨hu, hn⟩, (account_eq_some_iff o).2 ⟨hb, hm⟩, h⟩
  unfold HoldsLaw
  simp only [h1, h2, h3, concerns_stakes]
  exact ⟨fun ⟨g1, g2⟩ => ⟨⟨g1, fun a ha => ⟨(g2 a ha).1, (g2 a ha).2.1, (g2 a ha).2.2.1⟩⟩,
    fun a ha => (g2 a ha).2.2.2⟩,
    fun ⟨⟨g1, g2⟩, g3⟩ => ⟨g1, fun a ha => ⟨(g2 a ha).held, (g2 a ha).memberHeld, (g2 a ha).openJobs, g3 a ha⟩⟩⟩

/-! ### Stakes of one station -/

/-- The open jobs of the stations other than `i`. -/
def State.otherStakes (s : State) (i : StationId) : List (Nat × Nat × Nat) :=
  ((allStations.filter fun k => k != i).filterMap fun k => (s.station k).job).map Job.stake

/-- The stakes are that of one station and those of the others. -/
theorem stakes_perm (s : State) (i : StationId) :
    s.stakes.Perm (((s.station i).job.map Job.stake).toList ++ s.otherStakes i) := by
  have h : allStations.Perm (i :: allStations.filter fun k => k != i) := by
    fin_cases i <;> decide
  have g := (h.filterMap fun k => (s.station k).job).map Job.stake
  rw [List.filterMap_cons] at g
  refine g.trans ?_
  unfold State.otherStakes
  cases (s.station i).job <;> exact .refl _

/-- Other stations with the same stakes. -/
theorem otherStakes_congr {s t : State} {i : StationId}
    (h : ∀ k, k ≠ i → (t.station k).job.map Job.stake = (s.station k).job.map Job.stake) :
    t.otherStakes i = s.otherStakes i := by
  unfold State.otherStakes
  rw [List.map_filterMap, List.map_filterMap]
  refine List.filterMap_congr fun k hk => ?_
  exact h k (by simpa using (List.mem_filter.1 hk).2)

theorem stakes_congr {s t : State}
    (h : ∀ k, (t.station k).job.map Job.stake = (s.station k).job.map Job.stake) : t.stakes = s.stakes := by
  unfold State.stakes State.openJobs
  rw [List.map_filterMap, List.map_filterMap]
  exact List.filterMap_congr fun k _ => h k

theorem stake_of_undriven {s t : State} {i k : StationId} (h : KeepsOtherStations i s t) (hk : k ≠ i) :
    (t.station k).job.map Job.stake = (s.station k).job.map Job.stake :=
  (congrArg (fun st : Station => st.job.map Job.stake) (show ({ t.station k with permit := false } : Station) =
    { s.station k with permit := false } from h k hk) :)

/-! ### Changes of the records -/

theorem StakesFit.perm {l : List Account} {xs ys : List (Nat × Nat × Nat)} (h : xs.Perm ys)
    (g : StakesFit l xs) : StakesFit l ys := by
  refine ⟨fun x hx => g.named x (h.mem_iff.2 hx), fun a ha => ?_⟩
  obtain ⟨h1, h2, h3⟩ := g.bears a ha
  have e1 : billedHold xs a.number = billedHold ys a.number := (h.map _).sum_eq
  have e2 : usedHold xs a.number = usedHold ys a.number := (h.map _).sum_eq
  have e3 : concernCount xs a.number = concernCount ys a.number := (h.map _).sum_eq
  exact ⟨by rw [← e1]; exact h1, by rw [← e2]; exact h2, by rw [← e3]; exact h3⟩

theorem Account.bears.of_fields {a b : Account} {xs : List (Nat × Nat × Nat)} (h : a.bears xs)
    (hn : b.number = a.number) (hk : b.kind = a.kind) (hh : b.held = a.held)
    (hm : b.memberHeld = a.memberHeld) (hj : b.openJobs = a.openJobs) : b.bears xs :=
  ⟨by rw [hh, hk, hn]; exact h.held, by rw [hm, hk, hn]; exact h.memberHeld, by rw [hj, hn]; exact h.openJobs⟩

/-- A record that no open job concerns is named by no stake. -/
theorem StakesFit.unnamed {l : List Account} {xs : List (Nat × Nat × Nat)} (g : StakesFit l xs)
    {a : Account} (ha : a ∈ l) (h0 : a.openJobs = 0) : ∀ x ∈ xs, x.1 ≠ a.number ∧ x.2.1 ≠ a.number := by
  intro x hx
  have hz := (g.bears a ha).openJobs
  rw [h0] at hz
  have := List.sum_eq_zero_iff.1 hz.symm _ (List.mem_map_of_mem hx)
  simp only [ite_eq_right_iff, one_ne_zero, imp_false, not_or] at this
  exact this

/-- Records changed in what the law does not read; the payer at most where no job is open. -/
theorem StakesFit.map {l : List Account} {xs : List (Nat × Nat × Nat)} {f : Account → Account}
    (g : StakesFit l xs) (hn : ∀ a ∈ l, (f a).number = a.number)
    (hb : ∀ a ∈ l, a.openJobs ≠ 0 → (f a).billingNumber = a.billingNumber)
    (hf : ∀ a ∈ l, a.bears xs → (f a).bears xs) : StakesFit (l.map f) xs := by
  refine ⟨fun x hx => ?_, fun b hb' => ?_⟩
  · obtain ⟨⟨u, hu, hun, hub⟩, b, hbl, hbn⟩ := g.named x hx
    refine ⟨⟨f u, List.mem_map_of_mem hu, (hn u hu).trans hun, ?_⟩, f b, List.mem_map_of_mem hbl,
      (hn b hbl).trans hbn⟩
    rw [hb u hu fun h0 => (g.unnamed hu h0 x hx).1 hun.symm]
    exact hub
  · obtain ⟨a, ha, rfl⟩ := List.mem_map.1 hb'
    exact hf a ha (g.bears a ha)

/-- Records removed that no open job concerns. -/
theorem StakesFit.remove {l : List Account} {xs : List (Nat × Nat × Nat)} {n : Nat} (g : StakesFit l xs)
    (h : ∀ a ∈ l, a.number = n → a.openJobs = 0) : StakesFit (l.filter fun b => b.number != n) xs := by
  have keep : ∀ a ∈ l, (∃ x ∈ xs, x.1 = a.number ∨ x.2.1 = a.number) → a ∈ l.filter fun b => b.number != n := by
    rintro a ha ⟨x, hx, hxa⟩
    refine List.mem_filter.2 ⟨ha, ?_⟩
    simp only [bne_iff_ne]
    intro e
    obtain ⟨h1, h2⟩ := g.unnamed ha (h a ha e) x hx
    exact hxa.elim h1 h2
  refine ⟨fun x hx => ?_, fun a ha => g.bears a (List.mem_filter.1 ha).1⟩
  obtain ⟨⟨u, hu, hun, hub⟩, b, hbl, hbn⟩ := g.named x hx
  exact ⟨⟨u, keep u hu ⟨x, hx, .inl hun.symm⟩, hun, hub⟩, b, keep b hbl ⟨x, hx, .inr hbn.symm⟩, hbn⟩

/-- A record without holds and jobs entering the table. -/
theorem StakesFit.insert {l : List Account} {xs : List (Nat × Nat × Nat)} {a : Account}
    (g : StakesFit l xs) (hn : ∀ b ∈ l, b.number ≠ a.number) (hh : a.held = 0) (hm : a.memberHeld = 0)
    (hj : a.openJobs = 0) : StakesFit (insertAccount a l) xs := by
  have hmem : ∀ b, b ∈ insertAccount a l ↔ b ∈ a :: l := fun b => (insertAccount_perm hn).mem_iff
  have hfree : ∀ x ∈ xs, x.1 ≠ a.number ∧ x.2.1 ≠ a.number := fun x hx => by
    obtain ⟨⟨u, hu, hun, -⟩, b, hb, hbn⟩ := g.named x hx
    exact ⟨hun ▸ hn u hu, hbn ▸ hn b hb⟩
  have hz : ∀ f : Nat × Nat × Nat → Nat, (∀ x ∈ xs, f x = 0) → (xs.map f).sum = 0 := fun f hf =>
    List.sum_eq_zero_iff.2 (List.forall_mem_map.2 hf)
  refine ⟨fun x hx => ?_, fun b hb => ?_⟩
  · obtain ⟨⟨u, hu, h⟩, b, hb, hbn⟩ := g.named x hx
    exact ⟨⟨u, (hmem u).2 (List.mem_cons_of_mem _ hu), h⟩, b, (hmem b).2 (List.mem_cons_of_mem _ hb), hbn⟩
  · rcases List.mem_cons.1 ((hmem b).1 hb) with rfl | hb
    · refine ⟨?_, ?_, ?_⟩
      · rw [hh, billedHold, hz _ fun x hx => if_neg (hfree x hx).2]; split <;> rfl
      · rw [hm, usedHold, hz _ fun x hx => if_neg (hfree x hx).1]; split <;> rfl
      · rw [hj, concernCount, hz _ fun x hx => if_neg fun h => h.elim (hfree x hx).1 (hfree x hx).2]
    · exact g.bears b hb

/-! ### A stake raised, placed, taken away -/

/-- The accounts of a stake: the billing account is no MEMBER, and the user account is one exactly when it
is another. -/
def StakeSound (l : List Account) (u b : Nat) : Prop :=
  ∀ a ∈ l, (a.number = b → a.kind ≠ .member) ∧ (a.number = u → (a.kind = .member ↔ u ≠ b))

/-- The stakes of the law of members (R7). -/
theorem stakeSound_of_user {s : State} (hm : MembersLaw s) {u : Account} (hu : u ∈ s.accounts) :
    StakeSound s.accounts u.number u.billingNumber ∧ ∃ b ∈ s.accounts, b.number = u.billingNumber := by
  obtain ⟨o, g⟩ := (membersLaw_iff s).1 hm
  obtain ⟨-, -, -, hp, -⟩ := g.suits u hu
  have same : ∀ a ∈ s.accounts, ∀ c ∈ s.accounts, a.number = c.number → a = c := fun a ha c hc h =>
    eq_of_account o (account_of_mem o hc) ha h
  unfold Account.billingNumber
  cases e : u.payer with
  | none =>
    rw [e] at hp
    have hk : u.kind ≠ .member := fun h => by simp [h] at hp
    refine ⟨fun a ha => ?_, u, hu, rfl⟩
    simp only [Option.getD_none, ne_eq, not_true, iff_false]
    exact ⟨fun h => by rw [same a ha u hu h]; exact hk, fun h => by rw [same a ha u hu h]; exact hk⟩
  | some p =>
    rw [e] at hp
    have hk : u.kind = .member := by simpa using hp
    obtain ⟨b, hb, hbn, hbk⟩ := g.payers u hu p e
    have hbm : b.kind ≠ .member := by rcases hbk with h | h <;> rw [h] <;> decide
    refine ⟨fun a ha => ?_, b, hb, hbn⟩
    simp only [Option.getD_some]
    refine ⟨fun h => by rw [same a ha b hb (h.trans hbn.symm)]; exact hbm, fun h => ?_⟩
    obtain rfl := same a ha u hu h
    refine iff_of_true hk fun h => ?_
    have : a = b := same a ha b hb (h.trans hbn.symm)
    rw [this] at hk
    exact hbm hk

/-- The stakes of the law of holds are sound. -/
theorem stakeSound_of_named {s : State} (hm : MembersLaw s) {x : Nat × Nat × Nat}
    (h : StakeNamed s.accounts x) : StakeSound s.accounts x.1 x.2.1 := by
  obtain ⟨⟨u, hu, hn, e⟩, -⟩ := h
  rw [← e, ← hn]
  exact (stakeSound_of_user hm hu).1

/-- `c` cents more on the hold of a job, for the record of its billing account and that of another user. -/
def Account.raised (u b c : Nat) (a : Account) : Account :=
  { a with
    held := if a.number = b then a.held + c else a.held
    memberHeld := if a.number = u ∧ u ≠ b then a.memberHeld + c else a.memberHeld }

theorem Account.bears.raised {l : List Account} {a : Account} {u b h c : Nat} {xs : List (Nat × Nat × Nat)}
    (ha : a ∈ l) (hs : StakeSound l u b) (g : a.bears ((u, b, h) :: xs)) :
    (a.raised u b c).bears ((u, b, h + c) :: xs) := by
  obtain ⟨g1, g2, g3⟩ := g
  obtain ⟨s1, s2⟩ := hs a ha
  rw [billedHold_cons] at g1
  rw [usedHold_cons] at g2
  rw [concernCount_cons] at g3
  refine ⟨?_, ?_, ?_⟩
  · show (if a.number = b then a.held + c else a.held) =
      if a.kind = .member then 0 else billedHold ((u, b, h + c) :: xs) a.number
    rw [billedHold_cons]
    by_cases hb : a.number = b
    · have hk := s1 hb
      rw [if_neg hk, if_pos hb.symm] at g1
      rw [if_pos hb, if_neg hk, if_pos hb.symm, g1]
      omega
    · rw [if_neg (Ne.symm hb)] at g1 ⊢
      rw [if_neg hb, g1]
  · show (if a.number = u ∧ u ≠ b then a.memberHeld + c else a.memberHeld) =
      if a.kind = .member then usedHold ((u, b, h + c) :: xs) a.number else 0
    rw [usedHold_cons]
    by_cases hu : a.number = u
    · by_cases hub : u = b
      · have hk : a.kind ≠ .member := fun h => (s2 hu).1 h hub
        rw [if_neg hk] at g2 ⊢
        rw [if_neg fun h => h.2 hub, g2]
      · have hk := (s2 hu).2 hub
        rw [if_pos hk, if_pos hu.symm] at g2 ⊢
        rw [if_pos ⟨hu, hub⟩, g2]
        omega
    · rw [if_neg (Ne.symm hu)] at g2 ⊢
      rw [if_neg fun h => hu h.1, g2]
  · show a.openJobs = concernCount ((u, b, h + c) :: xs) a.number
    rw [concernCount_cons, g3]

/-- A new job of this hold, for its accounts. -/
def Account.staked (u b c : Nat) (a : Account) : Account :=
  { a.raised u b c with openJobs := if a.number = u ∨ a.number = b then a.openJobs + 1 else a.openJobs }

/-- A job without hold, placed first. -/
theorem Account.bears.counted {a : Account} {u b : Nat} {xs : List (Nat × Nat × Nat)} (g : a.bears xs) :
    ({ a with openJobs := if a.number = u ∨ a.number = b then a.openJobs + 1 else a.openJobs } :
      Account).bears ((u, b, 0) :: xs) := by
  obtain ⟨g1, g2, g3⟩ := g
  refine ⟨?_, ?_, ?_⟩
  · show a.held = if a.kind = .member then 0 else billedHold ((u, b, 0) :: xs) a.number
    rw [billedHold_cons, ite_self, Nat.zero_add]
    exact g1
  · show a.memberHeld = if a.kind = .member then usedHold ((u, b, 0) :: xs) a.number else 0
    rw [usedHold_cons, ite_self, Nat.zero_add]
    exact g2
  · show (if a.number = u ∨ a.number = b then a.openJobs + 1 else a.openJobs) =
      concernCount ((u, b, 0) :: xs) a.number
    rw [concernCount_cons, g3]
    by_cases h : a.number = u ∨ a.number = b
    · rw [if_pos h, if_pos (h.imp Eq.symm Eq.symm), Nat.add_comm]
    · rw [if_neg h, if_neg fun e => h (e.imp Eq.symm Eq.symm), Nat.zero_add]

theorem Account.bears.staked {l : List Account} {a : Account} {u b c : Nat} {xs : List (Nat × Nat × Nat)}
    (ha : a ∈ l) (hs : StakeSound l u b) (g : a.bears xs) : (a.staked u b c).bears ((u, b, c) :: xs) := by
  have hs' : StakeSound
      [{ a with openJobs := if a.number = u ∨ a.number = b then a.openJobs + 1 else a.openJobs }] u b := by
    intro d hd
    obtain rfl := List.mem_singleton.1 hd
    exact hs a ha
  have h := (g.counted (u := u) (b := b)).raised (c := c) (List.mem_singleton.2 rfl) hs'
  rw [Nat.zero_add] at h
  exact h

/-- A job of this hold gone, for its accounts. -/
def Account.released (u b c : Nat) (a : Account) : Account :=
  { a with
    held := if a.number = b then a.held - c else a.held
    memberHeld := if a.number = u ∧ u ≠ b then a.memberHeld - c else a.memberHeld
    openJobs := if a.number = u ∨ a.number = b then a.openJobs - 1 else a.openJobs }

theorem Account.bears.released {l : List Account} {a : Account} {u b c : Nat} {xs : List (Nat × Nat × Nat)}
    (ha : a ∈ l) (hs : StakeSound l u b) (g : a.bears ((u, b, c) :: xs)) : (a.released u b c).bears xs := by
  obtain ⟨g1, g2, g3⟩ := g
  obtain ⟨s1, s2⟩ := hs a ha
  rw [billedHold_cons] at g1
  rw [usedHold_cons] at g2
  rw [concernCount_cons] at g3
  refine ⟨?_, ?_, ?_⟩
  · show (if a.number = b then a.held - c else a.held) =
      if a.kind = .member then 0 else billedHold xs a.number
    by_cases hb : a.number = b
    · have hk := s1 hb
      rw [if_neg hk, if_pos hb.symm] at g1
      rw [if_pos hb, if_neg hk, g1]
      omega
    · rw [if_neg (Ne.symm hb), Nat.zero_add] at g1
      rw [if_neg hb, g1]
  · show (if a.number = u ∧ u ≠ b then a.memberHeld - c else a.memberHeld) =
      if a.kind = .member then usedHold xs a.number else 0
    by_cases hu : a.number = u
    · by_cases hub : u = b
      · have hk : a.kind ≠ .member := fun h => (s2 hu).1 h hub
        rw [if_neg hk] at g2 ⊢
        rw [if_neg fun h => h.2 hub, g2]
      · have hk := (s2 hu).2 hub
        rw [if_pos hk, if_pos hu.symm] at g2
        rw [if_pos ⟨hu, hub⟩, if_pos hk, g2]
        omega
    · rw [if_neg (Ne.symm hu), Nat.zero_add] at g2
      rw [if_neg fun h => hu h.1, g2]
  · show (if a.number = u ∨ a.number = b then a.openJobs - 1 else a.openJobs) = concernCount xs a.number
    by_cases h : a.number = u ∨ a.number = b
    · rw [if_pos (h.imp Eq.symm Eq.symm)] at g3
      rw [if_pos h, g3]
      omega
    · rw [if_neg fun e => h (e.imp Eq.symm Eq.symm), Nat.zero_add] at g3
      rw [if_neg h, g3]

/-- A job of the first stake gone. -/
theorem StakesFit.released {s : State} {u b c : Nat} {xs : List (Nat × Nat × Nat)} (hm : MembersLaw s)
    (g : StakesFit s.accounts ((u, b, c) :: xs)) {f : Account → Account}
    (hf : ∀ a ∈ s.accounts, (f a).number = a.number ∧ (f a).kind = a.kind ∧
      (f a).billingNumber = a.billingNumber ∧ (f a).held = (a.released u b c).held ∧
      (f a).memberHeld = (a.released u b c).memberHeld ∧ (f a).openJobs = (a.released u b c).openJobs) :
    StakesFit (s.accounts.map f) xs := by
  have hs := stakeSound_of_named hm (g.named (u, b, c) (by simp))
  refine ⟨fun x hx => ?_, fun d hd => ?_⟩
  · obtain ⟨⟨v, hv, hvn, hvb⟩, w, hw, hwn⟩ := g.named x (List.mem_cons_of_mem _ hx)
    obtain ⟨h1, -, h2, -⟩ := hf v hv
    exact ⟨⟨f v, List.mem_map_of_mem hv, h1.trans hvn, h2.trans hvb⟩, f w, List.mem_map_of_mem hw,
      (hf w hw).1.trans hwn⟩
  · obtain ⟨a, ha, rfl⟩ := List.mem_map.1 hd
    obtain ⟨h1, h2, -, h3, h4, h5⟩ := hf a ha
    exact ((g.bears a ha).released ha hs).of_fields h1 h2 h3 h4 h5

end Sys2Proof.Machine
end

section
/-! SUPPORT. The law of holds and job counts under each move (R6, R12, R57, R61, R74, R75). -/

namespace Sys2Proof.Machine

variable {L : Prop}

/-! ### What the operations do to the records, as one function of a record -/

theorem accounts_raiseHold (s : State) (i : StationId) (j : Job) (c : Nat) :
    (s.raiseHold i j c).accounts = s.accounts.map (Account.raised j.user j.billing c) := by
  unfold State.raiseHold
  dsimp only
  split
  · next h =>
    refine List.map_congr_left fun a _ => ?_
    unfold Account.raised
    by_cases hb : a.number = j.billing <;> simp [h, hb]
  · next h =>
    show List.map _ (List.map _ s.accounts) = _
    rw [List.map_map]
    refine List.map_congr_left fun a _ => ?_
    simp only [Function.comp, Account.raised]
    by_cases hb : a.number = j.billing
    · simp [hb, Ne.symm h]
    · by_cases hu : a.number = j.user <;> simp [hb, hu, h]

theorem accounts_placeHold (s : State) (j : Job) :
    (s.placeHold j).accounts = s.accounts.map (Account.staked j.user j.billing j.hold) := by
  unfold State.placeHold
  dsimp only
  split
  · next h =>
    refine List.map_congr_left fun a _ => ?_
    unfold Account.staked Account.raised
    by_cases hb : a.number = j.billing <;> simp [h, hb]
  · next h =>
    show List.map _ (List.map _ s.accounts) = _
    rw [List.map_map]
    refine List.map_congr_left fun a _ => ?_
    simp only [Function.comp, Account.staked, Account.raised]
    by_cases hb : a.number = j.billing
    · simp [hb, Ne.symm h]
    · by_cases hu : a.number = j.user <;> simp [hb, hu, h]

theorem accounts_openAt (s : State) (i : StationId) (u : Account) (y : OpenedBy) :
    (s.openAt i u y).accounts =
      s.accounts.map (Account.staked u.number u.billingNumber (s.newJob i u y).hold) :=
  accounts_placeHold _ (s.newJob i u y)

/-- The record of an account of a settled job, before the accounts are closed (R74, R75). -/
theorem exists_settled (s : State) (j : Job) :
    ∃ f : Account → Account, ((s.settleMoney j).settlePeriod j).accounts = s.accounts.map f ∧
      ∀ a : Account, a.Money (f a) ∧ (f a).held = (a.released j.user j.billing j.hold).held ∧
        (f a).memberHeld = (a.released j.user j.billing j.hold).memberHeld ∧
        (f a).openJobs = (a.released j.user j.billing j.hold).openJobs := by
  unfold State.settleMoney State.settlePeriod
  dsimp only
  split
  · next h =>
    refine ⟨_, List.map_map, fun a => ?_⟩
    simp only [Function.comp, Account.released, Account.Money, Account.settleFigures]
    by_cases hb : a.number = j.billing <;> simp [h, hb]
  · next h =>
    refine ⟨_, (congrArg (List.map _) ((congrArg (List.map _) List.map_map).trans List.map_map)).trans
      List.map_map, fun a => ?_⟩
    · simp only [Function.comp, Account.released, Account.Money, Account.settleFigures]
      by_cases hb : a.number = j.billing
      · simp [hb, Ne.symm h]
      · by_cases hu : a.number = j.user <;> simp [hb, hu, h]

theorem Account.Money.billingNumber {a b : Account} (h : a.Money b) : b.billingNumber = a.billingNumber := by
  unfold Account.billingNumber
  rw [h.carries.payer, h.number]

theorem Account.Money.kind {a b : Account} (h : a.Money b) : b.kind = a.kind := h.carries.kind

/-! ### Stakes of a station before and after -/

theorem stakes_of_job {s : State} {i : StationId} {j : Job} (hj : (s.station i).job = some j) :
    s.stakes.Perm (j.stake :: s.otherStakes i) := by
  have h := stakes_perm s i
  rw [hj] at h
  exact h

theorem stakes_of_none {s : State} {i : StationId} (hj : (s.station i).job = none) :
    s.stakes.Perm (s.otherStakes i) := by
  have h := stakes_perm s i
  rw [hj] at h
  exact h

/-! ### The law under each change -/

/-- The law of R6, R12 and R162, of a state whose table is in order. -/
def State.stakesFit (s : State) : Prop :=
  StakesFit s.accounts s.stakes ∧ ∀ a ∈ s.accounts, a.walkupJob

/-- One record changed in what the law does not read. -/
theorem State.stakesFit.modifyAccount {s : State} (g : s.stakesFit) (n : Nat) {f : Account → Account}
    (hf : ∀ a ∈ s.accounts, a.number = n → (f a).number = a.number ∧ (f a).kind = a.kind ∧
      (f a).held = a.held ∧ (f a).memberHeld = a.memberHeld ∧ (f a).openJobs = a.openJobs ∧
      (a.openJobs ≠ 0 → (f a).billingNumber = a.billingNumber) ∧
      (a.kind = .transient → ((f a).state = .opened ↔ a.state = .opened))) :
    (s.modifyAccount n f).stakesFit := by
  refine ⟨g.1.map (fun a ha => ?_) (fun a ha h => ?_) (fun a ha h => ?_), fun b hb => ?_⟩
  · split
    · next e => exact (hf a ha e).1
    · rfl
  · split
    · next e => exact (hf a ha e).2.2.2.2.2.1 h
    · rfl
  · split
    · next e =>
      obtain ⟨h1, h2, h3, h4, h5, -⟩ := hf a ha e
      exact h.of_fields h1 h2 h3 h4 h5
    · exact h
  · obtain ⟨a, ha, rfl⟩ := List.mem_map.1 hb
    have h := g.2 a ha
    split
    · next e =>
      obtain ⟨-, h2, -, -, h5, -, h7⟩ := hf a ha e
      intro hk
      rw [h2] at hk
      rw [h5, h hk]
      by_cases ho : a.state = .opened
      · rw [if_pos ho, if_pos ((h7 hk).2 ho)]
      · rw [if_neg ho, if_neg fun e => ho ((h7 hk).1 e)]
    · exact h

/-- A record changed in fields of which none is read. -/
theorem State.stakesFit.modifyFields {s : State} (g : s.stakesFit) (n : Nat) {f : Account → Account}
    (hf : ∀ a : Account, (f a).number = a.number ∧ (f a).kind = a.kind ∧ (f a).held = a.held ∧
      (f a).memberHeld = a.memberHeld ∧ (f a).openJobs = a.openJobs ∧ (f a).payer = a.payer ∧
      (f a).state = a.state) : (s.modifyAccount n f).stakesFit :=
  g.modifyAccount n fun a _ _ => by
    obtain ⟨h1, h2, h3, h4, h5, h6, h7⟩ := hf a
    exact ⟨h1, h2, h3, h4, h5, fun _ => by unfold Account.billingNumber; rw [h6, h1], fun _ => by rw [h7]⟩

/-- A record without open jobs removed (R26). -/
theorem StakesFit.removeAccount {s : State} {xs : List (Nat × Nat × Nat)} {n : Nat} {a : Account}
    (g : StakesFit s.accounts xs) (o : AccountsInOrder s) (ha : s.account n = some a) (h0 : a.openJobs = 0) :
    StakesFit (s.removeAccount n).accounts xs := by
  rw [accounts_removeAccount ha]
  refine (g.map (fun b _ => ?_) (fun b _ _ => ?_) fun b _ hb => ?_).remove fun b hb hn => ?_
  · split <;> rfl
  · split <;> rfl
  · split
    · exact hb.of_fields rfl rfl rfl rfl rfl
    · exact hb
  · obtain ⟨c, hc, rfl⟩ := List.mem_map.1 hb
    have hcn : c.number = n := by split at hn <;> exact hn
    obtain rfl := eq_of_account o ha hc hcn
    split
    · exact h0
    · exact h0

theorem walkupJob_removeAccount {s : State} (g : ∀ a ∈ s.accounts, a.walkupJob) (n : Nat) :
    ∀ a ∈ (s.removeAccount n).accounts, a.walkupJob := by
  cases ha : s.account n with
  | none => unfold State.removeAccount; rw [ha]; exact g
  | some a =>
    rw [accounts_removeAccount ha]
    intro b hb
    obtain ⟨c, hc, rfl⟩ := List.mem_map.1 (List.mem_filter.1 hb).1
    split
    · exact g c hc
    · exact g c hc

theorem stakes_removeAccount (s : State) (n : Nat) : (s.removeAccount n).stakes = s.stakes :=
  stakes_congr fun k => by rw [(onlyAccounts_removeAccount s n).station]

theorem State.stakesFit.removeAccount {s : State} (g : s.stakesFit) (o : AccountsInOrder s) {n : Nat}
    {a : Account} (ha : s.account n = some a) (h0 : a.openJobs = 0) : (s.removeAccount n).stakesFit := by
  refine ⟨?_, walkupJob_removeAccount g.2 n⟩
  rw [stakes_removeAccount]
  exact g.1.removeAccount o ha h0

/-- A new record, without holds and jobs. -/
theorem State.stakesFit.addAccount {s : State} (g : s.stakesFit) {a : Account}
    (hn : s.account a.number = none) (hh : a.held = 0) (hm : a.memberHeld = 0) (hj : a.openJobs = 0)
    (hs : a.state ≠ .opened) : (s.addAccount a).stakesFit := by
  refine ⟨g.1.insert (account_none_iff hn) hh hm hj, fun b hb => ?_⟩
  rcases mem_insertAccount hb with rfl | hb
  · intro _
    rw [hj, if_neg hs]
  · exact g.2 b hb

/-- A hold raised (R61, R63). -/
theorem State.stakesFit.raiseHold {s : State} (g : s.stakesFit) (hm : MembersLaw s) {i : StationId} {j : Job}
    (hj : (s.station i).job = some j) (c : Nat) : (s.raiseHold i j c).stakesFit := by
  have g1 := g.1.perm (stakes_of_job hj)
  have hs := stakeSound_of_named hm (g1.named j.stake (by simp))
  have ht : (s.raiseHold i j c).stakes.Perm ((j.user, j.billing, j.hold + c) :: s.otherStakes i) := by
    have h1 := stakes_of_job (s := s.raiseHold i j c) (i := i) (j := { j with hold := j.hold + c })
      (by rw [station_raiseHold, if_pos rfl, hj]; rfl)
    rw [otherStakes_congr (s := s) fun k hk => by rw [station_raiseHold, if_neg hk]] at h1
    exact h1
  refine ⟨StakesFit.perm ht.symm ?_, ?_⟩ <;> rw [accounts_raiseHold]
  · refine ⟨fun x hx => ?_, fun d hd => ?_⟩
    · have hx' : ∃ y ∈ j.stake :: s.otherStakes i, y.1 = x.1 ∧ y.2.1 = x.2.1 := by
        rcases List.mem_cons.1 hx with rfl | hx
        · exact ⟨j.stake, by simp, rfl, rfl⟩
        · exact ⟨x, List.mem_cons_of_mem _ hx, rfl, rfl⟩
      obtain ⟨y, hy, e1, e2⟩ := hx'
      obtain ⟨⟨v, hv, hvn, hvb⟩, w, hw, hwn⟩ := g1.named y hy
      exact ⟨⟨_, List.mem_map_of_mem hv, hvn.trans e1, hvb.trans e2⟩, _, List.mem_map_of_mem hw, hwn.trans e2⟩
    · obtain ⟨a, ha, rfl⟩ := List.mem_map.1 hd
      exact (g1.bears a ha).raised ha hs
  · intro d hd
    obtain ⟨a, ha, rfl⟩ := List.mem_map.1 hd
    exact g.2 a ha

/-- The stakes after the opening of a job at a station without one. -/
theorem stakes_openAt {s : State} {i : StationId} (hj : (s.station i).job = none) (u : Account) (y : OpenedBy) :
    (s.openAt i u y).stakes.Perm ((u.number, u.billingNumber, (s.newJob i u y).hold) :: s.stakes) := by
  have h1 := stakes_of_job (s := s.openAt i u y) (i := i) (j := s.newJob i u y)
    (by rw [station_openAt, if_pos rfl])
  rw [otherStakes_congr (s := s) fun k hk => by rw [station_openAt, if_neg hk]] at h1
  exact h1.trans ((stakes_of_none hj).symm.cons _)

/-- A job opened for an account of the table (R57). -/
theorem StakesFit.openAt {s : State} (g : StakesFit s.accounts s.stakes) (hm : MembersLaw s) {i : StationId}
    (hj : (s.station i).job = none) {u : Account} (hu : u ∈ s.accounts) (y : OpenedBy) :
    StakesFit (s.openAt i u y).accounts (s.openAt i u y).stakes := by
  obtain ⟨hs, b, hb, hbn⟩ := stakeSound_of_user hm hu
  refine StakesFit.perm (stakes_openAt hj u y).symm ?_
  rw [accounts_openAt]
  refine ⟨fun x hx => ?_, fun d hd => ?_⟩
  · rcases List.mem_cons.1 hx with rfl | hx
    · exact ⟨⟨_, List.mem_map_of_mem hu, rfl, rfl⟩, _, List.mem_map_of_mem hb, hbn⟩
    · obtain ⟨⟨v, hv, hvn, hvb⟩, w, hw, hwn⟩ := g.named x hx
      exact ⟨⟨_, List.mem_map_of_mem hv, hvn, hvb⟩, _, List.mem_map_of_mem hw, hwn⟩
  · obtain ⟨a, ha, rfl⟩ := List.mem_map.1 hd
    exact (g.bears a ha).staked ha hs

/-- A job of a registered account concerns no TRANSIENT (R7). -/
theorem not_transient_of_concerned {s : State} (hm : MembersLaw s) {u a : Account} (hu : u ∈ s.accounts)
    (hk : u.kind ≠ .transient) (ha : a ∈ s.accounts)
    (h : a.number = u.number ∨ a.number = u.billingNumber) : a.kind ≠ .transient := by
  obtain ⟨o, g⟩ := (membersLaw_iff s).1 hm
  have same : ∀ c ∈ s.accounts, a.number = c.number → a = c := fun c hc h =>
    eq_of_account o (account_of_mem o hc) ha h
  unfold Account.billingNumber at h
  cases e : u.payer with
  | none =>
    rw [e, Option.getD_none, or_self] at h
    rw [same u hu h]
    exact hk
  | some p =>
    rw [e, Option.getD_some] at h
    rcases h with h | h
    · rw [same u hu h]
      exact hk
    · obtain ⟨b, hb, hbn, hbk⟩ := g.payers u hu p e
      rw [same b hb (h.trans hbn.symm)]
      rcases hbk with e | e <;> rw [e] <;> decide

/-- A job opened for a registered account. -/
theorem State.stakesFit.openAt {s : State} (g : s.stakesFit) (hm : MembersLaw s) {i : StationId}
    (hj : (s.station i).job = none) {u : Account} (hu : u ∈ s.accounts) (hk : u.kind ≠ .transient)
    (y : OpenedBy) : (s.openAt i u y).stakesFit := by
  refine ⟨g.1.openAt hm hj hu y, ?_⟩
  rw [accounts_openAt]
  intro d hd
  obtain ⟨a, ha, rfl⟩ := List.mem_map.1 hd
  intro ht
  have hn : ¬(a.number = u.number ∨ a.number = u.billingNumber) := fun h =>
    not_transient_of_concerned hm hu hk ha h ht
  show (if a.number = u.number ∨ a.number = u.billingNumber then a.openJobs + 1 else a.openJobs) = _
  rw [if_neg hn]
  exact g.2 a ha ht

/-- A TRANSIENT is billed itself. -/
theorem billingNumber_of_transient {a : Account} (h : a.suitsKind) (hk : a.kind = .transient) :
    a.billingNumber = a.number := by
  obtain ⟨-, -, -, hp, -⟩ := h
  have : a.payer = none := by
    rw [hk] at hp
    simpa using hp
  unfold Account.billingNumber
  rw [this]
  rfl

/-- The job of an approved walk-up (R172). -/
theorem State.stakesFit.openWalkup {s : State} (g : s.stakesFit) (hm : MembersLaw s) {i : StationId}
    (hj : (s.station i).job = none) {u : Account} (hu : u ∈ s.accounts) (hp : u.isPending) :
    (s.openWalkup i u).stakesFit := by
  obtain ⟨o, gm⟩ := (membersLaw_iff s).1 hm
  simp only [Account.isPending, Bool.and_eq_true, beq_iff_eq] at hp
  have hb := billingNumber_of_transient (gm.suits u hu) hp.1
  have h1 := g.1.openAt hm hj hu .reader
  have hst : (s.openWalkup i u).stakes = (s.openAt i u .reader).stakes := rfl
  refine ⟨?_, ?_⟩
  · rw [hst]
    refine h1.map (fun a _ => ?_) (fun a _ _ => ?_) fun a _ h => ?_ <;> split
    · rfl
    · rfl
    · rfl
    · rfl
    · exact h.of_fields rfl rfl rfl rfl rfl
    · exact h
  · intro d hd
    obtain ⟨c, hc, rfl⟩ := List.mem_map.1 hd
    rw [accounts_openAt] at hc
    obtain ⟨a, ha, rfl⟩ := List.mem_map.1 hc
    have hj' : (a.staked u.number u.billingNumber (s.newJob i u .reader).hold).openJobs =
        if a.number = u.number then a.openJobs + 1 else a.openJobs := by
      rw [hb]
      simp only [Account.staked, or_self]
    split
    · next e =>
      obtain rfl := eq_of_account o (account_of_mem o hu) ha e
      intro _
      refine hj'.trans ?_
      rw [if_pos rfl, g.2 a ha hp.1, hp.2]
      rfl
    · next e =>
      intro ht
      rw [hj', if_neg (show ¬a.number = u.number from e)]
      exact g.2 a ha ht

/-! ### Settlement -/

/-- What an account closed by a settlement keeps. -/
theorem closeAccount_from (s : State) (c n : Nat) :
    ∀ b ∈ (s.closeAccount c n).accounts, ∃ a ∈ s.accounts, b.number = a.number ∧ b.kind = a.kind ∧
      b.openJobs = a.openJobs := by
  have same : ∀ b ∈ s.accounts, ∃ a ∈ s.accounts, b.number = a.number ∧ b.kind = a.kind ∧
      b.openJobs = a.openJobs := fun b hb => ⟨b, hb, rfl, rfl, rfl⟩
  cases ha : s.account n with
  | none => unfold State.closeAccount; rw [ha]; exact same
  | some a =>
    rcases closeAccount_cases (c := c) ha with ⟨hk, e⟩ | ⟨_, hs, _, e⟩ | ⟨_, _, e⟩ <;> rw [e]
    · intro b hb
      obtain ⟨x, hx, rfl⟩ := List.mem_map.1 hb
      exact ⟨x, hx, by split <;> rfl, by split <;> rfl, by split <;> rfl⟩
    · rw [accounts_removeAccount ha]
      intro b hb
      obtain ⟨x, hx, rfl⟩ := List.mem_map.1 (List.mem_filter.1 hb).1
      exact ⟨x, hx, by split <;> rfl, by split <;> rfl, by split <;> rfl⟩
    · exact same

theorem StakesFit.closeAccount {s : State} {xs : List (Nat × Nat × Nat)} (g : StakesFit s.accounts xs)
    (o : AccountsInOrder s) (c n : Nat) : StakesFit (s.closeAccount c n).accounts xs := by
  cases ha : s.account n with
  | none => unfold State.closeAccount; rw [ha]; exact g
  | some a =>
    rcases closeAccount_cases (c := c) ha with ⟨hk, e⟩ | ⟨_, _, h0, e⟩ | ⟨_, _, e⟩ <;> rw [e]
    · refine g.map (fun b _ => ?_) (fun b _ _ => ?_) fun b _ h => ?_ <;> split
      · rfl
      · rfl
      · rfl
      · rfl
      · exact h.of_fields rfl rfl rfl rfl rfl
      · exact h
    · exact g.removeAccount o ha h0
    · exact g

/-- Every TRANSIENT is in order once the user account is closed (R76). -/
theorem walkupJob_closeUser {s : State} {n c : Nat} (o : AccountsInOrder s)
    (g : ∀ a ∈ s.accounts, a.number ≠ n → a.walkupJob)
    (h : ∀ a ∈ s.accounts, a.number = n → a.kind = .transient → a.openJobs = 0) :
    ∀ a ∈ (s.closeAccount c n).accounts, a.walkupJob := by
  cases ha : s.account n with
  | none =>
    unfold State.closeAccount
    rw [ha]
    exact fun a hm => g a hm (account_none_iff ha a hm)
  | some a =>
    have hall : a.kind ≠ .transient → ∀ b ∈ s.accounts, b.walkupJob := by
      intro hk b hb
      by_cases e : b.number = n
      · obtain rfl := eq_of_account o ha hb e
        exact fun ht => absurd ht hk
      · exact g b hb e
    rcases closeAccount_cases (c := c) ha with ⟨hk, e⟩ | ⟨hk, _, _, e⟩ | ⟨hk, _, e⟩ <;> rw [e]
    · intro b hb
      obtain ⟨x, hx, rfl⟩ := List.mem_map.1 hb
      split
      · next e => exact fun _ => h x hx e (by obtain rfl := eq_of_account o ha hx e; exact hk)
      · next e => exact g x hx e
    · exact walkupJob_removeAccount (hall hk) n
    · exact hall hk

/-- A registered account closed leaves the TRANSIENT ones. -/
theorem walkupJob_closeRegistered {s : State} {n c : Nat} (g : ∀ a ∈ s.accounts, a.walkupJob)
    (h : ∀ a ∈ s.accounts, a.number = n → a.kind ≠ .transient) :
    ∀ a ∈ (s.closeAccount c n).accounts, a.walkupJob := by
  cases ha : s.account n with
  | none => unfold State.closeAccount; rw [ha]; exact g
  | some a =>
    rcases closeAccount_cases (c := c) ha with ⟨hk, _⟩ | ⟨_, _, _, e⟩ | ⟨_, _, e⟩
    · exact absurd hk (h a (State.account_mem s ha) (State.account_number s ha))
    · rw [e]; exact walkupJob_removeAccount g n
    · rw [e]; exact g

theorem closeAccount_inOrder {s : State} (o : AccountsInOrder s) (c n : Nat) :
    AccountsInOrder (s.closeAccount c n) :=
  (edits_closeAccount s c n).keeps (fun _ _ e => e.inOrder) o

/-- The user account of an open job is an account of the table, billed as the job is. -/
theorem user_of_job {s : State} {i : StationId} {j : Job} (g : s.stakesFit)
    (hj : (s.station i).job = some j) :
    ∃ u ∈ s.accounts, u.number = j.user ∧ u.billingNumber = j.billing := by
  have g1 := g.1.perm (stakes_of_job hj)
  exact (g1.named j.stake (by simp)).1

/-- A settlement releases the hold and closes the accounts (R74 to R76). -/
theorem State.stakesFit.settleJob {s : State} (g : s.stakesFit) (hm : MembersLaw s) {i : StationId} {j : Job}
    (hj : (s.station i).job = some j) (dest : StationState) : (s.settleJob i dest j).stakesFit := by
  obtain ⟨o, gm⟩ := (membersLaw_iff s).1 hm
  have g1 := g.1.perm (stakes_of_job hj)
  obtain ⟨u, hu, hun, hub⟩ := user_of_job g hj
  obtain ⟨f, hf, hp⟩ := exists_settled s j
  have hst : (s.settleJob i dest j).stakes.Perm (s.otherStakes i) := by
    obtain ⟨-, f2, -, -, f5⟩ := settleJob_facts s i dest j
    have h1 := stakes_of_none (s := s.settleJob i dest j) (i := i) (by rw [f5])
    rw [otherStakes_congr (s := s) fun k hk => stake_of_undriven f2 hk] at h1
    exact h1
  suffices h : StakesFit (s.settleJob i dest j).accounts (s.otherStakes i) ∧
      ∀ a ∈ (s.settleJob i dest j).accounts, a.walkupJob from ⟨h.1.perm hst.symm, h.2⟩
  unfold State.settleJob
  extract_lets charge s1 ba s2 s3 s4 s5
  have o2 : AccountsInOrder s2 := by
    refine (accountsInOrder_map (s := s) (f := f) (fun a => (hp a).1.number) ?_).2 o
    exact hf
  have e2 : s2.accounts = s.accounts.map f := hf
  have fit2 : StakesFit s2.accounts (s.otherStakes i) := by
    rw [e2]
    refine StakesFit.released hm (c := j.hold) (u := j.user) (b := j.billing) g1 fun a _ => ?_
    obtain ⟨h1, h2, h3, h4⟩ := hp a
    exact ⟨h1.number, h1.kind, h1.billingNumber, h2, h3, h4⟩
  have rest2 : ∀ a ∈ s2.accounts, a.number ≠ j.user → a.walkupJob := by
    rw [e2]
    intro d hd hn
    obtain ⟨a, ha, rfl⟩ := List.mem_map.1 hd
    obtain ⟨h1, -, -, h4⟩ := hp a
    rw [h1.number] at hn
    intro hk
    rw [h1.kind] at hk
    rw [h4, h1.state]
    show (if a.number = j.user ∨ a.number = j.billing then a.openJobs - 1 else a.openJobs) = _
    rw [if_neg, g.2 a ha hk]
    rintro (e | e)
    · exact hn e
    · by_cases hku : u.kind = .transient
      · rw [← hub, billingNumber_of_transient (gm.suits u hu) hku, hun] at e
        exact hn e
      · exact not_transient_of_concerned hm hu hku ha (.inr (e.trans hub.symm)) hk
  have user2 : ∀ a ∈ s2.accounts, a.number = j.user → a.kind = .transient → a.openJobs = 0 := by
    rw [e2]
    intro d hd hn hk
    obtain ⟨a, ha, rfl⟩ := List.mem_map.1 hd
    obtain ⟨h1, -, -, h4⟩ := hp a
    rw [h1.number] at hn
    rw [h1.kind] at hk
    rw [h4]
    show (if a.number = j.user ∨ a.number = j.billing then a.openJobs - 1 else a.openJobs) = 0
    rw [if_pos (.inl hn), g.2 a ha hk]
    split <;> rfl
  have fit3 : StakesFit s3.accounts (s.otherStakes i) := fit2.closeAccount o2 _ _
  have walk3 : ∀ a ∈ s3.accounts, a.walkupJob := walkupJob_closeUser o2 rest2 user2
  have h4 : StakesFit s4.accounts (s.otherStakes i) ∧ ∀ a ∈ s4.accounts, a.walkupJob := by
    by_cases e : j.user = j.billing
    · simp only [s4, e, if_true]
      exact ⟨fit3, walk3⟩
    · simp only [s4, e, if_false]
      refine ⟨fit3.closeAccount (closeAccount_inOrder o2 _ _) _ _, walkupJob_closeRegistered walk3 ?_⟩
      intro b hb hbn hbk
      obtain ⟨d, hd, hdn, hdk, -⟩ := closeAccount_from s2 _ _ b hb
      rw [e2] at hd
      obtain ⟨a, ha, rfl⟩ := List.mem_map.1 hd
      obtain ⟨h1, -⟩ := hp a
      have hku : u.kind ≠ .transient := fun h => e (by
        rw [← hun, ← hub, billingNumber_of_transient (gm.suits u hu) h])
      refine not_transient_of_concerned hm hu hku ha (.inr ?_) ?_
      · rw [hub, ← hbn, hdn, h1.number]
      · rw [← hbk, hdk, h1.kind]
  exact h4

/-- The law of holds is kept by every move from lawful stations (R6, R12). -/
theorem Move.stakesFit {s t : State} (h : Move L s t) (hl : L) (hm : MembersLaw s) (g : s.stakesFit) :
    t.stakesFit := by
  obtain ⟨o, gm⟩ := (membersLaw_iff s).1 hm
  cases h with
  | quiet h =>
    refine ⟨?_, ?_⟩
    · rw [h.accounts, stakes_congr fun k => (h.station k).stake]
      exact g.1
    · rw [h.accounts]
      exact g.2
  | accounts f hn hf hr =>
    refine ⟨g.1.map (fun a _ => hn a) (fun a ha _ => ?_) fun a ha hb => ?_, fun b hb => ?_⟩
    · unfold Account.billingNumber
      rw [(hf o a ha).payer, hn a]
    · exact hb.of_fields (hn a) (hf o a ha).kind (hf o a ha).held (hf o a ha).memberHeld (hf o a ha).openJobs
    · obtain ⟨a, ha, rfl⟩ := List.mem_map.1 hb
      intro hk
      rw [(hf o a ha).kind] at hk
      rw [(hf o a ha).openJobs, g.2 a ha hk]
      simp only [(hf o a ha).opened hk]
  | raiseHold c hj => exact g.raiseHold hm hj c
  | settle hj ho hd => exact g.settleJob hm hj _
  | @openJob i n u by_ hu ha hs hj =>
    have hmem := State.account_mem s hu
    refine g.openAt hm (hj hl) hmem (fun hk => ?_) by_
    obtain ⟨-, -, -, -, -, h6, -⟩ := gm.suits u hmem
    rw [ha] at h6
    simp [hk] at h6
  | openWalkup hp ha hw hi hs hj => exact g.openWalkup hm (hj hl) (State.account_mem s (ha o)) hp
  | @startWalkup i x h hs hk ht =>
    obtain ⟨-, h1, -⟩ := (walkupAllowed_iff s i).1 h
    have hn := account_freshNumber gm.suits h1
    have g1 := g.addAccount (a := s.newTransient i) hn rfl rfl rfl (by simp [State.newTransient])
    have g2 : ((s.addAccount (s.newTransient i)).bindToken x (s.newTransient i).number).stakesFit :=
      g1.modifyFields _ (f := fun a => { a with tokens := a.tokens ++ [x] })
        fun _ => ⟨rfl, rfl, rfl, rfl, rfl, rfl, rfl⟩
    have e : (s.startWalkup i x).stakes = s.stakes := stakes_congr fun k => by
      rw [station_startWalkup]
      split
      · next h => rw [h]
      · rfl
    exact ⟨by rw [e]; exact g2.1, g2.2⟩
  | @endWalkup a w i d hp ha hw hi =>
    have hmem := State.account_mem s (ha o)
    simp only [Account.isPending, Bool.and_eq_true, beq_iff_eq] at hp
    have h0 : a.openJobs = 0 := by
      rw [g.2 a hmem hp.1, hp.2]
      rfl
    have g1 := g.removeAccount o (ha o) h0
    obtain ⟨-, f2, -, -, f5, -⟩ := endWalkup_facts s a i d
    have e : (s.endWalkup a i d).stakes = s.stakes := stakes_congr fun k => by
      by_cases hk : k = i
      · subst hk; rw [f5]
      · exact stake_of_undriven f2 hk
    have e2 : (s.endWalkup a i d).accounts = (s.removeAccount a.number).accounts := by
      have hw : (s.setWalkupUnit { s.wau with waiting := s.wau.waiting.filter fun n => n != a.number }).account
        a.number = some a := ha o
      unfold State.endWalkup
      extract_lets wau v
      exact (accounts_removeAccount hw).trans (accounts_removeAccount (ha o)).symm
    refine ⟨?_, ?_⟩
    · rw [e, e2, ← stakes_removeAccount s a.number]
      exact g1.1
    · rw [e2]
      exact g1.2
  | load hf hn hl hp =>
    obtain ⟨k, x, -, hx, -, -, -, rfl⟩ := asRecord_some hf
    exact g.addAccount hn rfl rfl rfl (by
      rcases loadStateOf_some hx with ⟨_, e⟩ | ⟨_, e⟩ <;> subst e <;> simp [LoadForm.record])
  | loadMember hf hn hl hp hq =>
    obtain ⟨k, x, -, hx, -, -, -, rfl⟩ := asRecord_some hf
    exact (g.addAccount hn rfl rfl rfl (by
      rcases loadStateOf_some hx with ⟨_, e⟩ | ⟨_, e⟩ <;> subst e <;> simp [LoadForm.record])).modifyFields _
      (f := fun b => { b with memberCount := b.memberCount + 1 }) fun _ => ⟨rfl, rfl, rfl, rfl, rfl, rfl, rfl⟩
  | @movePayer f a p ha hv hp hj hq =>
    have hn := State.account_number s ha
    have g1 : (s.modifyAccount a.number f.applyTo).stakesFit := by
      refine g.modifyAccount _ fun b hb e => ?_
      obtain rfl := eq_of_account o ha hb (e.trans hn)
      exact ⟨rfl, rfl, rfl, rfl, rfl, fun h => absurd hj h, fun _ => Iff.rfl⟩
    have hadd : ∀ t : State, t.stakesFit → (t.addMember p).stakesFit := fun t h =>
      h.modifyFields p (f := fun b => { b with memberCount := b.memberCount + 1 })
        fun _ => ⟨rfl, rfl, rfl, rfl, rfl, rfl, rfl⟩
    unfold State.movePayer
    split
    · exact g1
    · split
      · exact hadd _ g1
      · exact hadd _ (g1.modifyFields _ (f := fun b => { b with memberCount := b.memberCount - 1 })
          fun _ => ⟨rfl, rfl, rfl, rfl, rfl, rfl, rfl⟩)
  | @remove n a ha h =>
    refine g.removeAccount o ha ?_
    rcases h with ⟨hk, hs⟩ | ⟨-, -, h⟩
    · rw [g.2 a (State.account_mem s ha) hk, hs]
      rfl
    · exact h
  | @bind x n a ha hk h ht hl hm =>
    exact g.modifyFields _ (f := fun a => { a with tokens := a.tokens ++ [x] })
      fun _ => ⟨rfl, rfl, rfl, rfl, rfl, rfl, rfl⟩
  | @unbind x n ht h =>
    exact g.modifyFields _ (f := fun a => { a with tokens := a.tokens.filter fun u => u != x })
      fun _ => ⟨rfl, rfl, rfl, rfl, rfl, rfl, rfl⟩
  | reset ha hk hs hr ht hd =>
    have e : t.stakes = [] := by
      unfold State.stakes State.openJobs
      rw [List.map_eq_nil_iff, List.filterMap_eq_nil_iff]
      exact fun i _ => (hs i).1
    rw [State.stakesFit, ha, e]
    exact ⟨⟨by simp, by simp⟩, by simp⟩

/-- The books but for the stations themselves. -/
def AccountBooks (s : State) : Prop := MembersLaw s ∧ WithinCapacity s ∧ HoldsLaw s ∧ WalkupsLaw s

/-- Members, capacities, holds and walk-ups are kept by every move from lawful stations. -/
theorem Move.accountBooks {s t : State} (h : Move L s t) (hl : L) (hb : AccountBooks s) : AccountBooks t := by
  obtain ⟨hm, hc, hh, hw⟩ := hb
  have hm' := h.members hm
  exact ⟨hm', h.capacity hm hc,
    (holdsLaw_iff hm'.1).2 (h.stakesFit hl hm ((holdsLaw_iff hm.1).1 hh)), h.walkups hl hm hw⟩

end Sys2Proof.Machine
end

section
/-! SUPPORT. The standing conditions of a station, said by state, and what the shared operations leave of
them (Table 4-1, R70, R71, R80, R108, R118, R119, R122, R123). -/

namespace Sys2Proof.Machine

/-! ### The shapes of a lawful station -/

/-- A free station has no job (Table 4-1, R80). -/
theorem hasJob_of_isFree {x : StationState} (h : x.isFree = true) : x.hasJob = false := by
  revert h
  cases x <;> decide

/-- Without a job: DISABLED, IDLE, OPENING, OUT_OF_SERVICE. -/
structure Station.Vacant (st : Station) : Prop where
  job : st.job = none
  path : st.path = []
  disputed : st.disputed = []
  jamCause : st.jamCause = none
  jamTimer : st.jamTimer = none
  drainTimer : st.drainTimer = none

/-- With an open job and no jam, and no drain timer. -/
structure Station.Clear (st : Station) : Prop where
  room : st.path.length ≤ Config.maxSheetsInPath
  tracked : st.config.countMode ≠ .tracked → st.path = []
  disputed : st.disputed = []
  jamCause : st.jamCause = none
  jamTimer : st.jamTimer = none
  drainTimer : st.drainTimer = none

/-- RUNNING and HELD: an open job with its idle timer. -/
structure Station.Active (st : Station) : Prop extends st.Clear where
  job : ∃ j, st.job = some j ∧ j.idleTimer.isSome

/-- CLOSING: sheets in path, an end cause, the drain timer. -/
structure Station.Draining (st : Station) : Prop where
  job : ∃ j, st.job = some j ∧ j.idleTimer = none ∧ j.endRequest.isSome
  nonempty : st.path ≠ []
  room : st.path.length ≤ Config.maxSheetsInPath
  tracked : st.config.countMode ≠ .tracked → st.path = []
  disputed : st.disputed = []
  jamCause : st.jamCause = none
  jamTimer : st.jamTimer = none
  drainTimer : st.drainTimer.isSome

/-- JAMMED: the disputed list, the cause, the jam timer. -/
structure Station.Jammed (st : Station) : Prop where
  job : ∃ j, st.job = some j ∧ j.idleTimer = none
  path : st.path = []
  room : st.disputed.length ≤ Config.maxSheetsInPath
  jamCause : st.jamCause.isSome
  jamTimer : st.jamTimer.isSome
  drainTimer : st.drainTimer = none

theorem lawful_vacant_iff {st : Station} (h : st.state.hasJob = false) :
    st.lawful ↔ st.Vacant ∧ (st.state.isFree → st.sessionToken = none) := by
  have h1 : st.state ≠ .jammed := by intro e; rw [e] at h; cases h
  have h2 : st.state ≠ .closing := by intro e; rw [e] at h; cases h
  unfold Station.lawful
  rw [h]
  simp only [Option.isSome_eq_false_iff, Option.isNone_iff_eq_none, h1, h2, beq_eq_false_iff_ne.2 h1,
    beq_eq_false_iff_ne.2 h2, false_implies, ne_eq, not_false_eq_true, true_implies, true_and]
  constructor
  · rintro ⟨g1, -, g3, g4, -, g5, g6, g7, -, g8⟩
    exact ⟨⟨g1, g3 g1, g4, g5, g6, g7⟩, g8⟩
  · rintro ⟨⟨g1, g2, g3, g4, g5, g6⟩, g7⟩
    exact ⟨g1, by rw [g2, g3]; decide, fun _ => g2, g3, fun _ => g2, g4, g5, g6,
      fun j hj => absurd (g1.symm.trans hj) (by simp), g7⟩

theorem lawful_active_iff {st : Station} (h : st.state = .running ∨ st.state = .held) :
    st.lawful ↔ st.Active := by
  have hj : st.state.hasJob = true := by rcases h with e | e <;> rw [e] <;> rfl
  have h1 : st.state ≠ .jammed := by rcases h with e | e <;> rw [e] <;> decide
  have h2 : st.state ≠ .closing := by rcases h with e | e <;> rw [e] <;> decide
  have h3 : (st.state == .running || st.state == .held) = true := by rcases h with e | e <;> rw [e] <;> rfl
  have h4 : ¬ st.state.isFree := by rcases h with e | e <;> rw [e] <;> decide
  unfold Station.lawful
  rw [hj, h3, beq_eq_false_iff_ne.2 h1, beq_eq_false_iff_ne.2 h2]
  simp only [Option.isSome_eq_false_iff, Option.isNone_iff_eq_none, h1, h2, h4, Bool.false_eq_true,
    false_implies, ne_eq, not_false_eq_true, true_implies, true_and, and_true]
  constructor
  · rintro ⟨g1, g2, -, g4, g5, g6, g7, g8, g9⟩
    obtain ⟨j, e⟩ := Option.isSome_iff_exists.1 g1
    exact ⟨⟨(Nat.le_add_right _ _).trans g2, g5, g4, g6, g7, g8⟩, j, e, g9 j e⟩
  · rintro ⟨⟨g1, g2, g3, g4, g5, g6⟩, j, e, hi⟩
    refine ⟨by rw [e]; rfl, by rw [g3]; exact g1, fun hn => ?_, g3, g2, g4, g5, g6, fun k hk => ?_⟩
    · rw [e] at hn; cases hn
    · rw [e] at hk
      rw [← Option.some.inj hk]
      exact hi

theorem lawful_closing_iff {st : Station} (h : st.state = .closing) : st.lawful ↔ st.Draining := by
  unfold Station.lawful
  rw [h]
  simp only [StationState.hasJob, StationState.isFree, reduceCtorEq, ne_eq, not_false_eq_true,
    true_implies, false_implies, Option.isSome_eq_false_iff, Option.isNone_iff_eq_none, true_and, and_true,
    beq_self_eq_true, Bool.false_eq_true, show (StationState.closing == .jammed) = false from rfl,
    show (StationState.closing == .running) = false from rfl,
    show (StationState.closing == .held) = false from rfl, Bool.or_self]
  constructor
  · rintro ⟨g1, g2, -, g4, g5, g6, g7, g8, ⟨g9, g10⟩, g11⟩
    obtain ⟨j, e⟩ := Option.isSome_iff_exists.1 g1
    rw [e] at g10
    exact ⟨⟨j, e, g11 j e, g10⟩, g9, (Nat.le_add_right _ _).trans g2, g5, g4, g6, g7, g8⟩
  · rintro ⟨⟨j, e, hi, he⟩, g2, g3, g4, g5, g6, g7, g8⟩
    refine ⟨by rw [e]; rfl, by rw [g5]; exact g3, fun hn => ?_, g5, g4, g6, g7, g8, ⟨g2, ?_⟩, fun k hk => ?_⟩
    · rw [e] at hn; cases hn
    · rw [e]; exact he
    · rw [e] at hk
      rw [← Option.some.inj hk]
      exact hi

theorem lawful_jammed_iff {st : Station} (h : st.state = .jammed) : st.lawful ↔ st.Jammed := by
  unfold Station.lawful
  rw [h]
  simp only [StationState.hasJob, StationState.isFree, reduceCtorEq, ne_eq, not_true_eq_false,
    true_implies, false_implies, Option.isSome_eq_false_iff, Option.isNone_iff_eq_none, true_and, and_true,
    beq_self_eq_true, Bool.false_eq_true, show (StationState.jammed == .closing) = false from rfl,
    show (StationState.jammed == .running) = false from rfl,
    show (StationState.jammed == .held) = false from rfl, Bool.or_self]
  constructor
  · rintro ⟨g1, g2, -, g4, -, g6, g7, g8, g9⟩
    obtain ⟨j, e⟩ := Option.isSome_iff_exists.1 g1
    exact ⟨⟨j, e, g9 j e⟩, g4, (Nat.le_add_left _ _).trans g2, g6, g7, g8⟩
  · rintro ⟨⟨j, e, hi⟩, g2, g3, g4, g5, g6⟩
    refine ⟨by rw [e]; rfl, by rw [g2]; simpa using g3, fun _ => g2, g2, fun _ => g2, g4, g5, g6,
      fun k hk => ?_⟩
    rw [e] at hk
    rw [← Option.some.inj hk]
    exact hi

/-- A lawful station has one of the four shapes. -/
theorem lawful_shapes {st : Station} (h : st.lawful) :
    (st.state.hasJob = false ∧ st.Vacant) ∨ ((st.state = .running ∨ st.state = .held) ∧ st.Active) ∨
      (st.state = .closing ∧ st.Draining) ∨ (st.state = .jammed ∧ st.Jammed) := by
  cases e : st.state with
  | disabled => exact .inl ⟨rfl, ((lawful_vacant_iff (by rw [e]; rfl)).1 h).1⟩
  | idle => exact .inl ⟨rfl, ((lawful_vacant_iff (by rw [e]; rfl)).1 h).1⟩
  | opening => exact .inl ⟨rfl, ((lawful_vacant_iff (by rw [e]; rfl)).1 h).1⟩
  | outOfService => exact .inl ⟨rfl, ((lawful_vacant_iff (by rw [e]; rfl)).1 h).1⟩
  | running => exact .inr (.inl ⟨.inl rfl, (lawful_active_iff (.inl e)).1 h⟩)
  | held => exact .inr (.inl ⟨.inr rfl, (lawful_active_iff (.inr e)).1 h⟩)
  | closing => exact .inr (.inr (.inl ⟨rfl, (lawful_closing_iff e).1 h⟩))
  | jammed => exact .inr (.inr (.inr ⟨rfl, (lawful_jammed_iff e).1 h⟩))

/-- The law does not read the level of the PERMIT pin. -/
theorem lawful_of_undriven {a b : Station} (h : a.undriven = b.undriven) (g : b.lawful) : a.lawful := by
  have e : a.undriven.lawful := h ▸ (show b.undriven.lawful from g)
  exact e

/-- What the law reads of a job: whether an end cause and the idle timer stand. -/
def Job.marks (j : Job) : Bool × Bool := (j.endRequest.isSome, j.idleTimer.isSome)

/-- A station changed in nothing that the law reads. -/
structure Station.Alike (a b : Station) : Prop where
  state : b.state = a.state
  marks : b.job.map Job.marks = a.job.map Job.marks
  path : b.path = a.path
  disputed : b.disputed = a.disputed
  mode : b.config.countMode = a.config.countMode
  jamCause : b.jamCause.isSome = a.jamCause.isSome
  jamTimer : b.jamTimer.isSome = a.jamTimer.isSome
  drainTimer : b.drainTimer.isSome = a.drainTimer.isSome
  token : b.state.isFree → a.sessionToken = none → b.sessionToken = none

theorem Station.Alike.job_isSome {a b : Station} (h : a.Alike b) : b.job.isSome = a.job.isSome := by
  have := congrArg Option.isSome h.marks
  rwa [Option.isSome_map, Option.isSome_map] at this

theorem Station.Alike.job_of {a b : Station} (h : a.Alike b) {j : Job} (hj : b.job = some j) :
    ∃ k, a.job = some k ∧ j.marks = k.marks := by
  have := h.marks
  rw [hj] at this
  obtain ⟨k, hk, e⟩ := Option.map_eq_some_iff.1 this.symm
  exact ⟨k, hk, e.symm⟩

theorem Station.Alike.lawful {a b : Station} (h : a.Alike b) (g : a.lawful) : b.lawful := by
  obtain ⟨g1, g2, g3, g4, g5, g6, g7, g8, g9, g10, g11, g12⟩ := g
  have hnone : b.job = none → a.job = none := fun e => by
    have := h.job_isSome
    rw [e] at this
    simpa using this.symm
  refine ⟨by rw [h.job_isSome, h.state]; exact g1, by rw [h.path, h.disputed]; exact g2,
    fun e => by rw [h.path]; exact g3 (hnone e), by rw [h.state, h.path]; exact g4,
    by rw [h.state, h.disputed]; exact g5, by rw [h.mode, h.path]; exact g6,
    by rw [h.state, h.jamCause]; exact g7, by rw [h.state, h.jamTimer]; exact g8,
    by rw [h.state, h.drainTimer]; exact g9, fun e => ?_, fun j hj => ?_, fun e => ?_⟩
  · rw [h.state] at e
    obtain ⟨p1, p2⟩ := g10 e
    refine ⟨by rw [h.path]; exact p1, ?_⟩
    obtain ⟨j, hj⟩ : ∃ j, b.job = some j := Option.isSome_iff_exists.1 (by
      rw [h.job_isSome, g1, e]; rfl)
    obtain ⟨k, hk, em⟩ := h.job_of hj
    rw [hk] at p2
    rw [hj]
    exact (congrArg Prod.fst em).trans p2
  · obtain ⟨k, hk, em⟩ := h.job_of hj
    rw [h.state]
    exact (congrArg Prod.snd em).trans (g11 k hk)
  · exact h.token e (g12 (by rwa [h.state] at e))

theorem Station.Alike.of_fields {a b : Station} (hs : b.state = a.state)
    (hj : b.job.map Job.marks = a.job.map Job.marks) (hp : b.path = a.path) (hd : b.disputed = a.disputed)
    (hc : b.config.countMode = a.config.countMode) (h1 : b.jamCause = a.jamCause)
    (h2 : b.jamTimer = a.jamTimer) (h3 : b.drainTimer = a.drainTimer) (h4 : b.sessionToken = a.sessionToken) :
    a.Alike b :=
  ⟨hs, hj, hp, hd, hc, by rw [h1], by rw [h2], by rw [h3], fun _ h => h4.trans h⟩

/-- A job changed in what the law does not read. -/
theorem marks_map_of {f : Job → Job} (hf : ∀ j, (f j).marks = j.marks) (o : Option Job) :
    (o.map f).map Job.marks = o.map Job.marks := by
  cases o <;> simp [hf]

/-! ### States, station by station -/

/-- Every station that was lawful still is. -/
def Legal (s t : State) : Prop := ∀ k, (s.station k).lawful → (t.station k).lawful

/-- Every station but `i` that was lawful still is. -/
def LegalApart (i : StationId) (s t : State) : Prop := ∀ k, k ≠ i → (s.station k).lawful → (t.station k).lawful

theorem Legal.refl (s : State) : Legal s s := fun _ h => h

theorem Legal.trans {s t u : State} (h : Legal s t) (g : Legal t u) : Legal s u := fun k hk => g k (h k hk)

theorem Legal.apart {s t : State} (h : Legal s t) (i : StationId) : LegalApart i s t := fun k _ => h k

theorem LegalApart.refl (i : StationId) (s : State) : LegalApart i s s := fun _ _ h => h

theorem LegalApart.trans {i : StationId} {s t u : State} (h : LegalApart i s t) (g : LegalApart i t u) :
    LegalApart i s u := fun k hk hl => g k hk (h k hk hl)

theorem LegalApart.of_keeps {i : StationId} {s t : State} (h : KeepsOtherStations i s t) : LegalApart i s t :=
  fun k hk hl => lawful_of_undriven (h k hk) hl

theorem LegalApart.legal {i : StationId} {s t : State} (h : LegalApart i s t)
    (hi : (s.station i).lawful → (t.station i).lawful) : Legal s t := fun k hl => by
  by_cases e : k = i
  · subst e; exact hi hl
  · exact h k e hl

theorem Legal.of_undriven {s t : State} (h : ∀ k, (t.station k).undriven = (s.station k).undriven) :
    Legal s t := fun k hl => lawful_of_undriven (h k) hl

theorem legal_of_stations {s t : State} (h : t.stations = s.stations) : Legal s t :=
  .of_undriven fun k => by unfold State.station; rw [h]

theorem legal_drive (s : State) : Legal s s.drive := .of_undriven fun k => State.drive_undriven s k

theorem Legal.foldl {α : Type} (f : State → α → State) (hf : ∀ s a, Legal s (f s a)) (l : List α) (s : State) :
    Legal s (l.foldl f s) := by
  induction l generalizing s with
  | nil => exact .refl s
  | cons a l ih => exact (hf s a).trans (ih _)

theorem apart_modifyStation (s : State) (i : StationId) (f : Station → Station) :
    LegalApart i s (s.modifyStation i f) := .of_keeps (keepsOtherStations_modifyStation s i f)

theorem legal_modifyStation {s : State} {i : StationId} {f : Station → Station}
    (h : (s.station i).lawful → (f (s.station i)).lawful) : Legal s (s.modifyStation i f) :=
  (apart_modifyStation s i f).legal fun hl => by rw [State.station_modifyStation_self]; exact h hl

theorem legal_alike {s : State} {i : StationId} {f : Station → Station}
    (h : (s.station i).Alike (f (s.station i))) : Legal s (s.modifyStation i f) :=
  legal_modifyStation h.lawful

theorem legal_modifyJob (s : State) (i : StationId) {f : Job → Job} (hf : ∀ j, (f j).marks = j.marks) :
    Legal s (s.modifyJob i f) :=
  legal_alike (.of_fields rfl (marks_map_of hf _) rfl rfl rfl rfl rfl rfl rfl)

theorem legal_modifyAlarms (s : State) (i : StationId) (f : StationAlarms → StationAlarms) :
    Legal s (s.modifyAlarms i f) := legal_alike (.of_fields rfl rfl rfl rfl rfl rfl rfl rfl rfl)

theorem legal_placeDisplay (s : State) (i : StationId) (d : Display) : Legal s (s.placeDisplay i d) :=
  legal_of_stations rfl

/-! ### The shared operations -/

theorem station_raiseHold_alike (s : State) (i k : StationId) (j : Job) (c : Nat) :
    (s.station k).Alike ((s.raiseHold i j c).station k) := by
  rw [station_raiseHold]
  split
  · next e =>
    subst e
    exact .of_fields rfl (marks_map_of (f := fun q => { q with hold := q.hold + c }) (fun _ => rfl) _)
      rfl rfl rfl rfl rfl rfl rfl
  · exact .of_fields rfl rfl rfl rfl rfl rfl rfl rfl rfl

theorem station_coverTest_alike (s : State) (i k : StationId) :
    (s.station k).Alike ((s.coverTest i).1.station k) := by
  rcases coverTest_cases s i with e | e | ⟨j, _, e⟩ <;> rw [e]
  · exact .of_fields rfl rfl rfl rfl rfl rfl rfl rfl rfl
  · exact .of_fields rfl rfl rfl rfl rfl rfl rfl rfl rfl
  · exact station_raiseHold_alike s i k j _

theorem legal_coverTest (s : State) (i : StationId) : Legal s (s.coverTest i).1 :=
  fun k => (station_coverTest_alike s i k).lawful

/-- From RUNNING or HELD to RUNNING or HELD. -/
theorem Station.Active.enter {st : Station} (h : st.Active) {x : StationState}
    (hx : x = .running ∨ x = .held) : ({ st with state := x } : Station).lawful :=
  (lawful_active_iff hx).2 ⟨⟨h.room, h.tracked, h.disputed, h.jamCause, h.jamTimer, h.drainTimer⟩, h.job⟩

theorem legal_enter_active {s : State} {i : StationId}
    (hs : (s.station i).state = .running ∨ (s.station i).state = .held) {x : StationState}
    (hx : x = .running ∨ x = .held) : Legal s (s.enter i x) :=
  legal_modifyStation fun hl => ((lawful_active_iff hs).1 hl).enter hx

theorem legal_enterRunning {s : State} {i : StationId}
    (hs : (s.station i).state = .running ∨ (s.station i).state = .held) : Legal s (s.enterRunning i) :=
  (legal_enter_active hs (.inl rfl)).trans (legal_placeDisplay _ i _)

theorem legal_enterHeld {s : State} {i : StationId}
    (hs : (s.station i).state = .running ∨ (s.station i).state = .held) : Legal s (s.enterHeld i) :=
  (legal_enter_active hs (.inr rfl)).trans (legal_placeDisplay _ i _)

theorem legal_coverRunning {s : State} {i : StationId}
    (hs : (s.station i).state = .running ∨ (s.station i).state = .held) :
    Legal s ((s.coverTest i).1.enterRunning i) :=
  (legal_coverTest s i).trans (legal_enterRunning (by rw [state_coverTest]; exact hs))

theorem legal_coverHeld {s : State} {i : StationId}
    (hs : (s.station i).state = .running ∨ (s.station i).state = .held) :
    Legal s ((s.coverTest i).1.enterHeld i) :=
  (legal_coverTest s i).trans (legal_enterHeld (by rw [state_coverTest]; exact hs))

theorem legal_coverAfterPricing (s : State) (i : StationId) : Legal s (s.coverAfterPricing i) := by
  unfold State.coverAfterPricing
  split
  · next h =>
    split
    · exact legal_coverTest s i
    · exact legal_coverHeld (.inl h)
  · next h =>
    split
    · exact legal_coverRunning (.inr h)
    · exact (legal_coverTest s i).trans (legal_placeDisplay _ i _)
  · exact .refl s

theorem legal_retryAt (n : Nat) (s : State) (i : StationId) : Legal s (State.retryAt n s i) := by
  unfold State.retryAt
  split
  · next h =>
    split
    · exact legal_coverRunning (.inr h.1)
    · exact legal_coverTest s i
  · exact .refl s

theorem legal_retry (s : State) (n : Nat) : Legal s (s.retry n) :=
  .foldl (State.retryAt n) (legal_retryAt n) allStations s

theorem legal_retryIfPresent (s : State) (n : Nat) : Legal s (s.retryIfPresent n) := by
  unfold State.retryIfPresent
  split
  · exact legal_retry s n
  · exact .refl s

theorem legal_makeOwedRetries (s : State) : Legal s s.makeOwedRetries := by
  unfold State.makeOwedRetries
  exact (Legal.foldl State.retry legal_retry s.retryOwed s).trans ((legal_of_stations rfl).trans (legal_drive _))

theorem legal_restartIdle (s : State) (i : StationId) : Legal s (s.restartIdle i) := by
  rcases restartIdle_cases s i with ⟨hs, e⟩ | ⟨_, _, e⟩ <;> rw [e]
  · refine legal_modifyStation fun hl => ?_
    obtain ⟨h, j, hj, hi⟩ := (lawful_active_iff hs).1 hl
    refine (lawful_active_iff (by exact hs)).2 ⟨⟨h.room, h.tracked, h.disputed, h.jamCause, h.jamTimer, h.drainTimer⟩,
      { j with idleTimer := some s.globals.idleSteps }, ?_, rfl⟩
    simp [hj]
  · exact .refl s

theorem legal_billSheet (s : State) (i : StationId) (x : Sheet) : Legal s (s.billSheet i x) :=
  (legal_modifyJob s i (by intro; rfl)).trans (legal_placeDisplay _ i _)

theorem legal_priceSheet {s : State} {i : StationId} {j : Job} (c : SheetClass)
    (hj : (s.station i).job = some j) : Legal s (s.priceSheet i j c) := by
  refine (LegalApart.of_keeps (priceSheet_frame s i j c).2).legal fun hl => ?_
  rw [station_priceSheet _ _ _ _ hj]
  refine Station.Alike.lawful (a := s.station i) (.of_fields rfl ?_ rfl rfl rfl rfl rfl rfl rfl) hl
  rw [hj]
  rfl

theorem apart_recordEnd (s : State) (i : StationId) (c : EndCause) : LegalApart i s (s.recordEnd i c) :=
  apart_modifyStation s i _

/-- A settlement leaves the other stations lawful: a retry moves them from HELD to RUNNING at most. -/
theorem apart_settle (s : State) (i : StationId) (dest : StationState) : LegalApart i s (s.settle i dest) := by
  cases hj : (s.station i).job with
  | none =>
    have e : s.settle i dest = s := by unfold State.settle; rw [hj]
    rw [e]; exact .refl i s
  | some j =>
    rw [settle_eq hj]
    obtain ⟨-, f2, -⟩ := settleJob_facts s i dest j
    exact (LegalApart.of_keeps f2).trans ((legal_retryIfPresent _ _).apart i)

/-- A settled station, if its lists are empty and no jam or drain stands, is lawful in a free state. -/
theorem lawful_settle {s : State} {i : StationId} {dest : StationState} {j : Job}
    (hj : (s.station i).job = some j) (hd : dest.isFree = true) (h : (s.station i).Clear)
    (hp : (s.station i).path = []) : ((s.settle i dest).station i).lawful := by
  have hne : dest ≠ .held := by rintro rfl; cases hd
  obtain ⟨-, -, b, e⟩ := settle_facts s i dest j hj hne
  rw [e]
  exact (lawful_vacant_iff (hasJob_of_isFree hd)).2 ⟨⟨rfl, hp, h.disputed, h.jamCause, h.jamTimer, h.drainTimer⟩, fun _ => rfl⟩

theorem apart_enterClosing (s : State) (i : StationId) : LegalApart i s (s.enterClosing i) := by
  have h1 : LegalApart i s ((s.enter i .closing).modifyJob i fun j => { j with idleTimer := none }) :=
    (apart_modifyStation s i _).trans (apart_modifyStation _ i _)
  unfold State.enterClosing
  dsimp only
  split
  · exact h1.trans (apart_settle _ i _)
  · exact h1.trans (apart_modifyStation _ i _)

/-- Entry to CLOSING of a station that is clear, its job with an end cause. -/
theorem lawful_enterClosing {s : State} {i : StationId} {j : Job} (hj : (s.station i).job = some j)
    (he : j.endRequest.isSome) (h : (s.station i).Clear) : ((s.enterClosing i).station i).lawful := by
  have e1 : ((s.enter i .closing).modifyJob i fun j => { j with idleTimer := none }).station i =
      { s.station i with state := .closing, job := some { j with idleTimer := none } } := by
    rw [State.station_modifyJob_self, State.station_enter_self, hj]
    rfl
  unfold State.enterClosing
  dsimp only
  generalize (s.enter i .closing).modifyJob i (fun j => { j with idleTimer := none }) = u at e1 ⊢
  have hu : (u.station i).Clear := by
    rw [e1]
    exact ⟨h.room, h.tracked, h.disputed, h.jamCause, h.jamTimer, h.drainTimer⟩
  split
  · next hp => exact lawful_settle (by rw [e1]) rfl hu (by simpa using hp)
  · next hp =>
    rw [State.station_modifyStation_self, e1]
    rw [e1] at hp
    exact (lawful_closing_iff rfl).2 ⟨⟨_, rfl, rfl, he⟩, by simpa using hp, h.room, h.tracked, h.disputed,
      h.jamCause, h.jamTimer, rfl⟩

theorem station_recordEnd {s : State} {i : StationId} {c : EndCause} {j : Job}
    (hj : (s.station i).job = some j) : (s.recordEnd i c).station i =
      { s.station i with job := some { j with endRequest := some (j.endRequest.getD c) } } := by
  unfold State.recordEnd
  rw [State.station_modifyJob_self, hj]
  rfl

theorem legal_requestEnd (s : State) (i : StationId) (c : EndCause) : Legal s (s.requestEnd i c) := by
  by_cases hs : (s.station i).state = .running ∨ (s.station i).state = .held
  · have e : s.requestEnd i c = (s.recordEnd i c).enterClosing i := by
      unfold State.requestEnd
      rcases hs with h | h <;> simp only [h]
    rw [e]
    refine ((apart_recordEnd s i c).trans (apart_enterClosing _ i)).legal fun hl => ?_
    obtain ⟨h, j, hj, -⟩ := (lawful_active_iff hs).1 hl
    refine lawful_enterClosing (s := s.recordEnd i c) (by rw [station_recordEnd hj]) rfl ?_
    rw [station_recordEnd hj]
    exact ⟨h.room, h.tracked, h.disputed, h.jamCause, h.jamTimer, h.drainTimer⟩
  · have e : s.requestEnd i c = s.recordEnd i c := by
      unfold State.requestEnd
      dsimp only
      split
      · next h => exact absurd (.inl h) hs
      · next h => exact absurd (.inr h) hs
      · rfl
    rw [e]
    refine (apart_recordEnd s i c).legal fun hl => ?_
    rcases lawful_shapes hl with ⟨hv, h⟩ | ⟨hr, -⟩ | ⟨hc, h⟩ | ⟨hj', h⟩
    · have : (s.recordEnd i c).station i = s.station i := by
        unfold State.recordEnd
        rw [State.station_modifyJob_self, h.job]
        show ({ s.station i with job := none } : Station) = _
        rw [← h.job]
      rw [this]
      exact hl
    · exact absurd hr hs
    · obtain ⟨⟨j, hj, hi, he⟩, h1, h2, h3, h4, h5, h6, h7⟩ := h
      rw [station_recordEnd hj]
      exact (lawful_closing_iff (by exact hc)).2 ⟨⟨_, rfl, hi, rfl⟩, h1, h2, h3, h4, h5, h6, h7⟩
    · obtain ⟨⟨j, hj, hi⟩, h1, h2, h3, h4, h5⟩ := h
      rw [station_recordEnd hj]
      exact (lawful_jammed_iff (by exact hj')).2 ⟨⟨_, rfl, hi⟩, h1, h2, h3, h4, h5⟩

/-! ### Jams -/

/-- A jam entry from RUNNING, HELD or CLOSING (R119, R123). -/
theorem legal_jamEntry {s : State} {i : StationId} (c : JamCause)
    (hs : (s.station i).state = .running ∨ (s.station i).state = .held ∨ (s.station i).state = .closing) :
    Legal s (s.jamEntry i c) := by
  have hap : LegalApart i s (s.jamEntry i c) := by
    unfold State.jamEntry
    exact (apart_modifyStation s i _).trans ((apart_modifyStation _ i _).trans ((legal_placeDisplay _ i _).apart i))
  refine hap.legal fun hl => ?_
  have hg : (∃ j, (s.station i).job = some j) ∧ (s.station i).disputed = [] ∧
      (s.station i).path.length ≤ Config.maxSheetsInPath := by
    rcases or_assoc.2 hs with h | h
    · obtain ⟨g, j, hj, -⟩ := (lawful_active_iff h).1 hl
      exact ⟨⟨j, hj⟩, g.disputed, g.room⟩
    · obtain ⟨⟨j, hj, -⟩, -, g2, -, g4, -⟩ := (lawful_closing_iff h).1 hl
      exact ⟨⟨j, hj⟩, g4, g2⟩
  obtain ⟨⟨j, hj⟩, hd, hr⟩ := hg
  obtain ⟨-, -, -, e, -⟩ := jamEntry_facts s i c j hj
  rw [e]
  exact (lawful_jammed_iff rfl).2 ⟨⟨_, rfl, rfl⟩, rfl, by rw [hd]; exact hr, rfl, rfl, rfl⟩

theorem apart_voidSheet (i : StationId) (s : State) (x : Sheet) : LegalApart i s (State.voidSheet i s x) := by
  cases hj : (s.station i).job with
  | none =>
    have e : State.voidSheet i s x = s := by unfold State.voidSheet; rw [hj]
    rw [e]; exact .refl i s
  | some j =>
    rw [voidSheet_eq hj]
    exact apart_modifyStation (s.modifyAccount j.billing _) i _

theorem apart_voidSheets (i : StationId) (xs : List Sheet) (s : State) :
    LegalApart i s (xs.foldl (State.voidSheet i) s) := by
  induction xs generalizing s with
  | nil => exact .refl i s
  | cons x xs ih => exact (apart_voidSheet i s x).trans (ih _)

theorem apart_voidDisputed (s : State) (i : StationId) : LegalApart i s (s.voidDisputed i) :=
  (apart_voidSheets i _ s).trans (apart_modifyStation _ i _)

theorem apart_voidPath (s : State) (i : StationId) : LegalApart i s (s.voidPath i) :=
  (apart_voidSheets i _ s).trans (apart_modifyStation _ i _)

/-- The station after its disputed list is voided (R130). -/
theorem station_voidDisputed {s : State} {i : StationId} {j : Job} (hj : (s.station i).job = some j) :
    ∃ k, (s.voidDisputed i).station i = { s.station i with job := some k, disputed := [] } ∧
      k.idleTimer = j.idleTimer ∧ k.endRequest = j.endRequest := by
  obtain ⟨v, w, e, -⟩ := voidSheets_facts i (s.station i).disputed s j hj
  unfold State.voidDisputed
  rw [State.station_modifyStation_self, e]
  exact ⟨_, rfl, rfl, rfl⟩

/-- The station after its path is voided (R136). -/
theorem station_voidPath {s : State} {i : StationId} {j : Job} (hj : (s.station i).job = some j) :
    ∃ k, (s.voidPath i).station i = { s.station i with job := some k, path := [] } ∧
      k.idleTimer = j.idleTimer ∧ k.endRequest = j.endRequest := by
  obtain ⟨v, w, e, -⟩ := voidSheets_facts i (s.station i).path s j hj
  unfold State.voidPath
  rw [State.station_modifyStation_self, e]
  exact ⟨_, rfl, rfl, rfl⟩

/-- The station after a cover test whose outcome sends it to RUNNING or HELD. -/
theorem station_coverMove (s : State) (i : StationId) {j : Job} (hj : (s.station i).job = some j) :
    ∃ x c, (x = .running ∨ x = .held) ∧
      (if (s.coverTest i).2 then (s.coverTest i).1.enterRunning i else (s.coverTest i).1.enterHeld i).station i =
        { s.station i with state := x, job := some { j with hold := j.hold + c } } := by
  obtain ⟨c, e⟩ := station_coverTest s i
  rw [hj] at e
  split
  · refine ⟨.running, c, .inl rfl, ?_⟩
    unfold State.enterRunning State.placeCharge
    rw [State.station_placeDisplay, State.station_enter_self, e]
    rfl
  · refine ⟨.held, c, .inr rfl, ?_⟩
    unfold State.enterHeld State.placeStopped
    rw [State.station_placeDisplay, State.station_enter_self, e]
    rfl

theorem apart_resumeAfterJam (s : State) (i : StationId) : LegalApart i s (s.resumeAfterJam i) := by
  have h1 := (legal_coverTest s i).apart i
  unfold State.resumeAfterJam
  dsimp only
  refine LegalApart.trans ?_ ((legal_restartIdle _ i).apart i)
  split
  · exact h1.trans ((apart_modifyStation _ i _).trans ((legal_placeDisplay _ i _).apart i))
  · exact h1.trans ((apart_modifyStation _ i _).trans ((legal_placeDisplay _ i _).apart i))

/-- The resumption of a clear station (R130 step 5). -/
theorem lawful_resumeAfterJam {s : State} {i : StationId} {j : Job} (hj : (s.station i).job = some j)
    (h : (s.station i).Clear) : ((s.resumeAfterJam i).station i).lawful := by
  unfold State.resumeAfterJam
  dsimp only
  obtain ⟨x, c, hx, e⟩ := station_coverMove s i hj
  generalize (if (s.coverTest i).2 then (s.coverTest i).1.enterRunning i
    else (s.coverTest i).1.enterHeld i) = u at e ⊢
  have hu : (u.station i).state = .running ∨ (u.station i).state = .held := by rw [e]; exact hx
  rcases restartIdle_cases u i with ⟨_, g⟩ | ⟨h1, h2, _⟩
  · rw [g, State.station_modifyJob_self, e]
    exact (lawful_active_iff hx).2
      ⟨⟨h.room, h.tracked, h.disputed, h.jamCause, h.jamTimer, h.drainTimer⟩, _, rfl, rfl⟩
  · exact absurd hu (by simp [h1, h2])

/-- A jammed station whose disputed list is voided and whose jam is ended: clear, its path empty. -/
theorem voidedJam {s : State} {i : StationId} (h : (s.station i).Jammed) :
    LegalApart i s ((s.voidDisputed i).modifyStation i fun st => { st with jamTimer := none, jamCause := none }) ∧
      ∃ k, (((s.voidDisputed i).modifyStation i
          fun st => { st with jamTimer := none, jamCause := none }).station i).job = some k ∧
        k.endRequest = ((s.station i).job.bind Job.endRequest) ∧
        (((s.voidDisputed i).modifyStation i
          fun st => { st with jamTimer := none, jamCause := none }).station i).Clear ∧
        (((s.voidDisputed i).modifyStation i
          fun st => { st with jamTimer := none, jamCause := none }).station i).path = [] := by
  obtain ⟨⟨j, hj, -⟩, hp, -, -, -, hdr⟩ := h
  obtain ⟨k, e, -, hk⟩ := station_voidDisputed hj
  refine ⟨(apart_voidDisputed s i).trans (apart_modifyStation _ i _), k, ?_⟩
  rw [State.station_modifyStation_self, e]
  refine ⟨rfl, by rw [hj]; exact hk, ⟨?_, fun _ => hp, rfl, rfl, rfl, hdr⟩, hp⟩
  show (s.station i).path.length ≤ _
  rw [hp]
  exact Nat.zero_le _

theorem legal_jamClear {s : State} {i : StationId} (hs : (s.station i).state = .jammed) :
    Legal s (s.jamClear i) := by
  unfold State.jamClear
  extract_lets n s1 s2
  have h1 : LegalApart i s s2 := (apart_voidDisputed s i).trans
    ((apart_modifyStation _ i _).trans ((legal_placeDisplay _ i _).apart i))
  have h2 : (s.station i).lawful → ∃ j, (s2.station i).job = some j ∧ (s2.station i).Clear := fun hl => by
    obtain ⟨-, j, hj, -, hc, -⟩ := voidedJam ((lawful_jammed_iff hs).1 hl)
    exact ⟨j, hj, hc⟩
  split
  · refine (h1.trans (apart_resumeAfterJam s2 i)).legal fun hl => ?_
    obtain ⟨j, hj, hc⟩ := h2 hl
    exact lawful_resumeAfterJam hj hc
  · next he =>
    refine (h1.trans (apart_enterClosing s2 i)).legal fun hl => ?_
    obtain ⟨j, hj, hc⟩ := h2 hl
    rw [hj] at he
    exact lawful_enterClosing hj (Option.isSome_iff_ne_none.2 he) hc

theorem legal_jamTimedOut {s : State} {i : StationId} (hs : (s.station i).state = .jammed) :
    Legal s (s.jamTimedOut i) := by
  unfold State.jamTimedOut
  extract_lets s1 s2 s3
  have h1 : LegalApart i s s1 := (apart_voidDisputed s i).trans (apart_modifyStation _ i _)
  have h2 : LegalApart i s s2 := h1.trans ((apart_recordEnd s1 i _).trans (apart_settle _ i _))
  have h3 : Legal s2 (s3.placeDisplay i .outOfService) :=
    (legal_modifyAlarms s2 i _).trans (legal_placeDisplay _ i _)
  refine (h2.trans (h3.apart i)).legal fun hl => h3 i ?_
  obtain ⟨-, j, hj, -, hc, hp⟩ := voidedJam ((lawful_jammed_iff hs).1 hl)
  have e := station_recordEnd (s := s1) (c := .jamTimeout) hj
  refine lawful_settle (by rw [e]) rfl ?_ ?_
  · rw [e]
    exact ⟨hc.room, hc.tracked, hc.disputed, hc.jamCause, hc.jamTimer, hc.drainTimer⟩
  · rw [e]
    exact hp

theorem legal_resetJob {s : State} {i : StationId} (hs : (s.station i).state.hasJob = true) :
    Legal s (s.resetJob i) := by
  unfold State.resetJob
  extract_lets s1
  have h1 : LegalApart i s ((s1.voidDisputed i).voidPath i) :=
    (apart_modifyStation s i _).trans ((apart_voidDisputed s1 i).trans (apart_voidPath _ i))
  refine (h1.trans ((apart_recordEnd _ i _).trans (apart_settle _ i _))).legal fun hl => ?_
  obtain ⟨j, hj⟩ : ∃ j, (s.station i).job = some j :=
    Option.isSome_iff_exists.1 (by rw [hl.1]; exact hs)
  have e1 : s1.station i =
      { s.station i with drainTimer := none, jamTimer := none, jamCause := none } :=
    State.station_modifyStation_self _ _ _
  obtain ⟨k, e2, -⟩ := station_voidDisputed (s := s1) (i := i) (j := j) (by rw [e1]; exact hj)
  obtain ⟨m, e3, -⟩ := station_voidPath (s := s1.voidDisputed i) (i := i) (j := k) (by rw [e2])
  have e4 := station_recordEnd (s := (s1.voidDisputed i).voidPath i) (i := i) (c := .stationReset) (j := m)
    (by rw [e3])
  refine lawful_settle (by rw [e4]) rfl ?_ ?_
  · rw [e4, e3, e2, e1]
    exact ⟨Nat.zero_le _, fun _ => rfl, rfl, rfl, rfl, rfl⟩
  · rw [e4, e3]

end Sys2Proof.Machine
end

section
/-! SUPPORT. Lawful stations under feeds, exits, lines, walk-ups, reader events, commands and time; and
with them the books of the part (O7). -/

namespace Sys2Proof.Machine

/-! ### Feeds and exits -/

theorem legal_startPermitDelay (s : State) (i : StationId) : Legal s (s.startPermitDelay i) := by
  unfold State.startPermitDelay
  split
  · exact .refl s
  · exact legal_alike (.of_fields rfl rfl rfl rfl rfl rfl rfl rfl rfl)

theorem legal_unauthorisedFeed (s : State) (i : StationId) : Legal s (s.unauthorisedFeed i) :=
  legal_alike (.of_fields rfl rfl rfl rfl rfl rfl rfl rfl rfl)

theorem legal_unpricedFeed (s : State) (i : StationId) : Legal s (s.unpricedFeed i) :=
  legal_modifyJob s i (by intro; rfl)

theorem legal_strayExitOfStation (s : State) (i : StationId) : Legal s (s.strayExitOfStation i) :=
  legal_alike (.of_fields rfl rfl rfl rfl rfl rfl rfl rfl rfl)

theorem legal_strayExitOfJob (s : State) (i : StationId) : Legal s (s.strayExitOfJob i) :=
  (legal_modifyJob s i (by intro; rfl)).trans (legal_modifyAlarms _ i _)

/-- The states with an open job and no jam. -/
def StationState.takesSheets (x : StationState) : Prop := x = .running ∨ x = .held ∨ x = .closing

theorem legal_pathOverflow {s : State} {i : StationId} (hs : (s.station i).state.takesSheets) :
    Legal s (s.pathOverflow i) := by
  unfold State.pathOverflow
  refine ((legal_unpricedFeed s i).trans (legal_modifyAlarms _ i _)).trans (legal_jamEntry _ ?_)
  simpa [State.modifyAlarms, State.unpricedFeed, StationState.takesSheets] using hs

/-- A sheet more in path, below the bound (R118). -/
theorem Station.lawful.pathPush {st : Station} (h : st.lawful) (hs : st.state.takesSheets)
    (hm : st.config.countMode = .tracked) (hf : st.pathIsFull = false) (x : Sheet) :
    ({ st with path := st.path ++ [x] } : Station).lawful := by
  have hroom : st.path.length + st.disputed.length < Config.maxSheetsInPath := by
    simpa [Station.pathIsFull, hm] using hf
  have hlen : (st.path ++ [x]).length ≤ Config.maxSheetsInPath := by
    rw [List.length_append]
    exact (Nat.add_le_add_right (Nat.le_add_right _ _) 1).trans hroom
  rcases or_assoc.2 hs with hs | hs
  · obtain ⟨g, hj⟩ := (lawful_active_iff hs).1 h
    exact (lawful_active_iff (by exact hs)).2
      ⟨⟨hlen, fun e => absurd hm e, g.disputed, g.jamCause, g.jamTimer, g.drainTimer⟩, hj⟩
  · obtain ⟨hj, g1, g2, g3, g4, g5, g6, g7⟩ := (lawful_closing_iff hs).1 h
    exact (lawful_closing_iff (by exact hs)).2
      ⟨hj, by simp, hlen, fun e => absurd hm e, g4, g5, g6, g7⟩

theorem legal_queueOrBill {s : State} {i : StationId} {x : Sheet} (hs : (s.station i).state.takesSheets)
    (hf : (s.station i).pathIsFull = false) : Legal s (s.queueOrBill i x) := by
  rcases queueOrBill_cases s i x with ⟨hm, e⟩ | ⟨_, e⟩ <;> rw [e]
  · exact legal_modifyStation fun hl => hl.pathPush hs hm hf x
  · exact legal_billSheet s i x

theorem legal_pricingRequest {s : State} {i : StationId} (hs : (s.station i).state.takesSheets)
    (hf : (s.station i).pathIsFull = false) : Legal s (s.pricingRequest i) := by
  unfold State.pricingRequest
  split
  · exact .refl s
  · next j hj =>
    refine (legal_priceSheet _ hj).trans (Legal.trans (legal_queueOrBill ?_ ?_)
      ((legal_restartIdle _ i).trans (legal_coverAfterPricing _ i)))
    · rw [station_priceSheet _ _ _ _ hj]; exact hs
    · rw [station_priceSheet _ _ _ _ hj]; exact hf

theorem legal_feedWithJob {s : State} {i : StationId} (hs : (s.station i).state.takesSheets) :
    Legal s (s.feedWithJob i) := by
  unfold State.feedWithJob
  split
  · exact legal_pathOverflow hs
  · next h => exact legal_pricingRequest hs (by simpa using h)

theorem legal_completedFeed (s : State) (i : StationId) : Legal s (s.completedFeed i) := by
  have h1 := legal_startPermitDelay s i
  have hs := (station_startPermitDelay s i).1
  have hw : (s.station i).state.takesSheets → Legal (s.startPermitDelay i) ((s.startPermitDelay i).feedWithJob i) :=
    fun h => legal_feedWithJob (by rw [hs]; exact h)
  unfold State.completedFeed
  dsimp only
  split
  · exact h1.trans (legal_unauthorisedFeed _ i)
  · exact h1.trans (legal_unauthorisedFeed _ i)
  · exact h1.trans (legal_unauthorisedFeed _ i)
  · exact h1.trans (legal_unauthorisedFeed _ i)
  · next h => exact h1.trans (hw (.inl h))
  · next h => exact h1.trans (hw (.inr (.inl h)))
  · next h => exact h1.trans (hw (.inr (.inr h)))
  · exact h1.trans (legal_unpricedFeed _ i)

/-- A sheet less in path: lawful in RUNNING and HELD (R120). -/
theorem legal_exitFromPath_active {s : State} {i : StationId}
    (hs : (s.station i).state = .running ∨ (s.station i).state = .held) : Legal s (s.exitFromPath i) := by
  unfold State.exitFromPath
  split
  · exact legal_strayExitOfJob s i
  · next x rest hp =>
    refine (legal_modifyStation fun hl => ?_).trans (legal_billSheet _ i x)
    obtain ⟨g, hj⟩ := (lawful_active_iff hs).1 hl
    have hr := g.room
    rw [hp] at hr
    refine (lawful_active_iff (by exact hs)).2
      ⟨⟨(Nat.le_succ _).trans hr, fun e => ?_, g.disputed, g.jamCause, g.jamTimer, g.drainTimer⟩, hj⟩
    have := g.tracked e
    rw [hp] at this
    cases this

/-- The station after a sheet of the path is billed. -/
theorem station_exitFromPath {s : State} {i : StationId} {x : Sheet} {rest : List Sheet} {j : Job}
    (hp : (s.station i).path = x :: rest) (hj : (s.station i).job = some j) :
    ∃ k, (s.exitFromPath i).station i = { s.station i with path := rest, job := some k } ∧
      k.marks = j.marks := by
  have e : s.exitFromPath i = (s.modifyStation i fun st => { st with path := rest }).billSheet i x := by
    unfold State.exitFromPath
    rw [hp]
  obtain ⟨-, -, -, e4, -⟩ := billSheet_facts (s.modifyStation i fun st => { st with path := rest }) i x j
    (by rw [State.station_modifyStation_self]; exact hj)
  rw [e, e4, State.station_modifyStation_self]
  exact ⟨_, rfl, rfl⟩

theorem apart_exitFromPath (s : State) (i : StationId) : LegalApart i s (s.exitFromPath i) := by
  unfold State.exitFromPath
  split
  · exact (legal_strayExitOfJob s i).apart i
  · exact (apart_modifyStation s i _).trans ((legal_billSheet _ i _).apart i)

theorem legal_exitInClosing {s : State} {i : StationId} (hs : (s.station i).state = .closing) :
    Legal s (s.exitInClosing i) := by
  unfold State.exitInClosing
  dsimp only
  split
  · next hlen =>
    refine ((apart_exitFromPath s i).trans ((apart_modifyStation _ i _).trans (apart_settle _ i _))).legal
      fun hl => ?_
    obtain ⟨⟨j, hj, -⟩, -, -, -, g4, g5, g6, -⟩ := (lawful_closing_iff hs).1 hl
    obtain ⟨x, hx⟩ := List.length_eq_one_iff.1 hlen
    obtain ⟨k, e, -⟩ := station_exitFromPath hx hj
    refine lawful_settle (j := k) ?_ rfl ?_ ?_ <;> rw [State.station_modifyStation_self, e]
    exact ⟨Nat.zero_le _, fun _ => rfl, g4, g5, g6, rfl⟩
  · next hlen =>
    refine (apart_exitFromPath s i).legal fun hl => ?_
    obtain ⟨⟨j, hj, hi, he⟩, g1, g2, g3, g4, g5, g6, g7⟩ := (lawful_closing_iff hs).1 hl
    cases hp : (s.station i).path with
    | nil => exact absurd hp g1
    | cons x rest =>
      obtain ⟨k, e, hk⟩ := station_exitFromPath hp hj
      have hrest : rest ≠ [] := by
        rintro rfl
        rw [hp] at hlen
        exact hlen rfl
      rw [hp] at g2 g3
      rw [e]
      have hk1 : k.endRequest.isSome = j.endRequest.isSome := congrArg Prod.fst hk
      have hk2 : k.idleTimer.isSome = j.idleTimer.isSome := congrArg Prod.snd hk
      refine (lawful_closing_iff (by exact hs)).2 ⟨⟨k, rfl, ?_, by rw [hk1]; exact he⟩, hrest,
        (Nat.le_succ _).trans g2, fun h => absurd (g3 h) (by simp), g4, g5, g6, g7⟩
      rw [hi] at hk2
      simpa using hk2

theorem legal_exitFromDisputed {s : State} {i : StationId} (hs : (s.station i).state = .jammed) :
    Legal s (s.exitFromDisputed i) := by
  unfold State.exitFromDisputed
  split
  · exact legal_strayExitOfJob s i
  · next x rest hp =>
    refine (legal_modifyStation fun hl => ?_).trans (legal_billSheet _ i x)
    obtain ⟨hj, g1, g2, g3, g4, g5⟩ := (lawful_jammed_iff hs).1 hl
    rw [hp] at g2
    exact (lawful_jammed_iff (by exact hs)).2 ⟨hj, g1, (Nat.le_succ _).trans g2, g3, g4, g5⟩

theorem legal_completedExit (s : State) (i : StationId) : Legal s (s.completedExit i) := by
  unfold State.completedExit
  split
  · next h => exact (legal_exitFromPath_active (.inl h)).trans (legal_restartIdle _ i)
  · next h => exact (legal_exitFromPath_active (.inr h)).trans (legal_restartIdle _ i)
  · next h => exact legal_exitInClosing h
  · next h => exact legal_exitFromDisputed h
  all_goals exact legal_strayExitOfStation s i

/-! ### Lines -/

theorem legal_feedPulse (s : State) (i : StationId) : Legal s (s.feedPulse i) := by
  have h1 : Legal s (s.modifyStation i fun st =>
      { st with feedCounter := (countPulse (s.station i).feedCounter (s.station i).config.divisor).1 }) :=
    legal_alike (.of_fields rfl rfl rfl rfl rfl rfl rfl rfl rfl)
  unfold State.feedPulse
  dsimp only
  split
  · exact .refl s
  · split
    · exact h1.trans (legal_completedFeed _ i)
    · exact h1

theorem legal_exitPulse (s : State) (i : StationId) : Legal s (s.exitPulse i) := by
  have h1 : Legal s (s.modifyStation i fun st =>
      { st with exitCounter := (countPulse (s.station i).exitCounter (s.station i).config.divisor).1 }) :=
    legal_alike (.of_fields rfl rfl rfl rfl rfl rfl rfl rfl rfl)
  unfold State.exitPulse
  dsimp only
  split
  · exact .refl s
  · split
    · exact h1.trans (legal_completedExit _ i)
    · exact h1
  · split
    · exact h1.trans (legal_completedFeed _ i)
    · exact h1

theorem legal_jamActivation (s : State) (i : StationId) : Legal s (s.jamActivation i) := by
  unfold State.jamActivation
  split
  · next h => exact legal_jamEntry _ (.inl h)
  · next h => exact legal_jamEntry _ (.inr (.inl h))
  · next h => exact legal_jamEntry _ (.inr (.inr h))
  · exact .refl s

theorem legal_jamRelease (s : State) (i : StationId) : Legal s (s.jamRelease i) := by
  unfold State.jamRelease
  split
  · next h => exact legal_jamClear h.1
  · exact .refl s

theorem legal_lineEdge (s : State) (i : StationId) (l : FilteredLine) (a : Bool) : Legal s (s.lineEdge i l a) := by
  unfold State.lineEdge
  split
  · exact .refl s
  · split
    · exact legal_feedPulse s i
    · exact .refl s
  · split
    · exact legal_exitPulse s i
    · exact .refl s
  · split
    · exact legal_jamActivation s i
    · exact legal_jamRelease s i

theorem legal_filterExpiry (s : State) (i : StationId) (l : FilteredLine) : Legal s (s.filterExpiry i l) := by
  have h1 : Legal s (s.modifyStation i fun st => st.follow l) :=
    legal_alike (.of_fields rfl rfl rfl rfl rfl rfl rfl rfl rfl)
  unfold State.filterExpiry
  dsimp only
  split
  · exact .refl s
  · split
    · exact h1
    · exact h1.trans (legal_lineEdge _ i l _)

theorem legal_idleExpiry (s : State) (i : StationId) : Legal s (s.idleExpiry i) := by
  unfold State.idleExpiry
  split
  · exact .refl s
  · by_cases hs : (s.station i).state = .running ∨ (s.station i).state = .held
    · set u := s.modifyJob i fun j => { j with idleTimer := none } with hu
      have hus : (u.station i).state = .running ∨ (u.station i).state = .held := by
        rw [hu, State.station_modifyJob_self]; exact hs
      have e : u.requestEnd i .idleTimeout = (u.recordEnd i .idleTimeout).enterClosing i := by
        unfold State.requestEnd
        rcases hus with h | h <;> simp only [h]
      rw [e]
      refine ((apart_modifyStation s i _).trans ((apart_recordEnd u i _).trans
        (apart_enterClosing _ i))).legal fun hl => ?_
      obtain ⟨h, j, hj, -⟩ := (lawful_active_iff hs).1 hl
      have hui : u.station i = { s.station i with job := some { j with idleTimer := none } } := by
        rw [hu, State.station_modifyJob_self, hj]; rfl
      have hr := station_recordEnd (s := u) (i := i) (c := .idleTimeout)
        (j := { j with idleTimer := none }) (by rw [hui])
      refine lawful_enterClosing (s := u.recordEnd i .idleTimeout) (by rw [hr]) rfl ?_
      rw [hr, hui]
      exact ⟨h.room, h.tracked, h.disputed, h.jamCause, h.jamTimer, h.drainTimer⟩
    · refine Legal.trans (legal_modifyStation fun hl => ?_) (legal_requestEnd _ i _)
      have hn : ∀ j, (s.station i).job = some j → j.idleTimer = none := fun j hj => by
        obtain ⟨-, -, -, -, -, -, -, -, -, -, h, -⟩ := hl
        have := h j hj
        have hb : ((s.station i).state == .running || (s.station i).state == .held) = false := by
          simpa using hs
        rw [hb] at this
        simpa using this
      have e : ((s.station i).job.map fun j => { j with idleTimer := none }) = (s.station i).job := by
        cases hj : (s.station i).job with
        | none => rfl
        | some j =>
          have := hn j hj
          simp only [Option.map_some, ← this]
      rw [e]
      exact hl

/-! ### Jobs opened, walk-ups -/

/-- A job opened at a station that is vacant. -/
theorem legal_openAt {s : State} {i : StationId} (hs : (s.station i).state.hasJob = false) (u : Account)
    (y : OpenedBy) : Legal s (s.openAt i u y) := by
  have hap : LegalApart i s (s.openAt i u y) := fun k hk hl => by
    rw [station_openAt, if_neg hk]; exact hl
  refine hap.legal fun hl => ?_
  obtain ⟨g, -⟩ := (lawful_vacant_iff hs).1 hl
  rw [station_openAt, if_pos rfl]
  refine (lawful_active_iff (.inl rfl)).2 ⟨⟨?_, fun _ => g.path, g.disputed, g.jamCause, g.jamTimer,
    g.drainTimer⟩, _, rfl, rfl⟩
  show (s.station i).path.length ≤ _
  rw [g.path]
  exact Nat.zero_le _

/-- A vacant station in another state without a job. -/
theorem legal_vacant {s : State} {i : StationId} {f : Station → Station}
    (hs : (s.station i).state.hasJob = false) (hx : (f (s.station i)).state.hasJob = false)
    (hv : (s.station i).Vacant → (f (s.station i)).Vacant)
    (ht : (f (s.station i)).state.isFree → ((s.station i).state.isFree → (s.station i).sessionToken = none) →
      (f (s.station i)).sessionToken = none) : Legal s (s.modifyStation i f) :=
  legal_modifyStation fun hl => by
    obtain ⟨g, h⟩ := (lawful_vacant_iff hs).1 hl
    exact (lawful_vacant_iff hx).2 ⟨hv g, fun e => ht e h⟩

theorem Station.Vacant.of_fields {a b : Station} (h : a.Vacant) (hj : b.job = a.job) (hp : b.path = a.path)
    (hd : b.disputed = a.disputed) (h1 : b.jamCause = a.jamCause) (h2 : b.jamTimer = a.jamTimer)
    (h3 : b.drainTimer = a.drainTimer) : b.Vacant :=
  ⟨hj.trans h.job, hp.trans h.path, hd.trans h.disputed, h1.trans h.jamCause, h2.trans h.jamTimer,
    h3.trans h.drainTimer⟩

theorem legal_enter_free {s : State} {i : StationId} (hs : (s.station i).state.isFree = true)
    {x : StationState} (hx : x.isFree = true) : Legal s (s.enter i x) :=
  legal_vacant (hasJob_of_isFree hs) (hasJob_of_isFree hx) (fun h => h.of_fields rfl rfl rfl rfl rfl rfl) fun _ h => h hs

theorem legal_startWalkup {s : State} {i : StationId} (x : Token) (hs : (s.station i).state = .idle) :
    Legal s (s.startWalkup i x) := by
  have h1 : Legal ((s.addAccount (s.newTransient i)).bindToken x (s.newTransient i).number) (s.startWalkup i x) := by
    have hst : (((s.addAccount (s.newTransient i)).bindToken x (s.newTransient i).number).station i).state.hasJob =
        false := by
      show (s.station i).state.hasJob = false
      rw [hs]
      rfl
    exact legal_vacant (i := i) (f := fun st => { st with state := .opening, sessionToken := some x }) hst rfl
      (fun h => h.of_fields rfl rfl rfl rfl rfl rfl) fun e => by cases e
  exact (legal_of_stations (s := s) rfl).trans h1

theorem legal_endWalkup {s : State} {i : StationId} (a : Account) (d : Display)
    (hs : (s.station i).state = .opening) : Legal s (s.endWalkup a i d) := by
  obtain ⟨-, f2, -, -, f5, -⟩ := endWalkup_facts s a i d
  refine (LegalApart.of_keeps f2).legal fun hl => ?_
  obtain ⟨g, -⟩ := (lawful_vacant_iff (by rw [hs]; rfl)).1 hl
  rw [f5]
  exact (lawful_vacant_iff rfl).2 ⟨g.of_fields rfl rfl rfl rfl rfl rfl, fun _ => rfl⟩

theorem legal_cancelWalkup {s : State} {i : StationId} (hs : (s.station i).state = .opening) :
    Legal s (s.cancelWalkup i) := by
  unfold State.cancelWalkup
  split
  · exact .refl s
  · exact legal_endWalkup _ _ hs

/-- The station of a PENDING record is OPENING (R79). -/
theorem opening_of_pending {s : State} (h : WalkupsLaw s) {a : Account} {w : Walkup} (ha : a ∈ s.accounts)
    (hp : a.isPending) (hw : a.walkup = some w) : (s.station w.station).state = .opening := by
  obtain ⟨v, hv, ho, -⟩ := h.1 a ha hp
  rw [hw] at hv
  rw [Option.some.inj hv]
  exact ho

theorem legal_authExpiry {s : State} (h : WalkupsLaw s) (n : Nat) : Legal s (s.authExpiry n) := by
  unfold State.authExpiry
  split
  · exact .refl s
  · next a ha =>
    split
    · next w hp hw =>
      split
      · exact .refl s
      · exact legal_endWalkup _ _ (opening_of_pending h (State.account_mem s ha) hp hw)
    · exact .refl s

/-! ### Reader events -/

theorem legal_modifyReader (s : State) (i : StationId) (f : Reader → Reader) : Legal s (s.modifyReader i f) :=
  fun _ hl => hl

theorem legal_retries (s : State) (l : List Nat) : Legal s { s with retryOwed := l } := fun _ hl => hl

theorem legal_modifyAccount (s : State) (n : Nat) (f : Account → Account) : Legal s (s.modifyAccount n f) :=
  fun _ hl => hl

theorem legal_cardOpens (s : State) (i : StationId) (k : Token) (u : Account) : Legal s (s.cardOpens i k u) := by
  unfold State.cardOpens
  split
  · exact legal_placeDisplay s i _
  · next h =>
    obtain ⟨hs, -⟩ := openingCheck_none h
    refine (legal_openAt (by rw [hs]; rfl) u .reader).trans (legal_alike ⟨rfl, rfl, rfl, rfl, rfl, rfl, rfl, rfl, ?_⟩)
    rw [station_openAt, if_pos rfl]
    exact fun e => by cases e

theorem legal_cardAtIdle {s : State} {i : StationId} (k : Token) (kind : CardKind)
    (hs : (s.station i).state = .idle) : Legal s (s.cardAtIdle i k kind) := by
  unfold State.cardAtIdle
  split
  · unfold State.unknownCard
    split
    · unfold State.requestWalkup
      split
      · exact legal_startWalkup k hs
      · exact legal_placeDisplay s i _
    · exact legal_placeDisplay s i _
  · split
    · exact legal_placeDisplay s i _
    · unfold State.knownCard
      split
      · exact legal_placeDisplay s i _
      · exact legal_cardOpens s i k _

theorem legal_ownCardRunning (s : State) (i : StationId) (k : Token) : Legal s (s.ownCardRunning i k) := by
  unfold State.ownCardRunning
  split
  · exact .refl s
  · split
    · exact legal_requestEnd s i _
    · exact legal_placeDisplay s i _

theorem legal_cardInSession (s : State) (i : StationId) (k : Token) : Legal s (s.cardInSession i k) := by
  unfold State.cardInSession
  split
  · unfold State.ownCard
    split
    · exact legal_placeDisplay s i _
    · exact legal_ownCardRunning s i k
    · exact legal_ownCardRunning s i k
    · exact legal_placeDisplay s i _
    · exact .refl s
  · exact legal_placeDisplay s i _

theorem legal_cardEvent (s : State) (i : StationId) (k : Token) (kind : CardKind) (x : SessionStyle) :
    Legal s (s.cardEvent i k kind x) := by
  unfold State.cardEvent
  dsimp only
  split_ifs with _ _ hs
  · exact legal_placeDisplay s i _
  · exact legal_placeDisplay s i _
  · exact legal_cardAtIdle k kind hs
  · exact legal_cardInSession s i k

theorem legal_sessionCardOut (s : State) (i : StationId) : Legal s (s.sessionCardOut i) := by
  unfold State.sessionCardOut
  split
  · exact legal_requestEnd s i _
  · exact .refl s

theorem legal_cardOutEvent (s : State) (i : StationId) : Legal s (s.cardOutEvent i) := by
  unfold State.cardOutEvent
  split
  · exact .refl s
  · split
    · next h => exact legal_cancelWalkup h
    · exact legal_sessionCardOut s i
    · exact legal_sessionCardOut s i
    · exact legal_sessionCardOut s i
    · exact .refl s

theorem legal_keyEvent (s : State) (i : StationId) (k : Key) : Legal s (s.keyEvent i k) := by
  unfold State.keyEvent
  split
  · next h => exact legal_cancelWalkup h
  · exact legal_requestEnd s i _
  · exact legal_requestEnd s i _
  · exact legal_requestEnd s i _
  · exact .refl s

theorem legal_readerEvent (s : State) (i : StationId) (e : ReaderEvent) : Legal s (s.readerEvent i e) := by
  have h1 := legal_restartIdle s i
  unfold State.readerEvent
  dsimp only
  split
  · exact .refl s
  · cases e with
    | card k kind x => exact h1.trans (legal_cardEvent _ i k kind x)
    | cardOut => exact h1.trans (legal_cardOutEvent _ i)
    | key k => exact h1.trans (legal_keyEvent _ i k)

theorem legal_answerTaken (s : State) (frame : List Byte) : Legal s (s.answerTaken frame) := by
  unfold State.answerTaken
  split
  · next r _ _ =>
    have h1 : Legal s (s.takeAnswer r frame) := by
      unfold State.takeAnswer
      dsimp only
      split
      · exact (legal_modifyReader s r _).trans (legal_readerEvent _ r _)
      · exact legal_modifyReader s r _
    exact fun k hl => h1 k hl
  · exact .refl s

/-! ### Host commands -/

theorem legal_hostCommand {s t : State} {c : Instr} {body : State → State × Response}
    (e : s.hostCommand c body = .next t) (h : Legal s (body s).1) : Legal s t := by
  rcases hostCommand_cases s c body with ⟨_, g⟩ | ⟨_, _, g⟩ | ⟨_, g⟩ <;> rw [g] at e <;> cases e
  · exact .refl s
  · exact (legal_of_stations (s := s) rfl).trans (legal_drive _)
  · exact h.trans ((legal_of_stations rfl).trans (legal_drive _))

theorem legal_event {s t u : State} (e : s.event u = .next t) (h : Legal s u) : Legal s t := by
  unfold State.event at e
  split at e <;> cases e
  · exact .refl s
  · exact h.trans (legal_drive u)

theorem legal_withStation {s : State} {n : Nat} {body : StationId → State → State × Response}
    (h : ∀ i, Legal s (body i s).1) : Legal s (withStation n body s).1 := by
  unfold withStation
  split
  · exact .refl s
  · exact h _

theorem legal_withAccount {s : State} {n : Nat} {body : Account → State → State × Response}
    (h : ∀ a, Legal s (body a s).1) : Legal s (withAccount n body s).1 := by
  unfold withAccount
  split
  · exact .refl s
  · exact h _

theorem legal_loadAccount (f : LoadForm) (s : State) : Legal s (loadAccountWork f s).1 := by
  unfold loadAccountWork
  split
  · exact .refl s
  · split_ifs
    · exact .refl s
    · exact .refl s
    · split
      · exact legal_of_stations rfl
      · split
        · exact .refl s
        · exact legal_of_stations rfl

theorem legal_updateAccount (f : UpdateForm) (s : State) : Legal s (updateAccountWork f s).1 := by
  refine legal_withAccount fun a => ?_
  split_ifs
  · exact .refl s
  · exact .refl s
  · exact .refl s
  · split
    · exact .refl s
    · refine legal_of_stations ?_
      show (s.updateAccount f a).stations = s.stations
      unfold State.updateAccount State.movePayer State.addMember State.dropMember
      dsimp only
      (repeat' split) <;> rfl

theorem legal_credit (n : Nat) (x : Int) (s : State) : Legal s (creditWork n x s).1 := by
  unfold creditWork
  split
  · exact .refl s
  · refine legal_withAccount fun a => ?_
    split_ifs
    · exact .refl s
    · exact .refl s
    · exact legal_of_stations rfl

theorem legal_debit (n : Nat) (x : Int) (s : State) : Legal s (debitWork n x s).1 := by
  unfold debitWork
  split
  · exact .refl s
  · refine legal_withAccount fun a => ?_
    split_ifs
    · exact .refl s
    · exact .refl s
    · exact legal_of_stations rfl

theorem legal_blockAt (n : Nat) (s : State) (i : StationId) : Legal s (State.blockAt n s i) := by
  unfold State.blockAt
  split
  · exact legal_requestEnd s i _
  · exact .refl s

theorem legal_blockJobs (s : State) (n : Nat) : Legal s (s.blockJobs n) :=
  .foldl _ (legal_blockAt n) allStations s

theorem legal_block (n : Nat) (s : State) : Legal s (blockWork n s).1 := by
  refine legal_withAccount fun a => ?_
  split_ifs
  · exact .refl s
  · dsimp only
    exact legal_blockJobs s n
  · dsimp only
    exact (legal_modifyAccount s n _).trans (legal_blockJobs _ n)

theorem legal_unblock (n : Nat) (s : State) : Legal s (unblockWork n s).1 := by
  refine legal_withAccount fun a => ?_
  split_ifs
  · exact .refl s
  · exact legal_of_stations rfl

theorem legal_removeAccount (s : State) (n : Nat) : Legal s (s.removeAccount n) :=
  .of_undriven fun k => by rw [(onlyAccounts_removeAccount s n).station]

theorem legal_retireAccount (n : Nat) (s : State) : Legal s (retireAccountWork n s).1 := by
  refine legal_withAccount fun a => ?_
  split_ifs
  · exact legal_removeAccount s n
  · exact .refl s
  · exact .refl s
  · exact legal_modifyAccount s n _
  · exact legal_removeAccount s n

theorem legal_closePeriod (n : Nat) (s : State) : Legal s (closePeriodWork n s).1 := by
  unfold closePeriodWork
  split
  · exact legal_of_stations rfl
  · exact legal_withAccount fun _ => legal_of_stations rfl

theorem legal_bindToken (k : Token) (n : Nat) (s : State) : Legal s (bindTokenWork k n s).1 := by
  unfold bindTokenWork
  split
  · exact .refl s
  · refine legal_withAccount fun a => ?_
    split_ifs
    · exact .refl s
    · exact .refl s
    · exact .refl s
    · exact legal_of_stations rfl

theorem legal_unbindToken (k : Token) (s : State) : Legal s (unbindTokenWork k s).1 := by
  unfold unbindTokenWork
  split
  · exact .refl s
  · split
    · exact .refl s
    · split
      · exact .refl s
      · exact legal_of_stations rfl

theorem legal_writeTariff (l : Nat) (f : TariffForm) (s : State) : Legal s (writeTariffWork l f s).1 := by
  unfold writeTariffWork
  split
  · exact .refl s
  · split
    · exact legal_of_stations rfl
    · exact .refl s

theorem legal_writeSchedule (n : Nat) (f : ScheduleForm) (s : State) : Legal s (writeScheduleWork n f s).1 := by
  unfold writeScheduleWork
  split
  · exact .refl s
  · split
    · exact legal_of_stations rfl
    · exact .refl s

theorem legal_setGlobals (f : Option GlobalsForm) (s : State) : Legal s (setGlobalsWork f s).1 := by
  unfold setGlobalsWork
  split
  · exact .refl s
  · split
    · exact .refl s
    · exact legal_of_stations rfl

theorem legal_configureStation (n : Nat) (f : ConfigForm) (s : State) :
    Legal s (configureStationWork n f s).1 := by
  refine legal_withStation fun i => ?_
  split
  · exact .refl s
  · split_ifs with _ hs
    · exact .refl s
    · have hj : (s.station i).state.hasJob = false := by rcases hs with h | h <;> rw [h] <;> rfl
      have hf : (s.station i).state.isFree = true := by rcases hs with h | h <;> rw [h] <;> rfl
      exact legal_vacant hj hj (fun h => h.of_fields rfl rfl rfl rfl rfl rfl) fun _ h => h hf
    · exact .refl s

theorem legal_enableStation (n : Nat) (s : State) : Legal s (enableStationWork n s).1 := by
  refine legal_withStation fun i => ?_
  split
  · next h => exact legal_enter_free (by rw [h]; rfl) rfl
  · exact .refl s
  · exact .refl s

theorem legal_disableStation (n : Nat) (s : State) : Legal s (disableStationWork n s).1 := by
  refine legal_withStation fun i => ?_
  split
  · next h => exact legal_enter_free (by rw [h]; rfl) rfl
  · next h => exact legal_enter_free (by rw [h]; rfl) rfl
  · exact .refl s
  · exact .refl s

theorem legal_setStationTariff (n l : Nat) (s : State) : Legal s (setStationTariffWork n l s).1 := by
  refine legal_withStation fun i => ?_
  split
  · exact .refl s
  · exact legal_alike (.of_fields rfl rfl rfl rfl rfl rfl rfl rfl rfl)

theorem legal_alarms (n : Nat) (s : State) : Legal s (alarmsWork n s).1 :=
  legal_withStation fun _ => legal_alike (.of_fields rfl rfl rfl rfl rfl rfl rfl rfl rfl)

theorem legal_openJob (k n : Nat) (s : State) : Legal s (openJobWork k n s).1 := by
  refine legal_withStation fun i => legal_withAccount fun u => ?_
  split
  · exact .refl s
  · next h =>
    obtain ⟨hs, -⟩ := openingCheck_none h
    exact legal_openAt (by rw [hs]; rfl) u .host

theorem legal_endJob (n : Nat) (s : State) : Legal s (endJobWork n s).1 := by
  refine legal_withStation fun i => ?_
  split
  · exact legal_requestEnd s i _
  · exact legal_requestEnd s i _
  · exact legal_requestEnd s i _
  · exact legal_requestEnd s i _
  · next h => exact legal_cancelWalkup h
  all_goals exact .refl s

theorem legal_clearJam (n : Nat) (s : State) : Legal s (clearJamWork n s).1 := by
  refine legal_withStation fun i => ?_
  split
  · next h => exact legal_jamClear h
  · exact .refl s

theorem legal_resetStation (n : Nat) (s : State) : Legal s (resetStationWork n s).1 := by
  refine legal_withStation fun i => ?_
  have hj : (s.station i).state.hasJob = true → Legal s (s.resetJobAt i).1 := by
    unfold State.resetJobAt
    dsimp only
    exact legal_resetJob
  split
  · next h => exact hj (by rw [h]; rfl)
  · next h => exact hj (by rw [h]; rfl)
  · next h => exact hj (by rw [h]; rfl)
  · next h => exact hj (by rw [h]; rfl)
  · next h => exact legal_cancelWalkup h
  all_goals exact .refl s

theorem legal_returnToService (n : Nat) (s : State) : Legal s (returnToServiceWork n s).1 := by
  refine legal_withStation fun i => ?_
  split_ifs with h
  · exact .refl s
  · exact legal_enter_free (by rw [h]; rfl) rfl
  · exact .refl s

theorem legal_configureReader (n x : Nat) (s : State) : Legal s (configureReaderWork n x s).1 := by
  refine legal_withStation fun i => ?_
  split
  · exact .refl s
  · exact legal_of_stations rfl

theorem legal_presetReaderCounters (n w x y z : Nat) (s : State) :
    Legal s (presetReaderCountersWork n w x y z s).1 := by
  refine legal_withStation fun i => ?_
  split
  · exact legal_of_stations rfl
  · exact .refl s

theorem legal_sendShopMessage (n : Nat) (s : State) : Legal s (sendShopMessageWork n s).1 := by
  unfold sendShopMessageWork
  split
  · exact .refl s
  · exact legal_of_stations rfl

theorem legal_takeAuthRequest (s : State) : Legal s (takeAuthRequestWork s).1 := by
  unfold takeAuthRequestWork
  split
  · exact .refl s
  · exact legal_of_stations rfl

theorem legal_approveResult {s : State} (a : Account) {w : Walkup} (g : Nat)
    (hs : (s.station w.station).state = .opening) : Legal s (s.approveResult a w g).1 := by
  have h1 := legal_modifyAccount s a.number fun x => x.withGrant (min g w.requested)
  unfold State.approveResult
  dsimp only
  split
  · exact h1.trans (legal_endWalkup _ _ hs)
  · split
    · exact h1.trans (legal_endWalkup _ _ hs)
    · refine h1.trans (Legal.trans (legal_openAt ?_ _ .reader) (legal_modifyAccount _ _ _))
      show (s.station w.station).state.hasJob = false
      rw [hs]
      rfl

theorem legal_authResult {s : State} (hw : WalkupsLaw s) (r o : Nat) (x : Option Int) :
    Legal s (authResultWork r o x s).1 := by
  unfold authResultWork
  split
  · exact .refl s
  · next result _ =>
    split
    · exact .refl s
    · next a w ht =>
      obtain ⟨hm, hp, hwa, -⟩ := takenRecord_some ht
      have hs := opening_of_pending hw hm hp hwa
      cases result with
      | declined => exact legal_endWalkup _ _ hs
      | approved g => exact legal_approveResult a g hs

/-! ### The reader bus -/

theorem stations_nextSlot (s : State) : s.nextSlot.stations = s.stations := by
  unfold State.nextSlot State.beginSlot
  (repeat' split) <;> rfl

theorem stations_broadcastEnd (s : State) : s.broadcastEnd.stations = s.stations := by
  unfold State.broadcastEnd
  split <;> rfl

theorem stations_displayEnd (s : State) (d : Bool) : (s.displayEnd d).stations = s.stations := by
  unfold State.displayEnd
  split <;> rfl

theorem stations_pollEnd (s : State) (a : Bool) : (s.pollEnd a).stations = s.stations := by
  unfold State.pollEnd
  (repeat' split) <;> rfl

theorem stations_limitReached (s : State) : s.limitReached.stations = s.stations := by
  unfold State.limitReached
  split <;> rfl

/-! ### Every command, every step -/

theorem lawful_released (s : State) (i : StationId) : (s.released.station i).lawful := by
  have e : s.released.station i = Station.afterReset (s.station i).pins := by
    show (mapSixteen _ s.stations)[i] = _
    rw [mapSixteen_get]
    rfl
  rw [e]
  exact (lawful_vacant_iff rfl).2 ⟨⟨rfl, rfl, rfl, rfl, rfl, rfl⟩, fun _ => rfl⟩

/-- Every command keeps lawful stations lawful, the walk-ups being those of OPENING stations. -/
theorem exec_legal {c : Instr} {s t : State} (hl : s.lawfulStations) (hw : WalkupsLaw s) (e : exec c s = .next t) : Legal s t := by
  cases c with
  | deviceReset => cases e; exact fun k hl => legal_drive _ k hl
  | resetRelease =>
    cases e
    exact fun k _ => legal_drive _ k (lawful_released s k)
  | selectPeriodStart => exact legal_event e (legal_of_stations rfl)
  | selectPeriodEnd mosi => exact legal_event e (legal_of_stations rfl)
  | loadAccount f => exact legal_hostCommand e (legal_loadAccount f s)
  | updateAccount f => exact legal_hostCommand e (legal_updateAccount f s)
  | credit n x => exact legal_hostCommand e (legal_credit n x s)
  | debit n x => exact legal_hostCommand e (legal_debit n x s)
  | block n => exact legal_hostCommand e (legal_block n s)
  | unblock n => exact legal_hostCommand e (legal_unblock n s)
  | retireAccount n => exact legal_hostCommand e (legal_retireAccount n s)
  | closePeriod n => exact legal_hostCommand e (legal_closePeriod n s)
  | readAccount n => exact legal_hostCommand e (legal_makeOwedRetries s)
  | listAccounts n => exact legal_hostCommand (body := fun s => (s, s.listAccountsResponse n)) e (.refl s)
  | bindToken k n => exact legal_hostCommand e (legal_bindToken k n s)
  | unbindToken k => exact legal_hostCommand e (legal_unbindToken k s)
  | findToken k => exact legal_hostCommand (body := fun s => (s, s.findTokenResponse k)) e (.refl s)
  | writeTariff l f => exact legal_hostCommand e (legal_writeTariff l f s)
  | readTariff l => exact legal_hostCommand (body := fun s => (s, s.readTariffResponse l)) e (.refl s)
  | writeSchedule n f => exact legal_hostCommand e (legal_writeSchedule n f s)
  | readSchedule n => exact legal_hostCommand (body := fun s => (s, s.readScheduleResponse n)) e (.refl s)
  | setGlobals f => exact legal_hostCommand e (legal_setGlobals f s)
  | configureStation n f => exact legal_hostCommand e (legal_configureStation n f s)
  | enableStation n => exact legal_hostCommand e (legal_enableStation n s)
  | disableStation n => exact legal_hostCommand e (legal_disableStation n s)
  | setStationTariff n l => exact legal_hostCommand e (legal_setStationTariff n l s)
  | readStation n => exact legal_hostCommand e (legal_makeOwedRetries s)
  | readStationAlarms n =>
    exact legal_hostCommand (body := fun s => alarmsWork n s.makeOwedRetries) e
      ((legal_makeOwedRetries s).trans (legal_alarms n _))
  | openJob i n => exact legal_hostCommand e (legal_openJob i n s)
  | endJob n => exact legal_hostCommand e (legal_endJob n s)
  | clearJam n => exact legal_hostCommand e (legal_clearJam n s)
  | resetStation n => exact legal_hostCommand e (legal_resetStation n s)
  | returnToService n => exact legal_hostCommand e (legal_returnToService n s)
  | configureReader n x => exact legal_hostCommand e (legal_configureReader n x s)
  | readReader n =>
    exact legal_hostCommand (body := fun s => readReaderWork n s.makeOwedRetries) e
      ((legal_makeOwedRetries s).trans (legal_withStation fun _ => legal_of_stations rfl))
  | presetReaderCounters n w x y z => exact legal_hostCommand e (legal_presetReaderCounters n w x y z s)
  | sendShopMessage n => exact legal_hostCommand e (legal_sendShopMessage n s)
  | resetReaderBus =>
    exact legal_hostCommand (body := fun s => (s.resetBus, bare .ok)) e (legal_of_stations rfl)
  | takeAuthRequest => exact legal_hostCommand e (legal_takeAuthRequest s)
  | authResult r o x => exact legal_hostCommand e (legal_authResult hw r o x)
  | statusSummary => exact legal_hostCommand e (legal_makeOwedRetries s)
  | retryOfHeldStations n => exact legal_event e ((legal_retry s n).trans (legal_retries _ _))
  | lineLevelChange i l high =>
    have hd : Legal s (s.modifyStation i fun st => st.levelChange l high) := by
      refine legal_alike ?_
      unfold Station.levelChange
      dsimp only
      split <;> exact .of_fields rfl rfl rfl rfl rfl rfl rfl rfl rfl
    change execLineLevelChange i l high s = _ at e
    unfold execLineLevelChange at e
    split_ifs at e <;> cases e
    · exact .refl s
    · exact legal_alike (.of_fields rfl rfl rfl rfl rfl rfl rfl rfl rfl)
    · exact hd.trans (legal_drive _)
  | filterTimerExpiry i l => exact legal_event e (legal_filterExpiry s i l)
  | permitDelayExpiry i =>
    exact legal_event e (legal_alike (.of_fields rfl rfl rfl rfl rfl rfl rfl rfl rfl))
  | idleTimerExpiry i => exact legal_event e (legal_idleExpiry s i)
  | drainTimerExpiry i =>
    refine legal_event e ?_
    split
    · exact .refl s
    · next h =>
      exact legal_jamEntry _ (.inr (.inr ((hl i).closing_of_timer (by simpa [Option.isSome_iff_ne_none] using h))))
  | jamTimeout i =>
    refine legal_event e ?_
    split
    · exact .refl s
    · next h =>
      exact legal_jamTimedOut ((hl i).jammed_of_timer (by simpa [Option.isSome_iff_ne_none] using h))
  | authTimerExpiry n => exact legal_event e (legal_authExpiry hw n)
  | pollPeriodStart =>
    refine legal_event e ?_
    unfold State.startPeriodIfDue
    split
    · exact legal_of_stations rfl
    · exact .refl s
  | periodTimerExpiry => exact legal_event e (legal_of_stations rfl)
  | broadcastTransferEnd => exact legal_event e (legal_of_stations (stations_broadcastEnd s))
  | slotStart => exact legal_event e (legal_of_stations (stations_nextSlot s))
  | displayTransferEnd d => exact legal_event e (legal_of_stations (stations_displayEnd s d))
  | pollTransferEnd a => exact legal_event e (legal_of_stations (stations_pollEnd s a))
  | answerLimitExpiry => exact legal_event e (legal_of_stations (stations_limitReached s))
  | answerReceived frame => exact legal_event e (legal_answerTaken s frame)
  | clockReleased => exact legal_event e (legal_of_stations rfl)

theorem legal_tick (s : State) : Legal s s.tick := by
  unfold State.tick
  split
  · exact .refl s
  · intro k hl
    show ((mapSixteen (fun _ st => st.count) s.stations)[k] : Station).lawful
    rw [mapSixteen_get]
    refine Station.Alike.lawful (a := s.station k) ⟨rfl, ?_, rfl, rfl, rfl, rfl, ?_, ?_, fun _ h => h⟩ hl
    · exact marks_map_of (f := fun j => { j with idleTimer := Timer.count j.idleTimer })
        (fun j => by simp [Job.marks, Timer.count]) _
    · exact Option.isSome_map ..
    · exact Option.isSome_map ..

/-- Every step keeps lawful stations lawful. -/
theorem step_legal {s t : State} (hl : s.lawfulStations) (hw : WalkupsLaw s) (e : step s = .next t) : Legal s t := by
  unfold step at e
  split at e
  · rcases ownStep_cases s with ⟨status, _, _, g⟩ | ⟨c, _, _, _, g⟩ | ⟨_, _, g⟩ <;> rw [g] at e
    · cases e
      exact (legal_of_stations (s := s) rfl).trans (legal_drive _)
    · exact exec_legal hl hw e
    · cases e
      exact legal_tick s
  · next c rest _ =>
    exact (legal_of_stations (s := s) rfl).trans (exec_legal (s := { s with pending := rest }) hl hw e)

/-- Settles O7: the moves of a step keep members, capacities, holds and walk-ups, its operations keep the
stations lawful. -/
theorem holdsAndMembersAddUp : Obligations.HoldsAndMembersAddUp := by
  rintro s t ⟨⟨-, hl, hw⟩, hm, hc, hh⟩ h
  obtain ⟨hm', hc', hh', hw'⟩ := (step_moves h).keeps (fun _ _ m => m.accountBooks hl)
    (show AccountBooks s from ⟨hm, hc, hh, hw⟩)
  exact ⟨⟨hm'.1, fun i => step_legal hl hw h i (hl i), hw'⟩, hm', hc', hh'⟩

end Sys2Proof.Machine
end

section
/-! SUPPORT. How a host command comes to its answer: a refusal from its work, an answer from the state its
work leaves; one record of the table replaced, and what a lookup then finds. -/

namespace Sys2Proof.Machine

variable {s t : State} {i : Instr} {status : Status} {results : List Byte} {changed : List Part}
  {holds : State → Prop} {body : State → State × Response} {n m : Nat} {a : Account} {f : Account → Account}

/-! ### Refusals and answers from the work -/

/-- Work that changes nothing and gives a bare status is a refusal. -/
theorem refuses_of_work (hr : s.ready i) (hx : exec i s = s.hostCommand i body)
    (hb : body s = unchanged (bare status) s) : Refuses i s status := answers_of_unchanged hr hx hb

/-- Work that leaves `t` and a response, the link and the reset line untouched, is an answer. -/
theorem answers_of_result (hr : s.ready i) (hx : exec i s = s.hostCommand i body)
    (hb : body s = (t, answer status results)) (hl : t.link = s.link) (hz : t.resetLow = s.resetLow)
    (hk : KeepsAllBut changed s t) (hh : ∀ l, holds { t with link := l }.drive) :
    Answers i s status results changed holds :=
  answers_of_work hr hx (by rw [hb]) (by rw [hb, hl]) (by rw [hb, hz]) (by rw [hb]; exact hk)
    (by rw [hb]; exact hh)

/-- What holds of an answered state may be weakened. -/
theorem Answers.imp {holds' : State → Prop} (h : Answers i s status results changed holds)
    (hi : ∀ t, holds t → holds' t) : Answers i s status results changed holds' := by
  obtain ⟨t, hx, ha, hk, hp, hh⟩ := h
  exact ⟨t, hx, ha, hk, hp, hi t hh⟩

/-- A state that differs in accounts, tokens and retries owed at most, and in those only where it may. -/
theorem keepsAllBut_of_ledger
    (h : t = { s with accounts := t.accounts, tokens := t.tokens, retryOwed := t.retryOwed })
    (ha : .accounts ∉ changed → t.accounts = s.accounts) (hk : .tokens ∉ changed → t.tokens = s.tokens)
    (ho : .retries ∉ changed → t.retryOwed = s.retryOwed) : KeepsAllBut changed s t := by
  intro p hp
  cases p with
  | accounts => exact ha hp
  | tokens => exact hk hp
  | retries => exact ho hp
  | stations => rw [h]; exact fun _ => rfl
  | readers => rw [h]; exact fun _ => rfl
  | _ => rw [h]; rfl

theorem withAccount_none {body : Account → State → State × Response} (h : s.account n = none) :
    withAccount n body s = unchanged (bare .notFound) s := by
  unfold withAccount; rw [h]

theorem withAccount_some {body : Account → State → State × Response} (h : s.account n = some a) :
    withAccount n body s = body a s := by
  unfold withAccount; rw [h]

/-! ### One record replaced -/

theorem account_modifyAccount_self (ha : s.account n = some a) (hf : ∀ a, (f a).number = a.number) :
    (s.modifyAccount n f).account n = some (f a) := by
  rw [State.account_modifyAccount s n n f hf, if_pos rfl, ha, Option.map_some]

theorem keepsOtherAccounts_modifyAccount (s : State) (n : Nat) (hf : ∀ a, (f a).number = a.number) :
    KeepsOtherAccounts [n] s (s.modifyAccount n f) := fun m hm => by
  rw [State.account_modifyAccount s n m f hf, if_neg (by simpa using hm)]

theorem keepsOtherAccounts_refl (ns : List Nat) (s : State) : KeepsOtherAccounts ns s s := fun _ _ => rfl

theorem keepsOtherAccounts_trans {ns : List Nat} {u : State} (h : KeepsOtherAccounts ns s t)
    (g : KeepsOtherAccounts ns t u) : KeepsOtherAccounts ns s u := fun m hm => (g m hm).trans (h m hm)

theorem keepsOtherAccounts_mono {ns ms : List Nat} (h : KeepsOtherAccounts ns s t)
    (hs : ∀ m ∈ ns, m ∈ ms) : KeepsOtherAccounts ms s t := fun m hm => h m fun hn => hm (hs m hn)

theorem account_addMember_self (ha : s.account n = some a) :
    (s.addMember n).account n = some { a with memberCount := a.memberCount + 1 } :=
  account_modifyAccount_self ha fun _ => rfl

theorem account_addMember_other (s : State) (h : m ≠ n) : (s.addMember n).account m = s.account m :=
  keepsOtherAccounts_modifyAccount s n (f := fun b => { b with memberCount := b.memberCount + 1 })
    (fun _ => rfl) m (by simpa using h)

theorem account_dropMember_self (ha : s.account n = some a) :
    (s.dropMember n).account n = some { a with memberCount := a.memberCount - 1 } :=
  account_modifyAccount_self ha fun _ => rfl

theorem account_dropMember_other (s : State) (h : m ≠ n) : (s.dropMember n).account m = s.account m :=
  keepsOtherAccounts_modifyAccount s n (f := fun b => { b with memberCount := b.memberCount - 1 })
    (fun _ => rfl) m (by simpa using h)

/-- A command that replaces the figures of one record is an answer that says what became of the table. -/
theorem answers_of_modified (hr : s.ready i) (hx : exec i s = s.hostCommand i body)
    (hb : body s = (s.modifyAccount n f, answer status results)) (ha : s.account n = some a)
    (hf : ∀ a, (f a).number = a.number) :
    Answers i s status results [.accounts] fun t =>
      t.account n = some (f a) ∧ KeepsOtherAccounts [n] s t :=
  answers_of_result hr hx hb rfl rfl (keepsAllBut_modifyAccount s n f) fun _ =>
    ⟨account_modifyAccount_self ha hf, keepsOtherAccounts_modifyAccount s n hf⟩

/-! ### The kinds of account -/

theorem ownsBalance_of (h : a.kind = .prepaid ∨ a.kind = .credit) : a.ownsBalance = true := by
  rcases h with h | h <;> simp [Account.ownsBalance, h]

theorem not_ownsBalance_of (h : a.kind = .member ∨ a.kind = .transient) : a.ownsBalance = false := by
  rcases h with h | h <;> simp [Account.ownsBalance, h]

end Sys2Proof.Machine
end

section
/-! SUPPORT. CREDIT, DEBIT, UNBLOCK, RETIRE ACCOUNT and CLOSE PERIOD: the work of each by its cases
(O24, O26, O27). -/

namespace Sys2Proof.Machine

variable {s : State} {n : Nat} {x : Int} {a : Account}

/-! ### CREDIT and DEBIT -/

theorem transferInRange_outside (h : x < 1 ∨ 100000000 < x) : transferInRange x = false := by
  rw [Bool.eq_false_iff, Ne, transferInRange_iff]
  omega

/-- The amount is in its range and the account is there: what is left of CREDIT's work. -/
theorem creditWork_found (h1 : 1 ≤ x) (h2 : x ≤ 100000000) (ha : s.account n = some a) :
    creditWork n x s =
      if !a.ownsBalance then unchanged (bare .refusedState) s
      else if 999999999 < a.balance + x then unchanged (bare .limit) s
      else ((s.setBalance n (a.balance + x)).askRetry n, answer .ok (beCents (a.balance + x))) := by
  unfold creditWork
  rw [(transferInRange_iff x).2 ⟨h1, h2⟩, withAccount_some ha]
  rfl

theorem debitWork_found (h1 : 1 ≤ x) (h2 : x ≤ 100000000) (ha : s.account n = some a) :
    debitWork n x s =
      if !a.ownsBalance then unchanged (bare .refusedState) s
      else if a.balance - x < -99999999 then unchanged (bare .limit) s
      else (s.setBalance n (a.balance - x), answer .ok (beCents (a.balance - x))) := by
  unfold debitWork
  rw [(transferInRange_iff x).2 ⟨h1, h2⟩, withAccount_some ha]
  rfl

theorem creditWork_outside (h : x < 1 ∨ 100000000 < x) : creditWork n x s = unchanged (bare .invalid) s := by
  simp [creditWork, transferInRange_outside h]

theorem debitWork_outside (h : x < 1 ∨ 100000000 < x) : debitWork n x s = unchanged (bare .invalid) s := by
  simp [debitWork, transferInRange_outside h]

theorem creditWork_absent (h1 : 1 ≤ x) (h2 : x ≤ 100000000) (ha : s.account n = none) :
    creditWork n x s = unchanged (bare .notFound) s := by
  simp [creditWork, (transferInRange_iff x).2 ⟨h1, h2⟩, withAccount_none ha]

theorem debitWork_absent (h1 : 1 ≤ x) (h2 : x ≤ 100000000) (ha : s.account n = none) :
    debitWork n x s = unchanged (bare .notFound) s := by
  simp [debitWork, (transferInRange_iff x).2 ⟨h1, h2⟩, withAccount_none ha]

theorem answers_credited (hr : s.ready (.credit n x)) (h1 : 1 ≤ x) (h2 : x ≤ 100000000)
    (ha : s.account n = some a) (hk : a.ownsBalance = true) (hl : a.balance + x ≤ 999999999) :
    Answers (.credit n x) s .ok (beCents (a.balance + x)) [.accounts, .retries] fun t =>
      t.account n = some { a with balance := a.balance + x } ∧ KeepsOtherAccounts [n] s t ∧
        t.retryOwed = s.retryOwed ++ [n] := by
  have hb : creditWork n x s =
      ((s.setBalance n (a.balance + x)).askRetry n, answer .ok (beCents (a.balance + x))) := by
    rw [creditWork_found h1 h2 ha, hk, if_neg (by simp), if_neg (by omega)]
  refine answers_of_result hr rfl hb rfl rfl ?_ fun _ => ⟨account_modifyAccount_self ha fun _ => rfl,
    keepsOtherAccounts_modifyAccount s n fun _ => rfl, rfl⟩
  exact keepsAllBut_of_ledger rfl (fun h => absurd (by decide) h) (fun _ => rfl) fun h => absurd (by decide) h

theorem answers_debited (hr : s.ready (.debit n x)) (h1 : 1 ≤ x) (h2 : x ≤ 100000000)
    (ha : s.account n = some a) (hk : a.ownsBalance = true) (hl : -99999999 ≤ a.balance - x) :
    Answers (.debit n x) s .ok (beCents (a.balance - x)) [.accounts] fun t =>
      t.account n = some { a with balance := a.balance - x } ∧ KeepsOtherAccounts [n] s t := by
  have hb : debitWork n x s = (s.setBalance n (a.balance - x), answer .ok (beCents (a.balance - x))) := by
    rw [debitWork_found h1 h2 ha, hk, if_neg (by simp), if_neg (by omega)]
  exact answers_of_modified hr rfl hb ha fun _ => rfl

/-- Settles O24: each case of the work of CREDIT and DEBIT, in the order of their checks. -/
theorem creditAndDebitMoveTheBalance : Obligations.CreditAndDebitMoveTheBalance := by
  refine ⟨fun s n x hr => ⟨fun hx => refuses_of_work hr rfl (creditWork_outside hx), fun h1 h2 =>
    ⟨fun ha => refuses_of_work hr rfl (creditWork_absent h1 h2 ha), fun a ha => ⟨fun hk => ?_, fun hk =>
      ⟨fun hl => ?_, answers_credited hr h1 h2 ha (ownsBalance_of hk)⟩⟩⟩⟩,
    fun s n x hr => ⟨fun hx => refuses_of_work hr rfl (debitWork_outside hx), fun h1 h2 =>
    ⟨fun ha => refuses_of_work hr rfl (debitWork_absent h1 h2 ha), fun a ha => ⟨fun hk => ?_, fun hk =>
      ⟨fun hl => ?_, answers_debited hr h1 h2 ha (ownsBalance_of hk)⟩⟩⟩⟩⟩
  · exact refuses_of_work hr rfl (by rw [creditWork_found h1 h2 ha, not_ownsBalance_of hk]; rfl)
  · exact refuses_of_work hr rfl
      (by rw [creditWork_found h1 h2 ha, ownsBalance_of hk, if_neg (by simp), if_pos hl])
  · exact refuses_of_work hr rfl (by rw [debitWork_found h1 h2 ha, not_ownsBalance_of hk]; rfl)
  · exact refuses_of_work hr rfl
      (by rw [debitWork_found h1 h2 ha, ownsBalance_of hk, if_neg (by simp), if_pos hl])

/-! ### UNBLOCK and RETIRE ACCOUNT -/

/-- Every record but those of `ns` is found as before a removal, when the payer is among them. -/
theorem keepsOtherAccounts_removeAccount {ns : List Nat} (ha : s.account n = some a) (hn : n ∈ ns)
    (hp : ∀ p, a.payer = some p → p ∈ ns) : KeepsOtherAccounts ns s (s.removeAccount n) := fun m hm => by
  have hne : m ≠ n := fun e => hm (e ▸ hn)
  rw [removeAccount_eq ha, account_dropAccount, if_neg hne]
  unfold State.leavePayer
  split
  · rfl
  · next p hq =>
    have hmp : m ≠ p := fun e => hm (e ▸ hp p hq)
    exact account_dropMember_other (s.dropTokens a.tokens) hmp

/-- The payer of a removed MEMBER counts one member less (R26). -/
theorem account_removeAccount_payer {p : Nat} {b : Account} (ha : s.account n = some a)
    (hp : a.payer = some p) (hne : p ≠ n) (hb : s.account p = some b) :
    (s.removeAccount n).account p = some { b with memberCount := b.memberCount - 1 } := by
  rw [removeAccount_eq ha, account_dropAccount, if_neg hne]
  unfold State.leavePayer
  rw [hp]
  exact account_dropMember_self (s := s.dropTokens a.tokens) hb

theorem onlyAccounts_link {s t : State} (h : OnlyAccounts s t) : t.link = s.link := by rw [h]

theorem onlyAccounts_resetLow {s t : State} (h : OnlyAccounts s t) : t.resetLow = s.resetLow := by rw [h]

/-- The answer of a RETIRE ACCOUNT that removes the record. -/
theorem answers_retired (hr : s.ready (.retireAccount n)) (ha : s.account n = some a)
    (hb : retireAccountWork n s = (s.removeAccount n, bare .ok)) :
    Answers (.retireAccount n) s .ok [] [.accounts, .tokens] fun t =>
      t.account n = none ∧ t.tokens = (s.tokens.filter fun e => !a.tokens.contains e.token) ∧
        (a.payer = none → KeepsOtherAccounts [n] s t) ∧
        ∀ p b, a.payer = some p → p ≠ n → s.account p = some b →
          t.account p = some { b with memberCount := b.memberCount - 1 } ∧
            KeepsOtherAccounts [n, p] s t := by
  have o := onlyAccounts_removeAccount s n
  refine answers_of_result hr rfl hb (onlyAccounts_link o) (onlyAccounts_resetLow o) o.keepsAllBut fun _ =>
    ⟨account_removeAccount_self s n, tokens_removeAccount ha, fun hp => ?_, fun p b hp hne hb =>
      ⟨account_removeAccount_payer ha hp hne hb, ?_⟩⟩
  · exact keepsOtherAccounts_removeAccount ha (by simp) (by simp [hp])
  · exact keepsOtherAccounts_removeAccount ha (by simp) (by simp [hp])

/-- Settles O26: the cases of the work of UNBLOCK and of RETIRE ACCOUNT, the removal by
`answers_retired`. -/
theorem unblockAndRetireAccount : Obligations.UnblockAndRetireAccount := by
  refine ⟨fun s n hr => ⟨fun ha => refuses_of_work hr rfl (withAccount_none ha), fun a ha => ⟨fun h => ?_,
    fun hk hs => ?_⟩⟩, fun s n hr => ⟨fun ha => refuses_of_work hr rfl (withAccount_none ha), fun a ha =>
      ⟨fun hk hs => ?_, fun hk hm => ?_, fun hk hm hj => ?_, fun h => answers_retired hr ha ?_⟩⟩⟩
  · exact refuses_of_work hr rfl ((withAccount_some ha).trans (if_pos h))
  · exact answers_of_modified hr rfl ((withAccount_some ha).trans (if_neg (by simp [hk, hs]))) ha fun _ => rfl
  · exact refuses_of_work hr rfl ((withAccount_some ha).trans (by rw [if_pos hk, if_neg hs]))
  · exact refuses_of_work hr rfl ((withAccount_some ha).trans (by rw [if_neg hk, if_pos hm]))
  · refine answers_of_modified (f := fun a => { a with state := .closing }) hr rfl
      ((withAccount_some ha).trans ?_) ha fun _ => rfl
    rw [if_neg hk, if_neg (by omega), if_pos hj]
    rfl
  · refine (withAccount_some ha).trans ?_
    rcases h with ⟨hk, hs⟩ | ⟨hk, hm, hj⟩
    · rw [if_pos hk, if_pos hs]
    · rw [if_neg hk, if_neg (by omega), if_neg (by omega)]

/-! ### CLOSE PERIOD -/

theorem zeroCounts_eq : zeroCounts = #v[0, 0, 0, 0, 0, 0, 0, 0] := by decide

theorem Account.number_periodClosed (a : Account) (k : Nat) : (a.periodClosed k).number = a.number := rfl

/-- A lookup after the periods of the accounts picked are closed. -/
theorem account_closePeriods (s : State) (chosen : Account → Bool) (m : Nat) :
    (s.closePeriods chosen).account m = (s.account m).map fun a =>
      if chosen a then a.periodClosed (s.impressionsInPath a.number) else a := by
  have hn : ((fun a : Account => a.number == m) ∘ fun a =>
      if chosen a then a.periodClosed (s.impressionsInPath a.number) else a) = fun a => a.number == m := by
    funext a
    simp only [Function.comp, apply_ite Account.number, Account.number_periodClosed, ite_self]
  unfold State.account State.closePeriods
  rw [List.find?_map, hn]

/-- An account picked has its period figures closed, in the words of R27. -/
theorem account_closePeriods_chosen {chosen : Account → Bool} {m : Nat} (ha : s.account m = some a)
    (hc : chosen a = true) :
    (s.closePeriods chosen).account m =
      some { a with periodCharges := 0, classCounts := #v[0, 0, 0, 0, 0, 0, 0, 0]
                    meter := s.impressionsInPath m, meterSaturated := false } := by
  obtain rfl := State.account_number s ha
  rw [account_closePeriods, ha, Option.map_some, if_pos hc, Account.periodClosed, zeroCounts_eq]

/-- With every account picked, a lookup finds the record closed (R27 for ALL). -/
theorem account_closePeriods_all (s : State) (m : Nat) :
    (s.closePeriods fun _ => true).account m = (s.account m).map fun a =>
      { a with periodCharges := 0, classCounts := #v[0, 0, 0, 0, 0, 0, 0, 0]
               meter := s.impressionsInPath m, meterSaturated := false } := by
  cases ha : s.account m with
  | none => rw [account_closePeriods, ha, Option.map_none, Option.map_none]
  | some a => exact account_closePeriods_chosen ha rfl

theorem keepsAllBut_closePeriods (s : State) (chosen : Account → Bool) :
    KeepsAllBut [.accounts] s (s.closePeriods chosen) :=
  keepsAllBut_of_ledger rfl (fun h => absurd (by decide) h) (fun _ => rfl) fun _ => rfl

/-- The sum over the stations that have the account's job, as a sum over the stations picked. -/
theorem sum_map_ite {α : Type} (l : List α) (p : α → Bool) (g : α → Nat) :
    (l.map fun i => if p i then g i else 0).sum = ((l.filter p).map g).sum := by
  induction l with
  | nil => rfl
  | cons i l ih =>
    rw [List.map_cons, List.sum_cons, ih]
    by_cases h : p i
    · simp [h]
    · simp [h]

theorem impressionsInPath_eq (s : State) (n : Nat) : s.impressionsInPath n =
    ((allStations.filter fun i => (s.station i).job.map Job.billing == some n).map fun i =>
      (((s.station i).path ++ (s.station i).disputed).map Sheet.impressions).sum).sum := by
  rw [← sum_map_ite]
  simp only [beq_iff_eq]
  rfl

/-- Settles O27: the record, or all of them, as `account_closePeriods` finds them. -/
theorem closePeriodKeepsSheetsInPath : Obligations.ClosePeriodKeepsSheetsInPath := by
  refine fun s n hr => ⟨fun hn ha => ?_, fun a hn ha => ?_, fun hn => ?_, impressionsInPath_eq s n⟩
  · exact refuses_of_work hr rfl ((if_neg hn).trans (withAccount_none ha))
  · refine answers_of_result hr rfl ((if_neg hn).trans (withAccount_some ha)) rfl rfl
      (keepsAllBut_closePeriods s _) fun _ => ⟨account_closePeriods_chosen ha ?_, fun m hm =>
        (account_closePeriods s _ m).trans ?_⟩
    · rw [State.account_number s ha, beq_self_eq_true]
    · cases hb : s.account m with
      | none => rfl
      | some b =>
        have hne : b.number ≠ n := by
          rw [State.account_number s hb]
          simpa using hm
        simp [hne]
  · exact answers_of_result hr rfl (if_pos hn) rfl rfl (keepsAllBut_closePeriods s _) fun _ =>
      account_closePeriods_all s

end Sys2Proof.Machine
end

section
/-! SUPPORT. BIND TOKEN, UNBIND TOKEN and FIND TOKEN: the work of each by its cases (O29, O30). -/

namespace Sys2Proof.Machine

variable {s : State} {k : Token} {n : Nat} {a : Account}

/-! ### The index -/

theorem tokenAccount_eq_none (h : ∀ e ∈ s.tokens, e.token ≠ k) : s.tokenAccount k = none := by
  unfold State.tokenAccount
  rw [Option.map_eq_none_iff, List.find?_eq_none]
  simpa using h

theorem tokenAccount_isSome (h : ∃ e ∈ s.tokens, e.token = k) : (s.tokenAccount k).isSome = true := by
  obtain ⟨e, he, rfl⟩ := h
  unfold State.tokenAccount
  rw [Option.isSome_map, List.find?_isSome]
  exact ⟨e, he, by simp⟩

/-- A token just entered is found with its account. -/
theorem tokenAccount_entered {t : State} (h : ∀ e ∈ s.tokens, e.token ≠ k)
    (ht : t.tokens = s.tokens ++ [{ token := k, account := n }]) : t.tokenAccount k = some n := by
  have hn : s.tokens.find? (fun e => e.token == k) = none := List.find?_eq_none.2 (by simpa using h)
  unfold State.tokenAccount
  rw [ht, List.find?_append, hn]
  simp

/-- A BLOCKED user passes no opening check of a reader or of the host (R54 check 3). -/
theorem openingCheck_of_blocked {i : StationId} {u : Account} (h : u.state = .blocked) :
    s.openingCheck i u false ≠ none := fun hc => by
  obtain ⟨_, _, h3, _⟩ := openingCheck_none hc
  simp [h] at h3

theorem keepsAllBut_bindToken (s : State) (k : Token) (n : Nat) :
    KeepsAllBut [.accounts, .tokens] s (s.bindToken k n) :=
  keepsAllBut_of_ledger rfl (fun h => absurd (by decide) h) (fun h => absurd (by decide) h) fun _ => rfl

theorem keepsAllBut_unbindToken (s : State) (k : Token) (n : Nat) :
    KeepsAllBut [.accounts, .tokens] s (s.unbindToken k n) :=
  keepsAllBut_of_ledger rfl (fun h => absurd (by decide) h) (fun h => absurd (by decide) h) fun _ => rfl

theorem account_bindToken_self (ha : s.account n = some a) :
    (s.bindToken k n).account n = some { a with tokens := a.tokens ++ [k] } :=
  account_modifyAccount_self (s := { s with tokens := s.tokens ++ [{ token := k, account := n }] }) ha
    fun _ => rfl

theorem account_unbindToken_self (ha : s.account n = some a) :
    (s.unbindToken k n).account n = some { a with tokens := a.tokens.filter fun u => u != k } :=
  account_modifyAccount_self (s := { s with tokens := s.tokens.filter fun e => e.token != k }) ha fun _ => rfl

theorem keepsOtherAccounts_bindToken (s : State) (k : Token) (n : Nat) :
    KeepsOtherAccounts [n] s (s.bindToken k n) :=
  keepsOtherAccounts_modifyAccount { s with tokens := s.tokens ++ [{ token := k, account := n }] } n
    (f := fun a => { a with tokens := a.tokens ++ [k] }) fun _ => rfl

theorem keepsOtherAccounts_unbindToken (s : State) (k : Token) (n : Nat) :
    KeepsOtherAccounts [n] s (s.unbindToken k n) :=
  keepsOtherAccounts_modifyAccount { s with tokens := s.tokens.filter fun e => e.token != k } n
    (f := fun a => { a with tokens := a.tokens.filter fun u => u != k }) fun _ => rfl

/-! ### BIND TOKEN -/

/-- What is left of BIND TOKEN's work for a token not all zero and an account of the table. -/
theorem bindTokenWork_found (hk : k ≠ 0#64) (ha : s.account n = some a) :
    bindTokenWork k n s =
      if a.kind = .transient ∨ a.state = .closing then unchanged (bare .refusedState) s
      else if (s.tokenAccount k).isSome then unchanged (bare .exists_) s
      else if 4 ≤ a.tokens.length ∨ 2048 ≤ s.tokens.length then unchanged (bare .full) s
      else (s.bindToken k n, bare .ok) :=
  (if_neg hk).trans (withAccount_some ha)

theorem answers_bound (hr : s.ready (.bindToken k n)) (ha : s.account n = some a)
    (hf : ∀ e ∈ s.tokens, e.token ≠ k) (hb : bindTokenWork k n s = (s.bindToken k n, bare .ok)) :
    Answers (.bindToken k n) s .ok [] [.accounts, .tokens] fun t =>
      t.tokens = s.tokens ++ [{ token := k, account := n }] ∧
        t.account n = some { a with tokens := a.tokens ++ [k] } ∧
        KeepsOtherAccounts [n] s t ∧ t.tokenAccount k = some n ∧
        (a.state = .blocked → ∀ i u, t.account n = some u → t.openingCheck i u false ≠ none) := by
  refine answers_of_result hr rfl hb rfl rfl (keepsAllBut_bindToken s k n) fun _ =>
    ⟨rfl, account_bindToken_self ha, keepsOtherAccounts_bindToken s k n, tokenAccount_entered hf rfl,
      fun hs i u hu => openingCheck_of_blocked ?_⟩
  have hu' : (s.bindToken k n).account n = some u := hu
  rw [account_bindToken_self ha, Option.some.injEq] at hu'
  rw [← hu']
  exact hs

/-- Settles O29: the five checks in their order by `bindTokenWork_found`, the entry by `answers_bound`. -/
theorem bindTokenChecksThenEnters : Obligations.BindTokenChecksThenEnters := by
  refine fun s k n hr => ⟨fun hk => refuses_of_work hr rfl (if_pos hk), fun hk =>
    ⟨fun ha => refuses_of_work hr rfl ((if_neg hk).trans (withAccount_none ha)), fun a ha =>
      ⟨fun h => refuses_of_work hr rfl ?_, fun h1 h2 => ⟨fun he => refuses_of_work hr rfl ?_, fun hf =>
        ⟨fun hl => refuses_of_work hr rfl ?_, fun l1 l2 => answers_bound hr ha hf ?_⟩⟩⟩⟩⟩ <;>
    rw [bindTokenWork_found hk ha]
  · rw [if_pos h]
  all_goals rw [if_neg (by simp [h1, h2])]
  · rw [if_pos (tokenAccount_isSome he)]
  all_goals rw [if_neg (by simp [tokenAccount_eq_none hf])]
  · rw [if_pos hl]
  · rw [if_neg (by omega)]

/-! ### UNBIND TOKEN and FIND TOKEN -/

theorem count_two (n : Nat) : count 2 n = be 2 (min n 65535) := rfl

theorem AccountKind.count_code (k : AccountKind) : count 1 k.code = be 1 k.code := by cases k <;> rfl

theorem AccountState.count_code (x : AccountState) : count 1 x.code = be 1 x.code := by cases x <;> rfl

theorem findTokenResponse_unbound (hk : k ≠ 0#64) (h : ∀ e ∈ s.tokens, e.token ≠ k) :
    s.findTokenResponse k = bare .notFound := by
  unfold State.findTokenResponse
  rw [if_neg hk, tokenAccount_eq_none h]
  rfl

theorem findTokenResponse_bound (hk : k ≠ 0#64) (ht : s.tokenAccount k = some n) (ha : s.account n = some a) :
    s.findTokenResponse k =
      answer .ok (be 2 (min n 65535) ++ be 1 a.kind.code ++ be 1 a.state.code) := by
  unfold State.findTokenResponse
  rw [if_neg hk, ht, Option.bind_some, ha]
  dsimp only
  rw [State.account_number s ha, count_two, AccountKind.count_code, AccountState.count_code]

theorem unbindTokenWork_unbound (hk : k ≠ 0#64) (h : ∀ e ∈ s.tokens, e.token ≠ k) :
    unbindTokenWork k s = unchanged (bare .notFound) s := by
  unfold unbindTokenWork
  rw [if_neg hk, tokenAccount_eq_none h]

theorem unbindTokenWork_bound (hk : k ≠ 0#64) (ht : s.tokenAccount k = some n) (ha : s.account n = some a) :
    unbindTokenWork k s =
      if a.kind = .transient then unchanged (bare .refusedState) s
      else (s.unbindToken k n, answer .ok (be 2 (min n 65535))) := by
  unfold unbindTokenWork
  rw [if_neg hk, ht]
  dsimp only
  rw [ha, Option.any_some, count_two]
  simp only [beq_iff_eq]

/-- FIND TOKEN answers with what it reads. -/
theorem answers_findToken {status : Status} {results : List Byte} (hr : s.ready (.findToken k))
    (hl : s.findTokenResponse k = answer status results) :
    Answers (.findToken k) s status results [] fun _ => True :=
  answers_of_unchanged (body := fun s => (s, s.findTokenResponse k)) hr rfl (by rw [hl])

/-- Settles O30: the cases of FIND TOKEN's response and of UNBIND TOKEN's work. -/
theorem findAndUnbindToken : Obligations.FindAndUnbindToken := by
  refine ⟨fun s k hr => ⟨fun hk => ?_, fun hk hf => ?_, fun n a hk ht ha => ?_⟩, fun s k hr =>
    ⟨fun hk => refuses_of_work hr rfl (if_pos hk), fun hk hf => ?_, fun n a hk ht ha =>
      ⟨fun hx => refuses_of_work hr rfl ?_, fun hx => ?_⟩⟩⟩
  · exact answers_findToken hr (if_pos hk)
  · exact answers_findToken hr (findTokenResponse_unbound hk hf)
  · exact answers_findToken hr (findTokenResponse_bound hk ht ha)
  · exact refuses_of_work hr rfl (unbindTokenWork_unbound hk hf)
  · rw [unbindTokenWork_bound hk ht ha, if_pos hx]
  · exact answers_of_result hr rfl ((unbindTokenWork_bound hk ht ha).trans (if_neg hx)) rfl rfl
      (keepsAllBut_unbindToken s k n) fun _ =>
        ⟨rfl, account_unbindToken_self ha, keepsOtherAccounts_unbindToken s k n⟩

end Sys2Proof.Machine
end

section
/-! SUPPORT. LOAD ACCOUNT: which forms are well made, what the record holds, and its work by cases (O22). -/

namespace Sys2Proof.Machine

variable {s : State} {f : LoadForm} {a b : Account} {p : Nat}

/-! ### Masks and the fields they supply -/

theorem supplied_isSome {α : Type} (mask : BitVec 16) (bit : Nat) (x : α) :
    (supplied mask bit x).isSome = mask.getLsbD bit := by
  unfold supplied; split <;> simp_all

theorem supplied_isNone {α : Type} (mask : BitVec 16) (bit : Nat) (x : α) :
    (supplied mask bit x).isNone = !mask.getLsbD bit := by
  rw [← supplied_isSome mask bit x, Option.not_isSome]

theorem supplied_all {α : Type} (mask : BitVec 16) (bit : Nat) (x : α) (q : α → Bool) :
    (supplied mask bit x).all q = true ↔ (mask.getLsbD bit = true → q x = true) := by
  unfold supplied; split <;> simp_all

theorem supplied_of {α : Type} {mask : BitVec 16} {bit : Nat} (x : α) (h : mask.getLsbD bit = true) :
    supplied mask bit x = some x := if_pos h

theorem supplied_of_not {α : Type} {mask : BitVec 16} {bit : Nat} (x : α) (h : mask.getLsbD bit = false) :
    supplied mask bit x = none := if_neg (by simp [h])

/-- A mask is free of the bits of a constant when each of them is clear in it. -/
theorem and_eq_zero_iff (mask c : BitVec 16) :
    mask &&& c = 0#16 ↔ ∀ bit : Fin 16, c.getLsbD bit.val = true → mask.getLsbD bit.val = false := by
  constructor
  · intro h bit hc
    have := congrArg (fun m : BitVec 16 => m.getLsbD bit.val) h
    simp only [BitVec.getLsbD_and, hc, Bool.and_true, BitVec.getLsbD_zero] at this
    exact this
  · intro h
    refine BitVec.eq_of_getLsbD_eq fun k hk => ?_
    rw [BitVec.getLsbD_and]
    cases hc : c.getLsbD k with
    | false => simp
    | true => simp [h ⟨k, hk⟩ hc]

/-- The reserved bits of LOAD ACCOUNT's mask (R198). -/
theorem LoadForm.hasReservedBits_iff (f : LoadForm) : f.hasReservedBits = false ↔
    ∀ bit : Fin 16, bit ∉ ([0, 1, 3, 5, 7, 13] : List (Fin 16)) → f.mask.getLsbD bit.val = false := by
  have hc : ∀ bit : Fin 16, (0xDF54#16).getLsbD bit.val = true ↔ bit ∉ ([0, 1, 3, 5, 7, 13] : List (Fin 16)) := by
    decide
  unfold LoadForm.hasReservedBits
  rw [bne_eq_false_iff_eq, and_eq_zero_iff]
  exact forall_congr' fun bit => by rw [hc]

/-! ### Well-made forms (R18 check 1) -/

/-- The ranges of R18, each for the field that its mask bit supplies. -/
theorem LoadForm.inRange_iff (f : LoadForm) : f.inRange = true ↔
    (1 ≤ f.number ∧ f.number ≤ 59999) ∧
    (f.mask.getLsbD 0 = true → -99999999 ≤ f.balance ∧ f.balance ≤ 999999999) ∧
    (f.mask.getLsbD 1 = true → 0 ≤ f.creditLimit ∧ f.creditLimit ≤ 10000000) ∧
    (f.mask.getLsbD 3 = true → 1 ≤ f.payer ∧ f.payer ≤ 59999) ∧
    (f.mask.getLsbD 5 = true → 0 ≤ f.periodCap ∧ f.periodCap ≤ 10000000) ∧
    (f.mask.getLsbD 7 = true → f.schedule ≤ 3) ∧
    (f.mask.getLsbD 13 = true →
      f.meter ≤ 16777215 ∧ 0 ≤ f.periodCharges ∧ f.periodCharges ≤ 999999999 ∧
        ∀ k : Fin 8, f.classCounts[k] ≤ 16777215) := by
  have hcounts : (f.classCounts.toList.all fun c => decide (c ≤ Config.meterTop)) = true ↔
      ∀ k : Fin 8, f.classCounts[k] ≤ 16777215 := by
    rw [List.all_eq_true]
    constructor
    · exact fun h k => of_decide_eq_true (h f.classCounts[k] (by simp))
    · intro h c hc
      obtain ⟨k, hk, rfl⟩ := Vector.mem_iff_getElem.1 (Vector.mem_toList_iff.1 hc)
      exact decide_eq_true (h ⟨k, hk⟩)
  have hfig : (!f.hasFigures || (decide (f.meter ≤ Config.meterTop) &&
        centsWithin (Config.chargesTop : Int) f.periodCharges &&
        f.classCounts.toList.all fun c => decide (c ≤ Config.meterTop))) = true ↔
      (f.mask.getLsbD 13 = true → f.meter ≤ 16777215 ∧ 0 ≤ f.periodCharges ∧
        f.periodCharges ≤ 999999999 ∧ ∀ k : Fin 8, f.classCounts[k] ≤ 16777215) := by
    rw [Bool.or_eq_true, Bool.and_eq_true, Bool.and_eq_true, hcounts, centsWithin_iff, decide_eq_true_iff,
      Bool.not_eq_true', ← Bool.not_eq_true, ← imp_iff_not_or]
    exact imp_congr Iff.rfl (by rw [and_assoc, and_assoc]; rfl)
  unfold LoadForm.inRange
  rw [Bool.and_eq_true, hfig]
  simp only [Bool.and_eq_true, LoadForm.balance?, LoadForm.limit?, LoadForm.payer?, LoadForm.cap?,
    LoadForm.schedule?, supplied_all, centsWithin_iff, decide_eq_true_iff, Nat.lt_succ_iff,
    and_assoc]
  exact Iff.rfl

/-- The fields of each kind (R18 check 1, R7). -/
theorem LoadForm.suitsKind_prepaid (f : LoadForm) : f.suitsKind .prepaid = true ↔
    f.mask.getLsbD 0 = true ∧ f.mask.getLsbD 1 = false ∧ f.mask.getLsbD 3 = false ∧
      f.mask.getLsbD 5 = false ∧ f.mask.getLsbD 7 = true := by
  simp only [LoadForm.suitsKind, LoadForm.balance?, LoadForm.limit?, LoadForm.payer?, LoadForm.cap?,
    LoadForm.schedule?, supplied_isSome, supplied_isNone, Bool.and_eq_true, Bool.not_eq_true', and_assoc]

theorem LoadForm.suitsKind_credit (f : LoadForm) : f.suitsKind .credit = true ↔
    f.mask.getLsbD 0 = true ∧ f.mask.getLsbD 1 = true ∧ f.mask.getLsbD 3 = false ∧
      f.mask.getLsbD 5 = false ∧ f.mask.getLsbD 7 = true := by
  simp only [LoadForm.suitsKind, LoadForm.balance?, LoadForm.limit?, LoadForm.payer?, LoadForm.cap?,
    LoadForm.schedule?, supplied_isSome, supplied_isNone, Bool.and_eq_true, Bool.not_eq_true', and_assoc]

theorem LoadForm.suitsKind_member (f : LoadForm) : f.suitsKind .member = true ↔
    f.mask.getLsbD 0 = false ∧ f.mask.getLsbD 1 = false ∧ f.mask.getLsbD 3 = true ∧
      f.mask.getLsbD 7 = false ∧ (f.mask.getLsbD 13 = true → f.meter = 0) := by
  simp only [LoadForm.suitsKind, LoadForm.balance?, LoadForm.limit?, LoadForm.payer?, LoadForm.hasFigures,
    LoadForm.schedule?, supplied_isSome, supplied_isNone, Bool.and_eq_true, Bool.or_eq_true,
    Bool.not_eq_true', beq_iff_eq, and_assoc]
  cases f.mask.getLsbD 13 <;> simp

/-- The kinds of account a form may name: TRANSIENT suits none. -/
theorem kindOf_suited {k : AccountKind} (hk : kindOf f.kind = some k) (hs : f.suitsKind k = true) :
    (f.kind = 0 ∧ k = .prepaid) ∨ (f.kind = 1 ∧ k = .credit) ∨ (f.kind = 2 ∧ k = .member) := by
  unfold kindOf at hk
  split at hk
  · next h => exact .inl ⟨h, (Option.some.inj hk).symm⟩
  · next h => exact .inr (.inl ⟨h, (Option.some.inj hk).symm⟩)
  · next h => exact .inr (.inr ⟨h, (Option.some.inj hk).symm⟩)
  · obtain rfl := Option.some.inj hk
    cases hs
  · cases hk

/-- A form spells a record when its kind and its state have a meaning and it passes the three tests. -/
theorem asRecord_isSome_iff (f : LoadForm) : f.asRecord.isSome = true ↔
    ∃ k x, kindOf f.kind = some k ∧ loadStateOf f.state = some x ∧ f.hasReservedBits = false ∧
      f.inRange = true ∧ f.suitsKind k = true := by
  constructor
  · intro h
    obtain ⟨a, ha⟩ := Option.isSome_iff_exists.1 h
    obtain ⟨k, x, hk, hx, hm, hr, hs, -⟩ := asRecord_some ha
    exact ⟨k, x, hk, hx, hm, hr, hs⟩
  · rintro ⟨k, x, hk, hx, hm, hr, hs⟩
    simp [LoadForm.asRecord, hk, hx, hm, hr, hs]

/-- Which forms are well made, written out (R18 check 1). -/
theorem asRecord_isSome_spelled (f : LoadForm) :
    f.asRecord.isSome = true ↔
      1 ≤ f.number ∧ f.number ≤ 59999 ∧ f.kind ≤ 2 ∧ f.state ≤ 1 ∧
      (∀ bit : Fin 16, bit ∉ ([0, 1, 3, 5, 7, 13] : List (Fin 16)) → f.mask.getLsbD bit.val = false) ∧
      (f.mask.getLsbD 0 = true → -99999999 ≤ f.balance ∧ f.balance ≤ 999999999) ∧
      (f.mask.getLsbD 1 = true → 0 ≤ f.creditLimit ∧ f.creditLimit ≤ 10000000) ∧
      (f.mask.getLsbD 3 = true → 1 ≤ f.payer ∧ f.payer ≤ 59999) ∧
      (f.mask.getLsbD 5 = true → 0 ≤ f.periodCap ∧ f.periodCap ≤ 10000000) ∧
      (f.mask.getLsbD 7 = true → f.schedule ≤ 3) ∧
      (f.mask.getLsbD 13 = true →
        f.meter ≤ 16777215 ∧ 0 ≤ f.periodCharges ∧ f.periodCharges ≤ 999999999 ∧
          ∀ k : Fin 8, f.classCounts[k] ≤ 16777215) ∧
      (f.kind = 0 → f.mask.getLsbD 0 = true ∧ f.mask.getLsbD 1 = false ∧ f.mask.getLsbD 3 = false ∧
        f.mask.getLsbD 5 = false ∧ f.mask.getLsbD 7 = true) ∧
      (f.kind = 1 → f.mask.getLsbD 0 = true ∧ f.mask.getLsbD 1 = true ∧ f.mask.getLsbD 3 = false ∧
        f.mask.getLsbD 5 = false ∧ f.mask.getLsbD 7 = true) ∧
      (f.kind = 2 → f.mask.getLsbD 0 = false ∧ f.mask.getLsbD 1 = false ∧ f.mask.getLsbD 3 = true ∧
        f.mask.getLsbD 7 = false ∧ (f.mask.getLsbD 13 = true → f.meter = 0)) := by
  rw [asRecord_isSome_iff]
  simp only [← LoadForm.hasReservedBits_iff, ← LoadForm.suitsKind_prepaid, ← LoadForm.suitsKind_credit,
    ← LoadForm.suitsKind_member]
  constructor
  · rintro ⟨k, x, hk, hx, hm, hr, hs⟩
    obtain ⟨⟨h1, h2⟩, h3, h4, h5, h6, h7, h8⟩ := (LoadForm.inRange_iff f).1 hr
    have hx1 : f.state ≤ 1 := by rcases loadStateOf_some hx with ⟨e, _⟩ | ⟨e, _⟩ <;> omega
    rcases kindOf_suited hk hs with ⟨e, rfl⟩ | ⟨e, rfl⟩ | ⟨e, rfl⟩
    · exact ⟨h1, h2, by omega, hx1, hm, h3, h4, h5, h6, h7, h8, fun _ => hs, by omega, by omega⟩
    · exact ⟨h1, h2, by omega, hx1, hm, h3, h4, h5, h6, h7, h8, by omega, fun _ => hs, by omega⟩
    · exact ⟨h1, h2, by omega, hx1, hm, h3, h4, h5, h6, h7, h8, by omega, by omega, fun _ => hs⟩
  · rintro ⟨h1, h2, hk, hx, hm, h3, h4, h5, h6, h7, h8, k0, k1, k2⟩
    have hr := (LoadForm.inRange_iff f).2 ⟨⟨h1, h2⟩, h3, h4, h5, h6, h7, h8⟩
    have hst : ∃ x, loadStateOf f.state = some x := by
      obtain e | e : f.state = 0 ∨ f.state = 1 := by omega
      · exact ⟨.active, by rw [e]; rfl⟩
      · exact ⟨.blocked, by rw [e]; rfl⟩
    obtain ⟨x, hx⟩ := hst
    obtain e | e | e : f.kind = 0 ∨ f.kind = 1 ∨ f.kind = 2 := by omega
    · exact ⟨.prepaid, x, by rw [e]; rfl, hx, hm, hr, k0 e⟩
    · exact ⟨.credit, x, by rw [e]; rfl, hx, hm, hr, k1 e⟩
    · exact ⟨.member, x, by rw [e]; rfl, hx, hm, hr, k2 e⟩

/-! ### The record (R19) -/

/-- What the record of a form holds, by its kind. -/
theorem record_money {k : AccountKind} {x : AccountState} (hr : f.inRange = true) (hs : f.suitsKind k = true) :
    (k ≠ .member → (f.record k x).balance = f.balance ∧ (f.record k x).schedule.val = f.schedule) ∧
      (k = .credit → ((f.record k x).creditLimit : Int) = f.creditLimit) ∧
      (k = .member → (f.record k x).balance = 0) ∧ (k ≠ .credit → (f.record k x).creditLimit = 0) ∧
      (f.record k x).payer = if k = .member then some f.payer else none := by
  obtain ⟨-, -, hlim, -, -, hsch, -⟩ := (LoadForm.inRange_iff f).1 hr
  have hsched : f.mask.getLsbD 7 = true → ((f.schedule?.bind fourOf).getD 0).val = f.schedule := fun h => by
    have h3 := hsch h
    rw [LoadForm.schedule?, supplied_of _ h, Option.bind_some, fourOf_eq (by omega : f.schedule < 4)]
    rfl
  cases k with
  | prepaid =>
    obtain ⟨m0, m1, m3, -, m7⟩ := (LoadForm.suitsKind_prepaid f).1 hs
    simp [LoadForm.record, LoadForm.balance?, LoadForm.limit?, LoadForm.payer?, supplied_of _ m0,
      supplied_of_not _ m1, supplied_of_not _ m3, hsched m7]
  | credit =>
    obtain ⟨m0, m1, m3, -, m7⟩ := (LoadForm.suitsKind_credit f).1 hs
    simp [LoadForm.record, LoadForm.balance?, LoadForm.limit?, LoadForm.payer?, supplied_of _ m0,
      supplied_of _ m1, supplied_of_not _ m3, hsched m7, (hlim m1).1]
  | member =>
    obtain ⟨m0, m1, m3, -, -⟩ := (LoadForm.suitsKind_member f).1 hs
    simp [LoadForm.record, LoadForm.balance?, LoadForm.limit?, LoadForm.payer?, supplied_of_not _ m0,
      supplied_of_not _ m1, supplied_of _ m3]
  | transient => cases hs

theorem record_periodCap (f : LoadForm) (k : AccountKind) (x : AccountState) :
    (f.record k x).periodCap = if f.mask.getLsbD 5 then some f.periodCap.toNat else none := by
  simp only [LoadForm.record, LoadForm.cap?, supplied]
  split <;> rfl

/-- The period figures of the record: those supplied, or 0 (R19). -/
theorem record_figures {k : AccountKind} {x : AccountState} (hr : f.inRange = true) :
    (f.mask.getLsbD 13 = true →
      (f.record k x).meter = f.meter ∧ ((f.record k x).periodCharges : Int) = f.periodCharges ∧
        (f.record k x).classCounts = f.classCounts ∧
        (f.record k x).meterSaturated = decide (f.meter = 16777215)) ∧
    (f.mask.getLsbD 13 = false →
      (f.record k x).meter = 0 ∧ (f.record k x).periodCharges = 0 ∧
        (f.record k x).classCounts = zeroCounts ∧ (f.record k x).meterSaturated = false) := by
  obtain ⟨-, -, -, -, -, -, hfig⟩ := (LoadForm.inRange_iff f).1 hr
  refine ⟨fun h => ?_, fun h => ?_⟩
  · have h0 := (hfig h).2.1
    simp only [LoadForm.record, LoadForm.hasFigures, h, if_true, Bool.true_and, Int.toNat_of_nonneg h0,
      true_and]
    rfl
  · simp only [LoadForm.record, LoadForm.hasFigures, h, Bool.false_and, Bool.false_eq_true, if_false, and_self]

/-- What the record that a form spells holds, written out (R19). -/
theorem asRecord_spelled (h : f.asRecord = some a) :
    a.number = f.number ∧ kindOf f.kind = some a.kind ∧ loadStateOf f.state = some a.state ∧
      a.kind ≠ .transient ∧ (a.kind ≠ .member → a.balance = f.balance ∧ a.schedule.val = f.schedule) ∧
      (a.kind = .credit → (a.creditLimit : Int) = f.creditLimit) ∧
      (a.kind = .member → a.balance = 0) ∧ (a.kind ≠ .credit → a.creditLimit = 0) ∧
      a.payer = (if a.kind = .member then some f.payer else none) ∧
      a.periodCap = (if f.mask.getLsbD 5 then some f.periodCap.toNat else none) ∧
      a.held = 0 ∧ a.memberHeld = 0 ∧ a.memberCount = 0 ∧ a.tokens = [] ∧ a.openJobs = 0 ∧
      a.walkup = none ∧
      (f.mask.getLsbD 13 = true →
        a.meter = f.meter ∧ (a.periodCharges : Int) = f.periodCharges ∧
          a.classCounts = f.classCounts ∧ a.meterSaturated = decide (f.meter = 16777215)) ∧
      (f.mask.getLsbD 13 = false →
        a.meter = 0 ∧ a.periodCharges = 0 ∧ a.classCounts = zeroCounts ∧ a.meterSaturated = false) := by
  have ht := (asRecord_enters h).2.1
  obtain ⟨k, x, hk, hx, -, hr, hs, rfl⟩ := asRecord_some h
  obtain ⟨hb, hc, hm, hz, hp⟩ := record_money (x := x) hr hs
  obtain ⟨hf, hn⟩ := record_figures (k := k) (x := x) hr
  exact ⟨rfl, hk, hx, ht, hb, hc, hm, hz, hp, record_periodCap f k x, rfl, rfl, rfl, rfl, rfl, rfl, hf, hn⟩

/-! ### The payer's checks (R18 checks 4 to 6, R20 checks 5 to 7) -/

theorem payerFault_absent (h : s.account p = none) : s.payerFault p = some .notFound := by
  unfold State.payerFault; rw [h]

theorem payerFault_kind (h : s.account p = some b) (hk : b.kind = .member ∨ b.kind = .transient) :
    s.payerFault p = some .invalid := by
  unfold State.payerFault; rw [h]; exact if_pos hk

theorem payerFault_open (h : s.account p = some b) (hk : b.kind = .prepaid ∨ b.kind = .credit) :
    s.payerFault p = if b.state = .closing then some .refusedState else none := by
  unfold State.payerFault
  rw [h]
  exact if_neg (by rcases hk with e | e <;> simp [e])

/-! ### The work -/

theorem loadAccountWork_malformed (h : f.asRecord = none) :
    loadAccountWork f s = unchanged (bare .invalid) s := by
  unfold loadAccountWork; rw [h]

theorem loadAccountWork_present (h : f.asRecord = some a) (hn : (s.account f.number).isSome) :
    loadAccountWork f s = unchanged (bare .exists_) s := by
  unfold loadAccountWork
  rw [h]
  exact if_pos (by rw [(asRecord_spelled h).1]; exact hn)

theorem loadAccountWork_full (h : f.asRecord = some a) (hn : s.account f.number = none)
    (hl : 1024 ≤ s.accounts.length) : loadAccountWork f s = unchanged (bare .full) s := by
  unfold loadAccountWork
  rw [h]
  dsimp only
  rw [(asRecord_spelled h).1, hn]
  exact if_pos hl

/-- The record passes the table's checks: what is left turns on its payer. -/
theorem loadAccountWork_new (h : f.asRecord = some a) (hn : s.account f.number = none)
    (hl : s.accounts.length < 1024) :
    (a.payer = none → loadAccountWork f s = (s.addAccount a, bare .ok)) ∧
      ∀ p, a.payer = some p →
        (∀ x, s.payerFault p = some x → loadAccountWork f s = unchanged (bare x) s) ∧
        (s.payerFault p = none → loadAccountWork f s = ((s.addAccount a).addMember p, bare .ok)) := by
  unfold loadAccountWork
  rw [h]
  dsimp only
  rw [(asRecord_spelled h).1, hn, Option.isSome_none, if_neg (by simp),
    if_neg (by simp only [Config.maxAccounts]; omega)]
  exact ⟨fun hp => by rw [hp], fun p hp => ⟨fun x hx => by rw [hp]; dsimp only; rw [hx],
    fun hx => by rw [hp]; dsimp only; rw [hx]⟩⟩

theorem keepsAllBut_addAccount (s : State) (a : Account) : KeepsAllBut [.accounts] s (s.addAccount a) :=
  keepsAllBut_of_ledger rfl (fun h => absurd (by decide) h) (fun _ => rfl) fun _ => rfl

/-- The answer that enters a record without payer. -/
theorem answers_loaded (hr : s.ready (.loadAccount f)) (h : f.asRecord = some a)
    (hn : s.account f.number = none) (hb : loadAccountWork f s = (s.addAccount a, bare .ok)) :
    Answers (.loadAccount f) s .ok [] [.accounts] fun t =>
      t.account f.number = some a ∧ KeepsOtherAccounts [f.number] s t := by
  have hnum := (asRecord_spelled h).1
  rw [← hnum] at hn ⊢
  refine answers_of_result hr rfl hb rfl rfl (keepsAllBut_addAccount s a) fun _ =>
    ⟨(account_addAccount s a hn _).trans (if_pos rfl), fun m hm =>
      (account_addAccount s a hn m).trans (if_neg (by simpa using hm))⟩

/-- The answer that enters a MEMBER, whose payer counts one member more (R19). -/
theorem answers_loadedMember (hr : s.ready (.loadAccount f)) (h : f.asRecord = some a)
    (hn : s.account f.number = none) (hp : s.account p = some b)
    (hb : loadAccountWork f s = ((s.addAccount a).addMember p, bare .ok)) :
    Answers (.loadAccount f) s .ok [] [.accounts] fun t =>
      t.account f.number = some a ∧ t.account p = some { b with memberCount := b.memberCount + 1 } ∧
        KeepsOtherAccounts [f.number, p] s t := by
  have hnum := (asRecord_spelled h).1
  rw [← hnum] at hn ⊢
  have hne : a.number ≠ p := by
    rintro rfl
    rw [hn] at hp
    cases hp
  have hadd := account_addAccount s a hn
  refine answers_of_result hr rfl hb rfl rfl
    (keepsAllBut_trans (keepsAllBut_addAccount s a) (keepsAllBut_modifyAccount _ p _)) fun _ =>
    ⟨(account_addMember_other (s.addAccount a) hne).trans ((hadd _).trans (if_pos rfl)),
      account_addMember_self (s := s.addAccount a) ((hadd p).trans (by rw [if_neg hne.symm, hp])), fun m hm => ?_⟩
  simp only [List.mem_cons, List.not_mem_nil, or_false, not_or] at hm
  exact (account_addMember_other (s.addAccount a) hm.2).trans ((hadd m).trans (if_neg hm.1))

/-- Settles O22: the cases of the work in the order of R18's checks, then the forms and their records. -/
theorem loadAccountCreatesTheRecord : Obligations.LoadAccountCreatesTheRecord := by
  refine ⟨fun s f hr => ⟨fun h => refuses_of_work hr rfl (loadAccountWork_malformed h), fun a h =>
    ⟨fun hn => refuses_of_work hr rfl (loadAccountWork_present h hn), fun hn =>
      ⟨fun hl => refuses_of_work hr rfl (loadAccountWork_full h hn hl), fun hl => ?_⟩⟩⟩,
    fun f => ⟨asRecord_isSome_spelled f, fun a => asRecord_spelled⟩⟩
  obtain ⟨hnone, hsome⟩ := loadAccountWork_new h hn hl
  refine ⟨fun p hp ha => ?_, fun p b hp hb => ⟨fun hk => ?_, fun hk hc => ?_, fun hk hc => ?_⟩, fun hp =>
    answers_loaded hr h hn (hnone hp)⟩
  · exact refuses_of_work hr rfl ((hsome p hp).1 _ (payerFault_absent ha))
  · exact refuses_of_work hr rfl ((hsome p hp).1 _ (payerFault_kind hb hk))
  · exact refuses_of_work hr rfl ((hsome p hp).1 _ ((payerFault_open hb hk).trans (if_pos hc)))
  · exact answers_loadedMember hr h hn hb ((hsome p hp).2 ((payerFault_open hb hk).trans (if_neg hc)))

end Sys2Proof.Machine
end

section
/-! SUPPORT. UPDATE ACCOUNT: which forms are valid, what they replace, and its work by cases (O23). -/

namespace Sys2Proof.Machine

variable {s : State} {f : UpdateForm} {a b c : Account} {p q : Nat}

/-! ### Valid forms (R20 check 3) -/

theorem UpdateForm.hasReservedBits_iff (f : UpdateForm) : f.hasReservedBits = false ↔
    ∀ bit : Fin 16, bit ∉ ([1, 3, 5, 7, 14, 15] : List (Fin 16)) → f.mask.getLsbD bit.val = false := by
  have hc : ∀ bit : Fin 16, (0x3F55#16).getLsbD bit.val = true ↔ bit ∉ ([1, 3, 5, 7, 14, 15] : List (Fin 16)) := by
    decide
  unfold UpdateForm.hasReservedBits
  rw [bne_eq_false_iff_eq, and_eq_zero_iff]
  exact forall_congr' fun bit => by rw [hc]

/-- Every field supplied is one that the kind carries (R20 check 3, R7). -/
theorem UpdateForm.suitsKind_iff (f : UpdateForm) (k : AccountKind) : f.suitsKind k = true ↔
    (f.mask.getLsbD 1 = true → k = .credit) ∧ (f.mask.getLsbD 3 = true → k = .member) ∧
      ((f.mask.getLsbD 5 = true → k = .member) ∧ (f.mask.getLsbD 14 = true → k = .member)) ∧
      (f.mask.getLsbD 7 = true → k ≠ .member) := by
  have himp : ∀ (x : Bool) (P : Prop), x = false ∨ P ↔ (x = true → P) := by
    intro x P; cases x <;> simp
  have hcap : (f.mask.getLsbD 5 = false ∧ f.mask.getLsbD 14 = false) ∨ k = .member ↔
      (f.mask.getLsbD 5 = true → k = .member) ∧ (f.mask.getLsbD 14 = true → k = .member) := by
    rw [← himp, ← himp, and_or_right]
  simp only [UpdateForm.suitsKind, UpdateForm.limit?, UpdateForm.payer?, UpdateForm.cap?, UpdateForm.schedule?,
    UpdateForm.removesCap, supplied_isNone, Bool.and_eq_true, Bool.or_eq_true, Bool.not_eq_true', beq_iff_eq,
    bne_iff_ne, hcap, himp, and_assoc]

theorem UpdateForm.inRange_iff (f : UpdateForm) : f.inRange = true ↔
    (f.mask.getLsbD 1 = true → 0 ≤ f.creditLimit ∧ f.creditLimit ≤ 10000000) ∧
      (f.mask.getLsbD 3 = true → 1 ≤ f.payer ∧ f.payer ≤ 59999) ∧
      (f.mask.getLsbD 5 = true → 0 ≤ f.periodCap ∧ f.periodCap ≤ 10000000) ∧
      (f.mask.getLsbD 7 = true → f.schedule ≤ 3) := by
  simp only [UpdateForm.inRange, Bool.and_eq_true, UpdateForm.limit?, UpdateForm.payer?, UpdateForm.cap?,
    UpdateForm.schedule?, supplied_all, centsWithin_iff, decide_eq_true_iff, Nat.lt_succ_iff, and_assoc]
  exact Iff.rfl

/-- Check 3 of R20 written out. -/
theorem UpdateForm.valid_spelled (f : UpdateForm) (kind : AccountKind) :
    f.valid kind = true ↔
      (∀ bit : Fin 16, bit ∉ ([1, 3, 5, 7, 14, 15] : List (Fin 16)) → f.mask.getLsbD bit.val = false) ∧
      f.mask.getLsbD 15 = false ∧ ¬(f.mask.getLsbD 5 = true ∧ f.mask.getLsbD 14 = true) ∧
      (f.mask.getLsbD 1 = true → kind = .credit ∧ 0 ≤ f.creditLimit ∧ f.creditLimit ≤ 10000000) ∧
      (f.mask.getLsbD 3 = true → kind = .member ∧ 1 ≤ f.payer ∧ f.payer ≤ 59999) ∧
      (f.mask.getLsbD 5 = true → kind = .member ∧ 0 ≤ f.periodCap ∧ f.periodCap ≤ 10000000) ∧
      (f.mask.getLsbD 14 = true → kind = .member) ∧
      (f.mask.getLsbD 7 = true → kind ≠ .member ∧ f.schedule ≤ 3) := by
  simp only [UpdateForm.valid, Bool.and_eq_true, Bool.not_eq_true', UpdateForm.hasReservedBits_iff,
    UpdateForm.suitsKind_iff, UpdateForm.inRange_iff, UpdateForm.hasKind, UpdateForm.removesCap,
    UpdateForm.cap?, supplied_isSome]
  rw [← Bool.not_eq_true (_ && _), Bool.and_eq_true]
  constructor
  · rintro ⟨⟨⟨⟨hm, hk⟩, hx⟩, s1, s3, ⟨s5, s14⟩, s7⟩, r1, r3, r5, r7⟩
    exact ⟨hm, hk, hx, fun h => ⟨s1 h, r1 h⟩, fun h => ⟨s3 h, r3 h⟩, fun h => ⟨s5 h, r5 h⟩, s14,
      fun h => ⟨s7 h, r7 h⟩⟩
  · rintro ⟨hm, hk, hx, h1, h3, h5, h14, h7⟩
    exact ⟨⟨⟨⟨hm, hk⟩, hx⟩, fun h => (h1 h).1, fun h => (h3 h).1, ⟨fun h => (h5 h).1, h14⟩,
      fun h => (h7 h).1⟩, fun h => (h1 h).2, fun h => (h3 h).2, fun h => (h5 h).2, fun h => (h7 h).2⟩

/-! ### The fields replaced -/

theorem UpdateForm.creditLimit_spelled (hv : f.inRange = true) (a : Account) :
    ((f.applyTo a).creditLimit : Int) =
      if f.mask.getLsbD 1 then f.creditLimit else (a.creditLimit : Int) := by
  have hr := ((UpdateForm.inRange_iff f).1 hv).1
  simp only [UpdateForm.applyTo, UpdateForm.limit?, supplied]
  split
  · next h => exact Int.toNat_of_nonneg (hr h).1
  · rfl

theorem UpdateForm.periodCap_spelled (f : UpdateForm) (a : Account) :
    (f.applyTo a).periodCap =
      if f.mask.getLsbD 14 then none
      else if f.mask.getLsbD 5 then some f.periodCap.toNat else a.periodCap := by
  simp only [UpdateForm.applyTo, UpdateForm.cap?, UpdateForm.removesCap, supplied]
  cases f.mask.getLsbD 5 <;> rfl

theorem UpdateForm.schedule_spelled (hv : f.inRange = true) (a : Account) :
    (f.applyTo a).schedule.val = if f.mask.getLsbD 7 then f.schedule else a.schedule.val := by
  have hr := ((UpdateForm.inRange_iff f).1 hv).2.2.2
  simp only [UpdateForm.applyTo, UpdateForm.schedule?, supplied]
  split
  · next h =>
    have h3 := hr h
    rw [Option.bind_some, fourOf_eq (by omega : f.schedule < 4)]
    rfl
  · rfl

theorem UpdateForm.payer_spelled (f : UpdateForm) (a : Account) :
    (f.applyTo a).payer = if f.mask.getLsbD 3 then some f.payer else a.payer := by
  simp only [UpdateForm.applyTo, UpdateForm.payer?, supplied]
  split <;> rfl

/-- When an update asks for a retry: a limit raised, or a cap raised or removed (R20, R66). -/
theorem UpdateForm.raises_iff (f : UpdateForm) (a : Account) : f.raises a = true ↔
    (f.mask.getLsbD 1 = true ∧ (a.creditLimit : Int) < f.creditLimit) ∨
      ∃ cap, a.periodCap = some cap ∧
        (f.mask.getLsbD 14 = true ∨ (f.mask.getLsbD 5 = true ∧ (cap : Int) < f.periodCap)) := by
  have hany : ∀ (bit : Nat) (x y : Int), (supplied f.mask bit x).any (fun z => decide (y < z)) = true ↔
      f.mask.getLsbD bit = true ∧ y < x := by
    intro bit x y
    unfold supplied
    split <;> simp_all
  unfold UpdateForm.raises UpdateForm.limit? UpdateForm.cap? UpdateForm.removesCap
  rw [Bool.or_eq_true, hany]
  refine or_congr Iff.rfl ?_
  cases a.periodCap with
  | none => exact ⟨fun h => (Bool.false_ne_true h).elim, fun ⟨_, h, _⟩ => nomatch h⟩
  | some cap =>
    show (f.mask.getLsbD 14 || (supplied f.mask 5 f.periodCap).any fun x => decide ((cap : Int) < x)) = true ↔ _
    rw [Bool.or_eq_true, hany]
    simp

/-! ### The table after an update -/

/-- The account table that an update leaves: the fields replaced, then the member counts moved (R20). -/
def State.updatedTable (s : State) (f : UpdateForm) (a : Account) : State :=
  match f.payer? with
  | none => s.modifyAccount a.number f.applyTo
  | some p => (s.modifyAccount a.number f.applyTo).movePayer a.payer p

/-- An update is its table and the retry it asks for. -/
theorem updateAccount_eq (s : State) (f : UpdateForm) (a : Account) : s.updateAccount f a =
    if f.raises a then (s.updatedTable f a).askRetry (f.applyTo a).billingNumber else s.updatedTable f a := by
  unfold State.updateAccount State.updatedTable
  cases f.payer? <;> rfl

theorem onlyAccounts_updatedTable (s : State) (f : UpdateForm) (a : Account) :
    OnlyAccounts s (s.updatedTable f a) := by
  unfold State.updatedTable State.movePayer
  (repeat' split) <;> rfl

theorem tokens_updatedTable (s : State) (f : UpdateForm) (a : Account) :
    (s.updatedTable f a).tokens = s.tokens := by
  unfold State.updatedTable State.movePayer
  (repeat' split) <;> rfl

theorem onlyAccounts_retryOwed {s t : State} (h : OnlyAccounts s t) : t.retryOwed = s.retryOwed := by rw [h]

theorem keepsAllBut_updateAccount (s : State) (f : UpdateForm) (a : Account) :
    KeepsAllBut [.accounts, .retries] s (s.updateAccount f a) := by
  have h1 : KeepsAllBut [.accounts, .retries] s (s.updatedTable f a) := by
    intro r hr
    by_cases ht : r = .tokens
    · rw [ht]; exact tokens_updatedTable s f a
    · refine (onlyAccounts_updatedTable s f a).keepsAllBut r ?_
      simp only [List.mem_cons, List.not_mem_nil, or_false, not_or] at hr ⊢
      exact ⟨hr.1, ht⟩
  rw [updateAccount_eq]
  split
  · exact keepsAllBut_trans h1
      (keepsAllBut_of_ledger rfl (fun _ => rfl) (fun _ => rfl) fun h => absurd (by decide) h)
  · exact h1

theorem account_of_accounts {s t : State} (h : t.accounts = s.accounts) (m : Nat) : t.account m = s.account m := by
  unfold State.account; rw [h]

/-- What an accepted update answers with: the accounts of its table and the retry it asks for. -/
theorem answers_updated (hr : s.ready (.updateAccount f))
    (hb : updateAccountWork f s = (s.updateAccount f a, bare .ok)) :
    Answers (.updateAccount f) s .ok [] [.accounts, .retries] fun t =>
      (∀ m, t.account m = (s.updatedTable f a).account m) ∧
        t.retryOwed =
          if f.raises a then s.retryOwed ++ [(f.applyTo a).billingNumber] else s.retryOwed := by
  have o := onlyAccounts_updatedTable s f a
  have hacc : (s.updateAccount f a).accounts = (s.updatedTable f a).accounts := by
    rw [updateAccount_eq]; split <;> rfl
  have hlink : (s.updateAccount f a).link = s.link := by
    rw [updateAccount_eq, ← onlyAccounts_link o]; split <;> rfl
  have hreset : (s.updateAccount f a).resetLow = s.resetLow := by
    rw [updateAccount_eq, ← onlyAccounts_resetLow o]; split <;> rfl
  have howed : (s.updateAccount f a).retryOwed =
      if f.raises a then s.retryOwed ++ [(f.applyTo a).billingNumber] else s.retryOwed := by
    rw [updateAccount_eq, ← onlyAccounts_retryOwed o]; split <;> rfl
  exact answers_of_result hr rfl hb hlink hreset (keepsAllBut_updateAccount s f a) fun _ =>
    ⟨account_of_accounts hacc, howed⟩

/-- Without a payer, or with the present one, only the record itself is replaced. -/
theorem updatedTable_same (h : f.payer? = none ∨ f.payer? = a.payer) :
    s.updatedTable f a = s.modifyAccount a.number f.applyTo := by
  unfold State.updatedTable State.movePayer
  split
  · rfl
  · next p hp =>
    rw [hp] at h
    rw [if_pos]
    rcases h with h | h
    · cases h
    · exact h.symm

theorem updatedTable_moved (hp : f.payer? = some p) (hq : a.payer = some q) (hne : p ≠ q) :
    s.updatedTable f a = ((s.modifyAccount a.number f.applyTo).dropMember q).addMember p := by
  unfold State.updatedTable State.movePayer
  rw [hp, hq]
  exact if_neg (by simpa using hne.symm)

theorem account_updatedTable_same {n : Nat} (ha : s.account n = some a)
    (h : f.payer? = none ∨ f.payer? = a.payer) :
    (s.updatedTable f a).account n = some (f.applyTo a) ∧ KeepsOtherAccounts [n] s (s.updatedTable f a) := by
  obtain rfl := State.account_number s ha
  rw [updatedTable_same h]
  exact ⟨account_modifyAccount_self ha fun _ => rfl, keepsOtherAccounts_modifyAccount s _ fun _ => rfl⟩

/-- A member that changes its payer: the record, the two member counts, and the others as before. -/
theorem account_updatedTable_moved {n : Nat} (ha : s.account n = some a) (hp : f.payer? = some p)
    (hq : a.payer = some q) (hne : p ≠ q) (hc : s.account q = some c) (hb : s.account p = some b)
    (hqn : q ≠ n) (hpn : p ≠ n) :
    (s.updatedTable f a).account n = some (f.applyTo a) ∧
      (s.updatedTable f a).account q = some { c with memberCount := c.memberCount - 1 } ∧
      (s.updatedTable f a).account p = some { b with memberCount := b.memberCount + 1 } ∧
      KeepsOtherAccounts [n, p, q] s (s.updatedTable f a) := by
  obtain rfl := State.account_number s ha
  have h1 := account_modifyAccount_self (f := f.applyTo) ha fun _ => rfl
  have h2 := keepsOtherAccounts_modifyAccount s a.number (f := f.applyTo) fun _ => rfl
  rw [updatedTable_moved hp hq hne]
  generalize s.modifyAccount a.number f.applyTo = u at h1 h2
  have hother : ∀ m, m ≠ p → m ≠ q → ((u.dropMember q).addMember p).account m = u.account m := fun m e1 e2 =>
    (account_addMember_other _ e1).trans (account_dropMember_other u e2)
  refine ⟨(hother _ hpn.symm hqn.symm).trans h1, ?_, ?_, fun m hm => ?_⟩
  · exact (account_addMember_other _ hne.symm).trans
      (account_dropMember_self ((h2 q (by simpa using hqn)).trans hc))
  · exact account_addMember_self
      ((account_dropMember_other u hne).trans ((h2 p (by simpa using hpn)).trans hb))
  · simp only [List.mem_cons, List.not_mem_nil, or_false, not_or] at hm
    exact (hother m hm.2.1 hm.2.2).trans (h2 m (by simpa using hm.1))

/-! ### The work -/

/-- What is left of UPDATE ACCOUNT's work for a record that is not TRANSIENT and a valid form. -/
theorem updateAccountWork_valid (ha : s.account f.number = some a) (hk : a.kind ≠ .transient)
    (hv : f.valid a.kind = true) :
    (f.payer? = none → updateAccountWork f s = (s.updateAccount f a, bare .ok)) ∧
      ∀ p, f.payer? = some p →
        (0 < a.openJobs → updateAccountWork f s = unchanged (bare .busy) s) ∧
        (a.openJobs = 0 →
          (∀ x, s.payerFault p = some x → updateAccountWork f s = unchanged (bare x) s) ∧
          (s.payerFault p = none → updateAccountWork f s = (s.updateAccount f a, bare .ok))) := by
  unfold updateAccountWork
  rw [withAccount_some ha, if_neg hk, hv, if_neg (by simp)]
  refine ⟨fun hp => ?_, fun p hp => ⟨fun hj => ?_, fun hj => ⟨fun x hx => ?_, fun hx => ?_⟩⟩⟩
  · rw [hp, if_neg (by simp)]
    rfl
  · rw [hp, if_pos ⟨rfl, hj⟩]
  · rw [hp, if_neg (by omega), Option.bind_some, hx]
  · rw [hp, if_neg (by omega), Option.bind_some, hx]

/-- The answer of a member given a payer: the record, and the member counts when the payer is another. -/
theorem answers_repaid (hr : s.ready (.updateAccount f)) (ha : s.account f.number = some a)
    (hb : updateAccountWork f s = (s.updateAccount f a, bare .ok)) (hp : f.payer? = some p)
    (hpb : s.account p = some b) (hq : a.payer = some q) (hc : s.account q = some c) (hqn : q ≠ f.number)
    (hpn : p ≠ f.number) :
    Answers (.updateAccount f) s .ok [] [.accounts, .retries] fun t =>
      t.account f.number = some (f.applyTo a) ∧
        t.retryOwed =
          (if f.raises a then s.retryOwed ++ [(f.applyTo a).billingNumber] else s.retryOwed) ∧
        (p = q → KeepsOtherAccounts [f.number] s t) ∧
        (p ≠ q → t.account q = some { c with memberCount := c.memberCount - 1 } ∧
          t.account p = some { b with memberCount := b.memberCount + 1 } ∧
          KeepsOtherAccounts [f.number, p, q] s t) := by
  refine (answers_updated hr hb).imp fun t ⟨ht, hz⟩ => ?_
  by_cases hne : p = q
  · obtain ⟨h1, h2⟩ := account_updatedTable_same (f := f) ha (.inr (by rw [hp, hq, hne]))
    exact ⟨(ht _).trans h1, hz, fun _ m hm => (ht m).trans (h2 m hm), fun h => absurd hne h⟩
  · obtain ⟨h1, h2, h3, h4⟩ := account_updatedTable_moved ha hp hq hne hc hpb hqn hpn
    exact ⟨(ht _).trans h1, hz, fun h => absurd h hne, fun _ =>
      ⟨(ht q).trans h2, (ht p).trans h3, fun m hm => (ht m).trans (h4 m hm)⟩⟩

/-- Settles O23: the checks in their order, the table after the update, and the forms written out. -/
theorem updateAccountReplacesFields : Obligations.UpdateAccountReplacesFields := by
  refine ⟨fun s f a hr ha hk hv => ?_, fun s f hr => ⟨fun ha => refuses_of_work hr rfl (withAccount_none ha),
    fun a ha => ⟨fun hk => ?_, fun hk hv => ?_⟩⟩, fun f kind => ⟨rfl, UpdateForm.valid_spelled f kind⟩, fun f a hv => ?_⟩
  · obtain ⟨hnone, hsome⟩ := updateAccountWork_valid ha hk hv
    refine ⟨fun hp => ?_, fun p hp => ?_⟩
    · obtain ⟨h1, h2⟩ := account_updatedTable_same (f := f) ha (.inl hp)
      exact (answers_updated hr (hnone hp)).imp fun t ⟨ht, hz⟩ =>
        ⟨(ht _).trans h1, fun m hm => (ht m).trans (h2 m hm), hz⟩
    · obtain ⟨hbusy, hfree⟩ := hsome p hp
      refine ⟨fun hj => refuses_of_work hr rfl (hbusy hj), fun hj => ?_⟩
      obtain ⟨hfault, hok⟩ := hfree hj
      refine ⟨fun hb => ?_, fun b hb => ⟨fun hkb => ?_, fun hkb hc => ?_, fun hkb hc q c hq hqc hqn hpn => ?_⟩⟩
      · exact refuses_of_work hr rfl (hfault _ (payerFault_absent hb))
      · exact refuses_of_work hr rfl (hfault _ (payerFault_kind hb hkb))
      · exact refuses_of_work hr rfl (hfault _ ((payerFault_open hb hkb).trans (if_pos hc)))
      · exact answers_repaid hr ha (hok ((payerFault_open hb hkb).trans (if_neg hc))) hp hb hq hqc hqn hpn
  · exact refuses_of_work hr rfl ((withAccount_some ha).trans (if_pos hk))
  · exact refuses_of_work hr rfl ((withAccount_some ha).trans (by rw [if_neg hk, hv]; rfl))
  · have hrange : f.inRange = true := (Bool.and_eq_true _ _ ▸ hv).2
    exact ⟨UpdateForm.creditLimit_spelled hrange a, UpdateForm.periodCap_spelled f a,
      UpdateForm.schedule_spelled hrange a, UpdateForm.payer_spelled f a, rfl, UpdateForm.raises_iff f a⟩

end Sys2Proof.Machine
end

section
/-! SUPPORT. OPEN JOB: the opening checks one by one, the new job record, and what the opening does to
accounts, station and display (O37). -/

namespace Sys2Proof.Machine

variable {s t : State} {i : StationId} {u b : Account} {n : Nat}

/-! ### Lookups in a table mapped -/

/-- A lookup in a table whose records are changed one by one. -/
theorem account_of_map {g : Account → Account} (ht : t.accounts = s.accounts.map g)
    (hg : ∀ a, (g a).number = a.number) (m : Nat) : t.account m = (s.account m).map g := by
  have hc : ((fun a : Account => a.number == m) ∘ g) = fun a => a.number == m := by
    funext a
    simp only [Function.comp, hg]
  unfold State.account
  rw [ht, List.find?_map, hc]

theorem withStation_val (i : StationId) (body : StationId → State → State × Response) :
    withStation i.val body s = body i s := by
  have h : stationOf i.val = some i := dif_pos i.isLt
  unfold withStation
  rw [h]

/-! ### The opening checks (Table 3-2) -/

theorem openingCheck_notIdle (h : (s.station i).state ≠ .idle) : s.openingCheck i u false = some 1 :=
  if_pos h

theorem openingCheck_undefined (h : (s.station i).state = .idle) (hd : (s.tariffOf i).isDefined = false) :
    s.openingCheck i u false = some 2 := by
  unfold State.openingCheck
  rw [if_neg (by simpa using h), if_pos (by simp [hd])]

theorem openingCheck_inactive (h : (s.station i).state = .idle) (hd : (s.tariffOf i).isDefined = true)
    (hu : u.state ≠ .active) : s.openingCheck i u false = some 3 := by
  unfold State.openingCheck
  rw [if_neg (by simpa using h), if_neg (by simp [hd]), if_pos (by simp [hu])]

/-- For an ACTIVE user at an IDLE station with a tariff, the last two checks are left. -/
theorem openingCheck_active (h : (s.station i).state = .idle) (hd : (s.tariffOf i).isDefined = true)
    (hu : u.state = .active) (hb : s.account u.billingNumber = some b) :
    s.openingCheck i u false =
      if b.isBarred then some 4
      else if s.available u < ((s.tariffOf i).startThreshold : Int) then some 5 else none := by
  unfold State.openingCheck State.billingAccount
  rw [if_neg (by simpa using h), if_neg (by simp [hd]), if_neg (by simp [hu]), hb, Option.any_some]

theorem isBarred_iff (b : Account) : b.isBarred = true ↔ b.state = .blocked ∨ b.state = .closing := by
  simp only [Account.isBarred, Bool.or_eq_true, beq_iff_eq]

/-! ### The available amount and the hold (R8, R55) -/

theorem available_own (h : u.payer = none) :
    s.available u = u.balance + (u.creditLimit : Int) - (u.held : Int) := by
  unfold State.available
  rw [h]
  rfl

/-- A MEMBER's available amount is that of its payer, bounded by what is left of its cap. -/
theorem available_member (hp : u.payer = some b.number) (hb : s.account b.number = some b) :
    (u.periodCap = none → s.available u = b.balance + (b.creditLimit : Int) - (b.held : Int)) ∧
      ∀ cap, u.periodCap = some cap →
        s.available u = min (b.balance + (b.creditLimit : Int) - (b.held : Int))
          ((cap : Int) - (u.periodCharges : Int) - (u.memberHeld : Int)) := by
  unfold State.available
  rw [hp]
  dsimp only
  rw [hb]
  exact ⟨fun h => by rw [h]; rfl, fun cap h => by rw [h]; rfl⟩

theorem openingHold_eq (h : u.kind ≠ .transient) : (s.openingHold i u : Int) =
    min ((s.tariffOf i).holdQuantum : Int) (min (max 0 (s.available u)) 1000000) := by
  unfold State.openingHold
  rw [if_neg h]
  simp only [Config.jobCeiling]
  omega

/-! ### The new job record (R57, Table 3-1) -/

theorem openingSchedule_eq (hb : s.account u.billingNumber = some b) :
    s.openingSchedule u = if u.kind = .transient then s.globals.walkupSchedule else b.schedule := by
  unfold State.openingSchedule State.billingAccount
  rw [hb]
  rfl

/-- Every field of the new job. -/
theorem newJob_spelled {d : Tariff} {k : Fin 4} (y : OpenedBy) (hd : s.tariffOf i = d)
    (hk : s.openingSchedule u = k) : s.newJob i u y =
      { user := u.number, billing := u.payer.getD u.number
        kind := if u.kind = .transient then .card else .account
        openedBy := y, authRef := u.walkup.map Walkup.authRef
        snapshot :=
          { letter := (s.station i).tariff, scheduleNumber := k, prices := d.prices
            reserve := d.reserve, holdQuantum := d.holdQuantum, jobMinimum := d.jobMinimum
            schedule := s.schedules[k] }
        hold := s.openingHold i u, accrued := 0, nextSeq := 1, pricedSheets := 0
        billed := #v[0, 0, 0, 0, 0, 0, 0, 0], billedImpressions := 0, voidedSheets := 0
        voidedImpressions := 0, jams := 0, overruns := 0, unpricedFeeds := 0, strayExits := 0
        endRequest := none, idleTimer := some (s.globals.idleTimeout * 10000) } := by
  subst hd hk
  rw [← zeroCounts_eq]
  rfl

/-! ### The opening (R57) -/

theorem account_openAt (s : State) (i : StationId) (u : Account) (y : OpenedBy) (m : Nat) :
    (s.openAt i u y).account m =
      (s.account m).map (Account.staked u.number u.billingNumber (s.openingHold i u)) :=
  account_of_map (accounts_openAt s i u y) (fun _ => rfl) m

theorem reader_placeHold (s : State) (j : Job) (k : StationId) : (s.placeHold j).reader k = s.reader k := by
  unfold State.placeHold
  dsimp only
  split <;> rfl

theorem bus_placeHold (s : State) (j : Job) : (s.placeHold j).bus = s.bus := by
  unfold State.placeHold
  dsimp only
  split <;> rfl

theorem keepsAllBut_placeHold (s : State) (j : Job) : KeepsAllBut [.accounts] s (s.placeHold j) := by
  unfold State.placeHold
  dsimp only
  split
  · exact keepsAllBut_modifyAccount s _ _
  · exact keepsAllBut_trans (keepsAllBut_modifyAccount s _ _) (keepsAllBut_modifyAccount _ _ _)

theorem keepsAllBut_openAt (s : State) (i : StationId) (u : Account) (y : OpenedBy) :
    KeepsAllBut [.accounts, .stations, .readers] s (s.openAt i u y) :=
  keepsAllBut_trans (keepsAllBut_mono (keepsAllBut_modifyStation s i _) (by decide))
    (keepsAllBut_trans (keepsAllBut_mono (keepsAllBut_placeHold _ _) (by decide))
      (keepsAllBut_mono (keepsAllBut_placeDisplay _ i _) (by decide)))

theorem shownOn_openAt (s : State) (i : StationId) (u : Account) (y : OpenedBy) :
    ShownOn i (.welcome (s.available u).toNat) s (s.openAt i u y) :=
  shownOn_placeDisplay rfl (reader_placeHold _ _ i) (bus_placeHold _ _)

theorem keepsOtherReaders_openAt (s : State) (i : StationId) (u : Account) (y : OpenedBy) :
    KeepsOtherReaders i s (s.openAt i u y) := fun k hk =>
  (keepsOtherReaders_placeDisplay _ i _ k hk).trans (reader_placeHold _ _ k)

/-- Accounts that are neither user nor billing account keep their records at an opening. -/
theorem staked_other {a : Account} {u b c : Nat} (hu : a.number ≠ u) (hb : a.number ≠ b) :
    a.staked u b c = a := by
  simp [Account.staked, Account.raised, hu, hb]

theorem staked_alone {a : Account} {c : Nat} :
    a.staked a.number a.number c = { a with held := a.held + c, openJobs := a.openJobs + 1 } := by
  simp [Account.staked, Account.raised]

theorem staked_user {a : Account} {b c : Nat} (h : a.number ≠ b) :
    a.staked a.number b c = { a with memberHeld := a.memberHeld + c, openJobs := a.openJobs + 1 } := by
  simp [Account.staked, Account.raised, h]

theorem staked_billing {a : Account} {u c : Nat} (h : a.number ≠ u) :
    a.staked u a.number c = { a with held := a.held + c, openJobs := a.openJobs + 1 } := by
  simp [Account.staked, Account.raised, h]

/-- The accounts after an opening: user and billing account with the hold, the others as before. -/
theorem accounts_opened (y : OpenedBy) (hu : s.account n = some u) (hb : s.account u.billingNumber = some b) :
    KeepsOtherAccounts [n, b.number] s (s.openAt i u y) ∧
      (u.payer = none → (s.openAt i u y).account n =
        some { u with held := u.held + s.openingHold i u, openJobs := u.openJobs + 1 }) ∧
      ∀ p, u.payer = some p → p ≠ n →
        (s.openAt i u y).account n =
            some { u with memberHeld := u.memberHeld + s.openingHold i u, openJobs := u.openJobs + 1 } ∧
          (s.openAt i u y).account p =
            some { b with held := b.held + s.openingHold i u, openJobs := b.openJobs + 1 } := by
  obtain rfl := State.account_number s hu
  have hbn := State.account_number s hb
  refine ⟨fun m hm => ?_, fun hp => ?_, fun p hp hne => ?_⟩
  · simp only [List.mem_cons, List.not_mem_nil, or_false, not_or] at hm
    rw [account_openAt]
    cases ha : s.account m with
    | none => rfl
    | some a =>
      obtain rfl := State.account_number s ha
      rw [Option.map_some, staked_other hm.1 (hbn ▸ hm.2)]
  · have hself : u.billingNumber = u.number := by rw [Account.billingNumber, hp]; rfl
    rw [account_openAt, hu, Option.map_some, hself, staked_alone]
  · have hpay : u.billingNumber = p := by rw [Account.billingNumber, hp]; rfl
    rw [hpay] at hb hbn
    refine ⟨?_, ?_⟩
    · rw [account_openAt, hu, Option.map_some, hpay, staked_user hne.symm]
    · rw [account_openAt, hb, Option.map_some, hpay, ← hbn, staked_billing (by rw [hbn]; exact hne)]

/-! ### The work -/

theorem openJobWork_absent (hu : s.account n = none) :
    openJobWork i.val n s = unchanged (bare .notFound) s :=
  (withStation_val i _).trans (withAccount_none hu)

theorem openJobWork_refused {k : Nat} (hu : s.account n = some u) (hc : s.openingCheck i u false = some k) :
    openJobWork i.val n s = unchanged (answer (openRefusal k) (count 1 k)) s := by
  refine (withStation_val i _).trans ((withAccount_some hu).trans ?_)
  rw [hc]

theorem openJobWork_opened (hu : s.account n = some u) (hc : s.openingCheck i u false = none) :
    openJobWork i.val n s =
      (s.openAt i u .host, answer .ok (beCents (s.openingHold i u) ++ beCents (s.available u))) := by
  refine (withStation_val i _).trans ((withAccount_some hu).trans ?_)
  rw [hc]

/-- The answer of an OPEN JOB that opens. -/
theorem answers_opened (hr : s.ready (.openJob i.val n)) (hu : s.account n = some u)
    (hc : s.openingCheck i u false = none) (hb : s.account u.billingNumber = some b) :
    Answers (.openJob i.val n) s .ok (beCents (s.openingHold i u) ++ beCents (s.available u))
      [.accounts, .stations, .readers] fun t =>
      KeepsOtherStations i s t ∧ KeepsOtherReaders i s t ∧ KeepsOtherAccounts [n, b.number] s t ∧
        (t.station i).undriven =
          ({ s.station i with job := some (s.newJob i u .host), state := .running } : Station).undriven ∧
        ShownOn i (.welcome (s.available u).toNat) s t ∧
        (u.payer = none →
          t.account n = some { u with held := u.held + s.openingHold i u, openJobs := u.openJobs + 1 }) ∧
        ∀ p, u.payer = some p → p ≠ n →
          t.account n =
              some { u with memberHeld := u.memberHeld + s.openingHold i u, openJobs := u.openJobs + 1 } ∧
            t.account p =
              some { b with held := b.held + s.openingHold i u, openJobs := b.openJobs + 1 } := by
  obtain ⟨-, hreset, hlink, -⟩ := board_eq (board_openAt (s := s) i u .host)
  obtain ⟨hothers, halone, hmember⟩ := accounts_opened (i := i) .host hu hb
  refine answers_of_result hr rfl (openJobWork_opened hu hc) hlink hreset
    (keepsAllBut_openAt s i u .host) fun l => ⟨fun k hk => ?_, keepsOtherReaders_openAt s i u .host, hothers, ?_,
      shownOn_openAt s i u .host, halone, hmember⟩
  · exact undriven_answered ((station_openAt s i k u .host).trans (if_neg hk)) l
  · exact undriven_answered ((station_openAt s i i u .host).trans (if_pos rfl)) l

/-- Settles O37: refusals by the number of the failed check, the opening by `answers_opened`, then the
checks, the hold and the job record written out. -/
theorem openJobOpensTheJob : Obligations.OpenJobOpensTheJob := by
  refine ⟨fun s i n hr => ⟨fun hu => refuses_of_work hr rfl (openJobWork_absent hu), fun u hu =>
    ⟨fun refusal hm hc => ?_, fun b hc hb => answers_opened hr hu hc hb⟩⟩, fun s i u b hb =>
    ⟨openingCheck_notIdle, openingCheck_undefined, openingCheck_inactive, fun h hd hu => ⟨fun hs => ?_,
      fun h1 h2 => ⟨fun hl => ?_, fun hl => ?_⟩⟩, openingHold_eq, available_own, fun hp => ?_⟩,
    fun s i u b y d n hb _ hd hn => ⟨hd.symm, newJob_spelled y hd.symm ((openingSchedule_eq hb).trans hn.symm)⟩⟩
  · have hw := answers_of_unchanged hr rfl (openJobWork_refused hu hc)
    simp only [List.mem_cons, List.not_mem_nil, or_false] at hm
    rcases hm with rfl | rfl | rfl | rfl | rfl <;> exact hw
  · rw [openingCheck_active h hd hu hb, if_pos ((isBarred_iff b).2 hs)]
  · rw [openingCheck_active h hd hu hb, if_neg (by rw [isBarred_iff]; tauto), if_pos hl]
  · rw [openingCheck_active h hd hu hb, if_neg (by rw [isBarred_iff]; tauto), if_neg (by omega)]
  · have hbn : u.billingNumber = b.number := by rw [Account.billingNumber, hp]; rfl
    obtain ⟨hfree, hcapped⟩ := available_member hp (hbn ▸ hb)
    cases hcap : u.periodCap with
    | none => exact hfree hcap
    | some cap => exact hcapped cap hcap

end Sys2Proof.Machine
end

section
/-! SUPPORT. Pricing and voiding a sheet, with the forced hold written as one amount (O44). -/

namespace Sys2Proof.Machine

variable {s : State} {i : StationId} {j : Job} {b u : Account} {c : SheetClass}

/-! ### The forced hold as one amount -/

theorem overrunCents_eq (j : Job) (amount : Nat) :
    j.overrunCents amount = (amount - (j.hold * 100000 - j.accrued) + 99999) / 100000 := rfl

/-- A hold is forced exactly when the amount in cents is above 0 (R63). -/
theorem headroom_lt_iff (j : Job) (amount : Nat) : j.headroom < amount ↔ 0 < j.overrunCents amount := by
  have h : j.overrunCents amount = (amount - j.headroom + 99999) / 100000 := rfl
  omega

theorem forcedCents_eq (j : Job) (amount : Nat) :
    (if j.headroom < amount then j.overrunCents amount else 0) = j.overrunCents amount := by
  have h := headroom_lt_iff j amount
  split <;> omega

theorem raised_zero (u b : Nat) (a : Account) : a.raised u b 0 = a := by
  simp [Account.raised]

/-- The accounts after a forced hold, which may be of 0 cents. -/
theorem account_forceHold_raised (s : State) (i : StationId) (j : Job) (x m : Nat) :
    (s.forceHold i j x).account m = (s.account m).map (Account.raised j.user j.billing (j.overrunCents x)) := by
  rw [account_forceHold]
  split
  · exact account_of_map (accounts_raiseHold s i j _) (fun _ => rfl) m
  · next h =>
    have h0 : j.overrunCents x = 0 := by rw [headroom_lt_iff] at h; omega
    rw [h0, funext (raised_zero j.user j.billing), Option.map_id']

/-! ### The sheet and the records -/

/-- The ordinal the next sheet takes: one more than the meter, which stays at its top (R41, R42). -/
theorem billingMeter_next (hb : s.account j.billing = some b) (hm : b.meterSaturated = false → b.meter < 16777215) :
    (s.billingMeter j).advance.value = if b.meterSaturated then 16777215 else b.meter + 1 := by
  unfold State.billingMeter MeterFigure.advance
  rw [hb]
  cases h : b.meterSaturated with
  | true => simp [Account.meterFigure, h, Config.meterTop]
  | false =>
    have := hm h
    simp only [Account.meterFigure, h, Config.meterTop, Option.map_some, Option.getD_some, Bool.false_eq_true,
      if_false]
    omega

/-- The sheet priced, its ordinal and its amount written out. -/
theorem pricedSheet_spelled {first : Nat} (hf : (s.billingMeter j).advance.value = first) :
    s.pricedSheet j c =
      { seqNo := j.nextSeq, cls := c, firstOrdinal := first, impressions := if c.duplex then 2 else 1
        amount := sheetAmount j.snapshot c first } := by
  unfold State.pricedSheet
  rw [hf]
  rfl

theorem station_priceSheet_spelled {extra amount : Nat} (hj : (s.station i).job = some j)
    (ha : (s.pricedSheet j c).amount = amount) (he : j.overrunCents amount = extra) :
    (s.priceSheet i j c).station i =
      { s.station i with
        alarms :=
          { (s.station i).alarms with overrun := (s.station i).alarms.overrun || decide (0 < extra) }
        job := some
          { j with
            hold := j.hold + extra
            overruns := if 0 < extra then min (j.overruns + 1) 65535 else j.overruns
            accrued := j.accrued + amount
            nextSeq := if j.nextSeq = 65535 then 1 else j.nextSeq + 1
            pricedSheets := min (j.pricedSheets + 1) 4294967295 } } := by
  rw [station_priceSheet s i j c hj, ha, forcedCents_eq, he]
  simp only [headroom_lt_iff, he]
  rfl

/-- The billing account after a priced sheet: the hold, then the meter. -/
theorem account_priceSheet_billing {extra impressions : Nat} (hb : s.account j.billing = some b)
    (hm : b.meterSaturated = false → b.meter < 16777215) (ht : b.meterSaturated = true → b.meter = 16777215)
    (hi : c.impressions = impressions) (he : j.overrunCents (s.pricedSheet j c).amount = extra) :
    (s.priceSheet i j c).account j.billing =
      some
        { b with
          meter := min (b.meter + impressions) 16777215
          meterSaturated := b.meterSaturated || decide (16777215 ≤ b.meter + impressions)
          held := b.held + extra } := by
  have hr : b.raised j.user j.billing extra = { b with held := b.held + extra } := by
    have hn := State.account_number s hb
    simp +contextual [Account.raised, hn, eq_comm]
  have hw := withMeter_advanceBy { b with held := b.held + extra } c hm ht
  rw [account_priceSheet, account_forceHold_raised, hb, he, Option.map_some, Option.map_some, if_pos rfl, hr,
    show (s.pricedSheet j c).impressions = c.impressions from rfl, hw, hi]

theorem account_priceSheet_user {extra : Nat} (hne : j.user ≠ j.billing) (hu : s.account j.user = some u)
    (he : j.overrunCents (s.pricedSheet j c).amount = extra) :
    (s.priceSheet i j c).account j.user = some { u with memberHeld := u.memberHeld + extra } := by
  have hr : u.raised j.user j.billing extra = { u with memberHeld := u.memberHeld + extra } := by
    simp [Account.raised, State.account_number s hu, hne]
  rw [account_priceSheet, account_forceHold_raised, hu, he, Option.map_some, Option.map_some, if_neg hne, hr]

/-! ### A void (R48) -/

theorem keepsAllBut_voidSheet (s : State) (i : StationId) (x : Sheet) :
    KeepsAllBut [.accounts, .stations] s (State.voidSheet i s x) := by
  unfold State.voidSheet
  split
  · exact keepsAllBut_refl _ s
  · exact keepsAllBut_trans (keepsAllBut_mono (keepsAllBut_modifyAccount s _ _) (by decide))
      (keepsAllBut_mono (keepsAllBut_modifyStation _ i _) (by decide))

theorem station_voidSheet (hj : (s.station i).job = some j) (x : Sheet) :
    (State.voidSheet i s x).station i =
      { s.station i with
        job := some
          { j with
            accrued := j.accrued - x.amount
            voidedSheets := min (j.voidedSheets + 1) 4294967295
            voidedImpressions := min (j.voidedImpressions + x.impressions) 4294967295 } } := by
  rw [voidSheet_eq hj, State.station_modifyJob_self]
  show ({ s.station i with job := (s.station i).job.map _ } : Station) = _
  rw [hj]
  rfl

theorem keepsOtherStations_voidSheet (hj : (s.station i).job = some j) (x : Sheet) :
    KeepsOtherStations i s (State.voidSheet i s x) := by
  rw [voidSheet_eq hj]
  exact keepsOtherStations_modifyStation _ i _

/-- Settles O44: the sheet, its frame, station and accounts; then the void. -/
theorem pricingAccruesAndVoidsWithdraw : Obligations.PricingAccruesAndVoidsWithdraw := by
  refine ⟨fun s i j b c hj hb hm ht first impressions amount extra hf hi ha he => ?_, fun s i j b x hj hb =>
    ⟨keepsAllBut_voidSheet s i x, keepsOtherStations_voidSheet hj x, fun m hm => ?_, ?_, station_voidSheet hj x⟩⟩
  · have hsheet := pricedSheet_spelled (c := c) ((billingMeter_next hb hm).trans hf.symm)
    rw [← hi, ← ha] at hsheet
    have hamount : (s.pricedSheet j c).amount = amount := by rw [hsheet]
    have hextra : j.overrunCents amount = extra := (overrunCents_eq j amount).trans he.symm
    obtain ⟨hkeeps, hothers⟩ := priceSheet_frame s i j c
    exact ⟨hsheet, hkeeps, hothers, keepsOtherAccounts_priceSheet s i j c,
      station_priceSheet_spelled hj hamount hextra,
      account_priceSheet_billing hb hm ht hi.symm (hamount.symm ▸ hextra),
      fun u hne hu => account_priceSheet_user hne hu (hamount.symm ▸ hextra)⟩
  · rw [account_voidSheet hj, if_neg (by simpa using hm)]
  · rw [account_voidSheet hj, if_pos rfl, hb, Option.map_some]

end Sys2Proof.Machine
end

section
/-! SUPPORT. What a settlement leaves in the account table and the token index: money and period figures,
then the accounts of the job closed one after the other (O39). -/

namespace Sys2Proof.Machine

variable {s : State} {i : StationId} {dest : StationState} {j : Job} {a b u : Account} {c n : Nat}

/-! ### Money and period figures (R74, R75) -/

/-- The charge taken from the billing account, its hold released (R74). -/
def Account.charged (j : Job) (a : Account) : Account :=
  { a with balance := chargedBalance a.balance (settlementCharge j).1, held := a.held - j.hold }

/-- The hold released from the member held of another user (R74). -/
def Account.freed (j : Job) (a : Account) : Account := { a with memberHeld := a.memberHeld - j.hold }

/-- The record of the billing account of a settled job: charge, hold and period figures. -/
def Account.settledBilling (j : Job) (a : Account) : Account := (a.charged j).settleFigures j

/-- The record of another user of a settled job: its own hold and period figures. -/
def Account.settledUser (j : Job) (a : Account) : Account := (a.freed j).settleFigures j

/-- The state of a settlement after its money and its period figures. -/
def State.settledFigures (s : State) (j : Job) : State := (s.settleMoney j).settlePeriod j

theorem tokens_settledFigures (s : State) (j : Job) : (s.settledFigures j).tokens = s.tokens := by
  unfold State.settledFigures State.settlePeriod State.settleMoney
  dsimp only
  split <;> rfl

theorem settledFigures_own (h : j.user = j.billing) : s.settledFigures j =
    (s.modifyAccount j.user (Account.charged j)).modifyAccount j.user (Account.settleFigures j) := by
  unfold State.settledFigures State.settlePeriod State.settleMoney
  dsimp only
  rw [if_pos h, if_pos h, ← h]
  rfl

theorem settledFigures_both (h : j.user ≠ j.billing) : s.settledFigures j =
    (((s.modifyAccount j.billing (Account.charged j)).modifyAccount j.user (Account.freed j)).modifyAccount
      j.user (Account.settleFigures j)).modifyAccount j.billing (Account.settleFigures j) := by
  unfold State.settledFigures State.settlePeriod State.settleMoney
  dsimp only
  rw [if_neg h, if_neg h]
  rfl

/-- A job billed to its user: that record alone. -/
theorem account_settledFigures_own (h : j.user = j.billing) (hu : s.account j.user = some u) :
    (s.settledFigures j).account j.user = some (u.settledBilling j) ∧
      KeepsOtherAccounts [j.user] s (s.settledFigures j) := by
  have h1 : ∀ a, (Account.charged j a).number = a.number := fun _ => rfl
  have h2 : ∀ a, (Account.settleFigures j a).number = a.number := fun _ => rfl
  rw [settledFigures_own h]
  exact ⟨account_modifyAccount_self (account_modifyAccount_self hu h1) h2,
    keepsOtherAccounts_trans (keepsOtherAccounts_modifyAccount s _ h1) (keepsOtherAccounts_modifyAccount _ _ h2)⟩

/-- A lookup after the figures of a job billed to another account. -/
theorem account_settledFigures_look (h : j.user ≠ j.billing) (m : Nat) :
    (s.settledFigures j).account m = (s.account m).map fun a =>
      if m = j.user then a.settledUser j else if m = j.billing then a.settledBilling j else a := by
  rw [settledFigures_both h, State.account_modifyAccount _ _ _ (Account.settleFigures j) fun _ => rfl,
    State.account_modifyAccount _ _ _ (Account.settleFigures j) fun _ => rfl,
    State.account_modifyAccount _ _ _ (Account.freed j) fun _ => rfl,
    State.account_modifyAccount _ _ _ (Account.charged j) fun _ => rfl]
  by_cases hmu : m = j.user
  · subst hmu
    rw [if_neg h, if_pos rfl, if_pos rfl, if_neg h, Option.map_map]
    simp only [if_true]
    rfl
  · by_cases hmb : m = j.billing
    · subst hmb
      rw [if_pos rfl, if_neg hmu, if_neg hmu, if_pos rfl, Option.map_map]
      simp only [hmu, if_false, if_true]
      rfl
    · simp [hmu, hmb]

/-- A job billed to another account: both records. -/
theorem account_settledFigures_both (h : j.user ≠ j.billing) (hu : s.account j.user = some u)
    (hb : s.account j.billing = some b) :
    (s.settledFigures j).account j.user = some (u.settledUser j) ∧
      (s.settledFigures j).account j.billing = some (b.settledBilling j) ∧
      KeepsOtherAccounts [j.user, j.billing] s (s.settledFigures j) := by
  refine ⟨by rw [account_settledFigures_look h, hu, Option.map_some, if_pos rfl],
    by rw [account_settledFigures_look h, hb, Option.map_some, if_neg h.symm, if_pos rfl], fun m hm => ?_⟩
  simp only [List.mem_cons, List.not_mem_nil, or_false, not_or] at hm
  rw [account_settledFigures_look h]
  simp [hm.1, hm.2]

/-! ### The accounts closed (R26, R76) -/

theorem closeAccount_stays (ha : s.account n = some a) (hk : a.kind ≠ .transient)
    (h : ¬(a.state = .closing ∧ a.openJobs = 0)) : s.closeAccount c n = s := by
  unfold State.closeAccount
  rw [ha]
  dsimp only
  rw [if_neg hk, if_neg h]

theorem closeAccount_removed (ha : s.account n = some a) (hk : a.kind ≠ .transient)
    (h : a.state = .closing ∧ a.openJobs = 0) : s.closeAccount c n = s.removeAccount n := by
  unfold State.closeAccount
  rw [ha]
  dsimp only
  rw [if_neg hk, if_pos h]

theorem closeAccount_settled (ha : s.account n = some a) (hk : a.kind = .transient) :
    s.closeAccount c n = s.settleTransient n a c := by
  unfold State.closeAccount
  rw [ha]
  exact if_pos hk

/-- A TRANSIENT user SETTLED: its record, its token, the others as before (R76, R178). -/
theorem account_settleTransient (ha : s.account n = some a) :
    (s.settleTransient n a c).account n = some
        { a with
          state := .settled, tokens := []
          walkup := a.walkup.map fun w => { w with finalCharge := some c } } ∧
      KeepsOtherAccounts [n] s (s.settleTransient n a c) ∧
      (s.settleTransient n a c).tokens = s.tokens.filter fun e => !a.tokens.contains e.token :=
  ⟨account_modifyAccount_self (s := s.dropTokens a.tokens) ha fun _ => rfl,
    keepsOtherAccounts_modifyAccount (s.dropTokens a.tokens) n
      (f := fun b => { b with state := .settled, tokens := []
                              walkup := b.walkup.map fun w => { w with finalCharge := some c } }) fun _ => rfl, rfl⟩

/-- The accounts and tokens of a settlement: the figures, then the accounts closed, user first (R76). -/
theorem settleJob_books (s : State) (i : StationId) (dest : StationState) (j : Job) :
    ∃ w : State, w.accounts = (s.settledFigures j).accounts ∧ w.tokens = s.tokens ∧
      (j.user = j.billing →
        (s.settleJob i dest j).accounts = (w.closeAccount (settlementCharge j).1 j.user).accounts ∧
          (s.settleJob i dest j).tokens = (w.closeAccount (settlementCharge j).1 j.user).tokens) ∧
      (j.user ≠ j.billing →
        (s.settleJob i dest j).accounts =
            ((w.closeAccount (settlementCharge j).1 j.user).closeAccount (settlementCharge j).1 j.billing).accounts ∧
          (s.settleJob i dest j).tokens =
            ((w.closeAccount (settlementCharge j).1 j.user).closeAccount (settlementCharge j).1 j.billing).tokens) := by
  unfold State.settleJob
  extract_lets charge s1 ba s2 s3 s4 s5
  refine ⟨s2, rfl, tokens_settledFigures s j, fun h => ?_, fun h => ?_⟩
  · have e : s4 = s3 := if_pos h
    have ha : s4.accounts = s3.accounts := congrArg State.accounts e
    have ht : s4.tokens = s3.tokens := congrArg State.tokens e
    exact ⟨ha, ht⟩
  · have e : s4 = s3.closeAccount charge j.billing := if_neg h
    have ha : s4.accounts = (s3.closeAccount charge j.billing).accounts := congrArg State.accounts e
    have ht : s4.tokens = (s3.closeAccount charge j.billing).tokens := congrArg State.tokens e
    exact ⟨ha, ht⟩

/-! ### A job billed to its user -/

theorem settleJob_own_stays (h : j.user = j.billing) (hu : s.account j.user = some u) (hk : u.kind ≠ .transient)
    (hs : u.state ≠ .closing ∨ 1 < u.openJobs) :
    (s.settleJob i dest j).tokens = s.tokens ∧ KeepsOtherAccounts [j.user] s (s.settleJob i dest j) ∧
      (s.settleJob i dest j).account j.user = some (u.settledBilling j) := by
  obtain ⟨w, hwa, hwt, hown, -⟩ := settleJob_books s i dest j
  obtain ⟨hma, hmt⟩ := hown h
  obtain ⟨huser, hothers⟩ := account_settledFigures_own h hu
  have hw := account_of_accounts hwa
  have hclose : w.closeAccount (settlementCharge j).1 j.user = w := by
    refine closeAccount_stays ((hw _).trans huser) hk fun ⟨h1, h2⟩ => ?_
    have h2' : u.openJobs - 1 = 0 := h2
    rcases hs with hs | hs
    · exact hs h1
    · omega
  rw [hclose] at hma hmt
  have hm := account_of_accounts (hma.trans hwa)
  exact ⟨hmt.trans hwt, fun m hn => (hm m).trans (hothers m hn), (hm _).trans huser⟩

theorem settleJob_own_removed (h : j.user = j.billing) (hu : s.account j.user = some u)
    (hk : u.kind ≠ .transient) (hs : u.state = .closing) (ho : u.openJobs ≤ 1) :
    (s.settleJob i dest j).account j.user = none ∧
      (s.settleJob i dest j).tokens = (s.tokens.filter fun e => !u.tokens.contains e.token) ∧
      (u.payer = none → KeepsOtherAccounts [j.user] s (s.settleJob i dest j)) := by
  obtain ⟨w, hwa, hwt, hown, -⟩ := settleJob_books s i dest j
  obtain ⟨hma, hmt⟩ := hown h
  obtain ⟨huser, hothers⟩ := account_settledFigures_own h hu
  have hw := account_of_accounts hwa
  have hwu := (hw _).trans huser
  have hclose : w.closeAccount (settlementCharge j).1 j.user = w.removeAccount j.user :=
    closeAccount_removed hwu hk ⟨hs, show u.openJobs - 1 = 0 by omega⟩
  rw [hclose] at hma hmt
  have hm := account_of_accounts hma
  refine ⟨(hm _).trans (account_removeAccount_self w _), ?_, fun hp m hn => ?_⟩
  · rw [hmt, tokens_removeAccount hwu, hwt]
    rfl
  · have hp' : (u.settledBilling j).payer = none := hp
    exact (hm m).trans ((keepsOtherAccounts_removeAccount hwu (by simp) (by simp [hp']) m hn).trans
      ((hw m).trans (hothers m hn)))

theorem settleJob_own_transient (h : j.user = j.billing) (hu : s.account j.user = some u)
    (hk : u.kind = .transient) :
    KeepsOtherAccounts [j.user] s (s.settleJob i dest j) ∧
      (s.settleJob i dest j).tokens = (s.tokens.filter fun e => !u.tokens.contains e.token) ∧
      (s.settleJob i dest j).account j.user = some
        { u.settledBilling j with
          state := .settled, tokens := []
          walkup := u.walkup.map fun w => { w with finalCharge := some (settlementCharge j).1 } } := by
  obtain ⟨w, hwa, hwt, hown, -⟩ := settleJob_books s i dest j
  obtain ⟨hma, hmt⟩ := hown h
  obtain ⟨huser, hothers⟩ := account_settledFigures_own h hu
  have hw := account_of_accounts hwa
  have hwu := (hw _).trans huser
  obtain ⟨hself, hkeep, htok⟩ := account_settleTransient (c := (settlementCharge j).1) hwu
  rw [closeAccount_settled hwu hk] at hma hmt
  have hm := account_of_accounts hma
  refine ⟨fun m hn => (hm m).trans ((hkeep m hn).trans ((hw m).trans (hothers m hn))), ?_, (hm _).trans hself⟩
  rw [hmt, htok, hwt]
  rfl

/-! ### A job billed to another account -/

/-- The table and the index as the accounts of the job are about to be closed. -/
theorem settleJob_both (h : j.user ≠ j.billing) (hu : s.account j.user = some u)
    (hb : s.account j.billing = some b) :
    ∃ w : State, w.account j.user = some (u.settledUser j) ∧ w.account j.billing = some (b.settledBilling j) ∧
      KeepsOtherAccounts [j.user, j.billing] s w ∧ w.tokens = s.tokens ∧
      (∀ m, (s.settleJob i dest j).account m =
        ((w.closeAccount (settlementCharge j).1 j.user).closeAccount (settlementCharge j).1 j.billing).account m) ∧
      (s.settleJob i dest j).tokens =
        ((w.closeAccount (settlementCharge j).1 j.user).closeAccount (settlementCharge j).1 j.billing).tokens := by
  obtain ⟨w, hwa, hwt, -, hboth⟩ := settleJob_books s i dest j
  obtain ⟨hma, hmt⟩ := hboth h
  obtain ⟨huser, hbilling, hothers⟩ := account_settledFigures_both h hu hb
  have hw := account_of_accounts hwa
  exact ⟨w, (hw _).trans huser, (hw _).trans hbilling, fun m hn => (hw m).trans (hothers m hn), hwt,
    account_of_accounts hma, hmt⟩

/-- Neither CLOSING with its last job. -/
theorem settledUser_stays (h : u.state ≠ .closing ∨ 1 < u.openJobs) :
    ¬((u.settledUser j).state = .closing ∧ (u.settledUser j).openJobs = 0) := fun ⟨h1, h2⟩ => by
  have h2' : u.openJobs - 1 = 0 := h2
  rcases h with h | h
  · exact h h1
  · omega

theorem settledUser_leaves (h : u.state = .closing) (ho : u.openJobs ≤ 1) :
    (u.settledUser j).state = .closing ∧ (u.settledUser j).openJobs = 0 :=
  ⟨h, show u.openJobs - 1 = 0 by omega⟩

theorem settleJob_both_stay (h : j.user ≠ j.billing) (hu : s.account j.user = some u)
    (hb : s.account j.billing = some b) (hku : u.kind ≠ .transient) (hkb : b.kind ≠ .transient)
    (hsu : u.state ≠ .closing ∨ 1 < u.openJobs) (hsb : b.state ≠ .closing ∨ 1 < b.openJobs) :
    (s.settleJob i dest j).tokens = s.tokens ∧
      KeepsOtherAccounts [j.user, j.billing] s (s.settleJob i dest j) ∧
      (s.settleJob i dest j).account j.user = some (u.settledUser j) ∧
      (s.settleJob i dest j).account j.billing = some (b.settledBilling j) := by
  obtain ⟨w, hwu, hwb, hwo, hwt, hm, hmt⟩ := settleJob_both (i := i) (dest := dest) h hu hb
  have hcb : w.closeAccount (settlementCharge j).1 j.billing = w :=
    closeAccount_stays hwb hkb (settledUser_stays (j := j) hsb)
  simp only [closeAccount_stays hwu hku (settledUser_stays hsu), hcb] at hm hmt
  exact ⟨hmt.trans hwt, fun m hn => (hm m).trans (hwo m hn), (hm _).trans hwu, (hm _).trans hwb⟩

theorem settleJob_both_billingRemoved (h : j.user ≠ j.billing) (hu : s.account j.user = some u)
    (hb : s.account j.billing = some b) (hku : u.kind ≠ .transient) (hkb : b.kind ≠ .transient)
    (hsu : u.state ≠ .closing ∨ 1 < u.openJobs) (hsb : b.state = .closing) (hob : b.openJobs ≤ 1)
    (hpb : b.payer = none) :
    (s.settleJob i dest j).tokens = (s.tokens.filter fun e => !b.tokens.contains e.token) ∧
      KeepsOtherAccounts [j.user, j.billing] s (s.settleJob i dest j) ∧
      (s.settleJob i dest j).account j.user = some (u.settledUser j) ∧
      (s.settleJob i dest j).account j.billing = none := by
  obtain ⟨w, hwu, hwb, hwo, hwt, hm, hmt⟩ := settleJob_both (i := i) (dest := dest) h hu hb
  have hcb : w.closeAccount (settlementCharge j).1 j.billing = w.removeAccount j.billing :=
    closeAccount_removed hwb hkb (settledUser_leaves (j := j) hsb hob)
  simp only [closeAccount_stays hwu hku (settledUser_stays hsu), hcb] at hm hmt
  have hpb' : (b.settledBilling j).payer = none := hpb
  have hkeep : KeepsOtherAccounts [j.billing] w (w.removeAccount j.billing) :=
    keepsOtherAccounts_removeAccount hwb (by simp) (by simp [hpb'])
  refine ⟨?_, fun m hn => (hm m).trans ((keepsOtherAccounts_mono hkeep (by simp) m hn).trans (hwo m hn)),
    (hm _).trans ((hkeep _ (by simpa using h)).trans hwu), (hm _).trans (account_removeAccount_self w _)⟩
  rw [hmt, tokens_removeAccount hwb, hwt]
  rfl

theorem settleJob_both_userRemoved (h : j.user ≠ j.billing) (hu : s.account j.user = some u)
    (hb : s.account j.billing = some b) (hku : u.kind ≠ .transient) (hkb : b.kind ≠ .transient)
    (hsu : u.state = .closing) (hou : u.openJobs ≤ 1) (hpu : u.payer = some j.billing) :
    ((b.state ≠ .closing ∨ 1 < b.openJobs) →
      (s.settleJob i dest j).tokens = (s.tokens.filter fun e => !u.tokens.contains e.token) ∧
        KeepsOtherAccounts [j.user, j.billing] s (s.settleJob i dest j) ∧
        (s.settleJob i dest j).account j.user = none ∧
        (s.settleJob i dest j).account j.billing =
          some { b.settledBilling j with memberCount := b.memberCount - 1 }) ∧
    (b.state = .closing → b.openJobs ≤ 1 → b.payer = none →
      (s.settleJob i dest j).tokens =
          (s.tokens.filter fun e => !u.tokens.contains e.token && !b.tokens.contains e.token) ∧
        KeepsOtherAccounts [j.user, j.billing] s (s.settleJob i dest j) ∧
        (s.settleJob i dest j).account j.user = none ∧ (s.settleJob i dest j).account j.billing = none) := by
  obtain ⟨w, hwu, hwb, hwo, hwt, hm, hmt⟩ := settleJob_both (i := i) (dest := dest) h hu hb
  simp only [closeAccount_removed hwu hku (settledUser_leaves hsu hou)] at hm hmt
  have hpu' : (u.settledUser j).payer = some j.billing := hpu
  have hxu : (w.removeAccount j.user).account j.user = none := account_removeAccount_self w _
  have hxb : (w.removeAccount j.user).account j.billing =
      some { b.settledBilling j with memberCount := b.memberCount - 1 } :=
    account_removeAccount_payer hwu hpu' h.symm hwb
  have hxo : KeepsOtherAccounts [j.user, j.billing] s (w.removeAccount j.user) := fun m hn =>
    (keepsOtherAccounts_removeAccount hwu (by simp) (by simp [hpu']) m hn).trans (hwo m hn)
  have hxt : (w.removeAccount j.user).tokens = s.tokens.filter fun e => !u.tokens.contains e.token := by
    rw [tokens_removeAccount hwu, hwt]
    rfl
  generalize w.removeAccount j.user = x at hm hmt hxu hxb hxo hxt
  refine ⟨fun hsb => ?_, fun hsb hob hpb => ?_⟩
  · have hcb : x.closeAccount (settlementCharge j).1 j.billing = x :=
      closeAccount_stays hxb hkb (settledUser_stays (j := j) hsb)
    simp only [hcb] at hm hmt
    exact ⟨hmt.trans hxt, fun m hn => (hm m).trans (hxo m hn), (hm _).trans hxu, (hm _).trans hxb⟩
  · have hcb : x.closeAccount (settlementCharge j).1 j.billing = x.removeAccount j.billing :=
      closeAccount_removed hxb hkb (settledUser_leaves (j := j) hsb hob)
    simp only [hcb] at hm hmt
    have hkeep : KeepsOtherAccounts [j.billing] x (x.removeAccount j.billing) :=
      keepsOtherAccounts_removeAccount hxb (by simp) fun p hp => absurd (hpb.symm.trans hp) (by simp)
    refine ⟨?_, fun m hn => (hm m).trans ((keepsOtherAccounts_mono hkeep (by simp) m hn).trans (hxo m hn)),
      (hm _).trans ((hkeep _ (by simpa using h)).trans hxu), (hm _).trans (account_removeAccount_self x _)⟩
    rw [hmt, tokens_removeAccount hxb, hxt, List.filter_filter]
    exact List.filter_congr fun e _ => Bool.and_comm _ _

/-! ### The settlement -/

/-- The balance that the last-job record names (R53, R76). -/
theorem balanceAfter_settled (hu : s.account j.user = some u) (hb : s.account j.billing = some b) :
    (((s.settledFigures j).account j.billing).map Account.balance).getD 0 =
      max (-999999999) (b.balance - ((settlementCharge j).1 : Int)) := by
  by_cases h : j.user = j.billing
  · rw [← h] at hb ⊢
    rw [(account_settledFigures_own h hb).1]
    rfl
  · rw [(account_settledFigures_both h hu hb).2.1]
    rfl

/-- Settles O39: `settleJob_facts` for the station and the frame, the cases of the job's accounts one by
one. -/
theorem settlementClosesTheAccounts : Obligations.SettlementClosesTheAccounts := by
  rintro s i dest j u b hj hu hb u' b' rfl rfl
  obtain ⟨hkeeps, hstations, hreaders, hshown, hstation⟩ := settleJob_facts s i dest j
  rw [show (s.settleMoney j).settlePeriod j = s.settledFigures j from rfl, balanceAfter_settled hu hb] at hstation
  exact ⟨s.settleJob i dest j, settle_eq hj, hkeeps, hstations, hreaders, hstation, hshown,
    fun h hk hs => settleJob_own_stays h hu hk hs, fun h hk hs ho => settleJob_own_removed h hu hk hs ho,
    fun h hk => settleJob_own_transient h hu hk, fun h hku hkb =>
      ⟨fun hsu hsb => settleJob_both_stay h hu hb hku hkb hsu hsb,
        fun hsu hsb hob hpb => settleJob_both_billingRemoved h hu hb hku hkb hsu hsb hob hpb,
        fun hsu hou hpu => settleJob_both_userRemoved h hu hb hku hkb hsu hou hpu⟩⟩

end Sys2Proof.Machine
end

section
/-! SUPPORT. The turns of a BLOCK: what one station's turn is, what it leaves at the other stations, and
that the account blocked stays as it is through all of them (O25). -/

namespace Sys2Proof.Machine

variable {s t : State} {i k : StationId} {j : Job} {a : Account} {n m : Nat} {x : AccountState} {c : Nat}

/-! ### One station's turn (R23, R68 to R70) -/

theorem concerns_iff (j : Job) (n : Nat) : j.concerns n = true ↔ j.user = n ∨ j.billing = n := by
  simp [Job.concerns]

theorem blockAt_unconcerned (h : ∀ j, (s.station i).job = some j → j.user ≠ n ∧ j.billing ≠ n) :
    State.blockAt n s i = s := by
  unfold State.blockAt
  refine if_neg fun hc => ?_
  obtain ⟨j, hj, hn⟩ := (Option.any_eq_true _ _).1 hc
  rcases (concerns_iff j n).1 hn with e | e
  · exact (h j hj).1 e
  · exact (h j hj).2 e

theorem blockAt_concerned (hj : (s.station i).job = some j) (hc : j.user = n ∨ j.billing = n) :
    State.blockAt n s i = s.requestEnd i .accountBlocked := by
  unfold State.blockAt
  rw [hj]
  exact if_pos ((concerns_iff j n).2 hc)

theorem setStation_setStation (s : State) (i : StationId) (st st' : Station) :
    (s.setStation i st).setStation i st' = s.setStation i st' := by
  unfold State.setStation
  rw [Vector.set_set]

theorem modifyStation_setStation (s : State) (i : StationId) (st : Station) (f : Station → Station) :
    (s.setStation i st).modifyStation i f = s.setStation i (f st) := by
  unfold State.modifyStation
  rw [State.station_setStation_self, setStation_setStation]

theorem recordEnd_eq (cause : EndCause) (hj : (s.station i).job = some j) :
    s.recordEnd i cause =
      s.setStation i { s.station i with job := some { j with endRequest := some (j.endRequest.getD cause) } } := by
  show s.setStation i { s.station i with job := (s.station i).job.map _ } = _
  rw [hj]
  rfl

theorem closed_eq (cause : EndCause) (hj : (s.station i).job = some j) :
    s.closed i cause = s.setStation i { s.station i with
      state := .closing
      job := some { j with endRequest := some (j.endRequest.getD cause), idleTimer := none } } := by
  unfold State.closed State.modifyJob State.enter
  rw [recordEnd_eq cause hj, modifyStation_setStation, modifyStation_setStation]
  rfl

/-- A JAMMED or CLOSING job has the cause recorded unless one stands. -/
theorem blockAt_recorded (hj : (s.station i).job = some j) (hc : j.user = n ∨ j.billing = n)
    (hs : (s.station i).state = .jammed ∨ (s.station i).state = .closing) :
    State.blockAt n s i = s.setStation i
      { s.station i with job := some { j with endRequest := some (j.endRequest.getD .accountBlocked) } } := by
  rw [blockAt_concerned hj hc, ← recordEnd_eq .accountBlocked hj]
  unfold State.requestEnd
  rcases hs with h | h <;> simp only [h]

/-- With sheets in its path the station enters CLOSING and drains. -/
theorem blockAt_drains (hj : (s.station i).job = some j) (hc : j.user = n ∨ j.billing = n)
    (hs : (s.station i).state = .running ∨ (s.station i).state = .held) (hp : (s.station i).path ≠ []) :
    State.blockAt n s i = s.setStation i
      { s.station i with
        state := .closing, drainTimer := some (s.globals.drainTimeout * 10000)
        job := some { j with endRequest := some (j.endRequest.getD .accountBlocked), idleTimer := none } } := by
  rw [blockAt_concerned hj hc, requestEnd_eq _ hs, closed_eq _ hj, State.station_setStation_self,
    modifyStation_setStation]
  exact if_neg (by simpa using hp)

/-- With an empty path the job is settled at once. -/
theorem blockAt_settles (hj : (s.station i).job = some j) (hc : j.user = n ∨ j.billing = n)
    (hs : (s.station i).state = .running ∨ (s.station i).state = .held) (hp : (s.station i).path = []) :
    State.blockAt n s i = (s.setStation i
      { s.station i with
        state := .closing
        job := some { j with endRequest := some (j.endRequest.getD .accountBlocked), idleTimer := none } }).settle
          i .idle := by
  rw [blockAt_concerned hj hc, requestEnd_eq _ hs, closed_eq _ hj, State.station_setStation_self]
  exact if_pos (by simp [hp])

/-! ### What a settlement's retry does to another station (R65, R77) -/

/-- `st'` is `st`, or `st` was HELD and has had its hold raised and may run again. -/
def Station.Served (st st' : Station) : Prop :=
  st' = st ∨ (st.state = .held ∧ ∃ x c, (x = .held ∨ x = .running) ∧
    st' = { st with state := x, job := st.job.map fun q => { q with hold := q.hold + c } })

theorem Station.Served.of_eq {st st' : Station} (h : st' = st) : st.Served st' := .inl h

theorem Station.Served.eq {st st' : Station} (h : st.Served st') (hs : st.state ≠ .held) : st' = st :=
  h.resolve_right fun ⟨e, _⟩ => hs e

theorem Station.Served.trans {st st' st'' : Station} (h : st.Served st') (g : st'.Served st'') :
    st.Served st'' := by
  rcases h with rfl | ⟨hs, x, c, hx, rfl⟩
  · exact g
  · rcases g with rfl | ⟨gs, y, d, hy, rfl⟩
    · exact .inr ⟨hs, x, c, hx, rfl⟩
    · refine .inr ⟨hs, y, c + d, hy, ?_⟩
      cases st.job <;> simp [Nat.add_assoc]

/-- The job of a station served holds the same end cause and the same charge. -/
theorem Station.Served.job {st st' : Station} (h : st.Served st') (hj : st.job = some j)
    (hs : st.state = .running ∨ st.state = .held) :
    (st'.state = .running ∨ st'.state = .held) ∧ st'.path = st.path ∧
      ∃ c, st'.job = some { j with hold := j.hold + c } := by
  rcases h with rfl | ⟨-, x, c, hx, rfl⟩
  · exact ⟨hs, rfl, 0, hj⟩
  · exact ⟨hx.symm, rfl, c, by simp [hj]⟩

theorem served_retryAt (n : Nat) (s : State) (i : StationId) :
    (s.station i).Served ((State.retryAt n s i).station i) := by
  obtain ⟨c, hc⟩ := station_coverTest s i
  by_cases h : (s.station i).state = .held ∧ (s.station i).job.map Job.billing = some n
  · unfold State.retryAt
    rw [if_pos h]
    split
    · refine .inr ⟨h.1, .running, c, .inr rfl, ?_⟩
      unfold State.enterRunning State.placeCharge
      rw [State.station_placeDisplay, State.station_enter_self, hc]
    · refine .inr ⟨h.1, .held, c, .inl rfl, ?_⟩
      rw [hc, ← h.1]
  · rw [retryAt_skips h]
    exact .of_eq rfl

theorem served_retry (n : Nat) (s : State) (i : StationId) : (s.station i).Served ((s.retry n).station i) := by
  obtain ⟨m, -, h1, -, h3, -⟩ := retry_at n s i
  rw [h1, ← h3]
  exact served_retryAt n m i

/-- A settlement up to its retry leaves every other station as it was. -/
theorem station_settleJob_other (s : State) (dest : StationState) (j : Job) (h : k ≠ i) :
    (s.settleJob i dest j).station k = s.station k := by
  unfold State.settleJob
  extract_lets charge s1 ba s2 s3 s4 s5
  have h1 : OnlyAccounts s s1 := (onlyAccounts_settleMoney s j).trans (onlyAccounts_settlePeriod _ j)
  have h3 : OnlyAccounts s2 s4 := by
    by_cases e : j.user = j.billing
    · simp only [s4, e, if_true]; exact onlyAccounts_closeAccount _ _ _
    · simp only [s4, e, if_false]
      exact (onlyAccounts_closeAccount _ _ _).trans (onlyAccounts_closeAccount _ _ _)
  rw [State.station_modifyStation, if_neg h]
  show s4.station k = _
  rw [h3.station]
  show (s1.modifyStation i _).station k = _
  rw [State.station_modifyStation, if_neg h, h1.station]

theorem served_settle (s : State) (dest : StationState) (h : k ≠ i) :
    (s.station k).Served ((s.settle i dest).station k) := by
  cases hj : (s.station i).job with
  | none =>
    have e : s.settle i dest = s := by unfold State.settle; rw [hj]
    rw [e]
    exact .of_eq rfl
  | some j =>
    rw [settle_eq hj, ← station_settleJob_other s dest j h]
    unfold State.retryIfPresent
    split
    · exact served_retry _ _ k
    · exact .of_eq rfl

/-- The turn of another station serves this one at most. -/
theorem served_blockAt_other (n : Nat) (s : State) (h : k ≠ i) :
    (s.station k).Served ((State.blockAt n s i).station k) := by
  have hclosed : (s.closed i .accountBlocked).station k = s.station k := by
    unfold State.closed State.recordEnd State.enter State.modifyJob
    rw [State.station_modifyStation, if_neg h, State.station_modifyStation, if_neg h,
      State.station_modifyStation, if_neg h]
  rcases blockAt_cases n s i with ⟨-, e⟩ | ⟨-, ⟨-, -, e⟩ | ⟨-, e⟩⟩ <;> rw [e]
  · exact .of_eq rfl
  · unfold State.recordEnd State.modifyJob
    rw [State.station_modifyStation, if_neg h]
    exact .of_eq rfl
  · split
    · rw [← hclosed]
      exact served_settle _ _ h
    · rw [State.station_modifyStation, if_neg h, hclosed]
      exact .of_eq rfl

theorem served_blocks (n : Nat) (l : List StationId) (s : State) (h : k ∉ l) :
    (s.station k).Served ((l.foldl (State.blockAt n) s).station k) := by
  induction l generalizing s with
  | nil => exact .of_eq rfl
  | cons i l ih =>
    simp only [List.mem_cons, not_or] at h
    exact (served_blockAt_other n s h.1).trans (ih _ h.2)

/-- Station `i` through all the turns: served before its own, then its own, then served once more. -/
theorem blockJobs_at (n : Nat) (s : State) (i : StationId) :
    ∃ m : State, (s.station i).Served (m.station i) ∧ m.globals = s.globals ∧
      ((State.blockAt n m i).station i).Served ((s.blockJobs n).station i) := by
  obtain ⟨rest, h, h1, h2⟩ := allStations_split i
  have e : s.blockJobs n = rest.foldl (State.blockAt n)
      (State.blockAt n ((allStations.take i.val).foldl (State.blockAt n) s) i) := by
    unfold State.blockJobs
    conv_lhs => rw [h, List.foldl_append]
    rfl
  obtain ⟨-, -, -, hg, -⟩ :=
    board_eq (board_foldl (State.blockAt n) (fun s i => board_blockAt s n i) (allStations.take i.val) s)
  rw [e]
  exact ⟨_, served_blocks n _ s h1, hg, served_blocks n rest _ h2⟩

/-! ### The account blocked, through the turns (R3, R26) -/

/-- Account `n`, where the table holds it, is registered and in state `x`; and unless that is CLOSING the
table holds it. -/
def State.standsIn (s : State) (n : Nat) (x : AccountState) : Prop :=
  (∀ b, s.account n = some b → b.state = x ∧ b.kind ≠ .transient) ∧ (x ≠ .closing → (s.account n).isSome)

theorem State.standsIn.of_map {g : Account → Account} (h : s.standsIn n x)
    (hl : t.account n = (s.account n).map g) (hg : ∀ b, (g b).state = b.state ∧ (g b).kind = b.kind) :
    t.standsIn n x := by
  unfold State.standsIn
  rw [hl]
  refine ⟨fun b hb => ?_, fun hx => by rw [Option.isSome_map]; exact h.2 hx⟩
  obtain ⟨a, ha, rfl⟩ := Option.map_eq_some_iff.1 hb
  rw [(hg a).1, (hg a).2]
  exact h.1 a ha

theorem State.standsIn.of_account (h : s.standsIn n x) (hl : t.account n = s.account n) : t.standsIn n x :=
  h.of_map (g := id) (by rw [hl, Option.map_id]; rfl) fun _ => ⟨rfl, rfl⟩

theorem State.standsIn.of_money (h : s.standsIn n x) (g : MoneyOnly s t) : t.standsIn n x := by
  obtain ⟨-, f, hf, hm⟩ := g
  exact h.of_map (account_of_map hf (fun a => (hm a).number) n) fun a => ⟨(hm a).state, (hm a).kind⟩

/-- Another account's removal leaves the record but for its member count; the record itself goes only from
CLOSING. -/
theorem State.standsIn.removeAccount (h : s.standsIn n x) (hm : m = n → x = .closing) :
    (s.removeAccount m).standsIn n x := by
  by_cases hmn : m = n
  · subst hmn
    unfold State.standsIn
    rw [account_removeAccount_self]
    exact ⟨fun b hb => (nomatch hb), fun hx => absurd (hm rfl) hx⟩
  · cases ha : s.account m with
    | none =>
      have e : s.removeAccount m = s := by unfold State.removeAccount; rw [ha]
      rw [e]
      exact h
    | some a =>
      refine State.standsIn.of_account (s := (s.dropTokens a.tokens).leavePayer a) ?_
        (by rw [removeAccount_eq ha, account_dropAccount, if_neg (Ne.symm hmn)])
      unfold State.leavePayer
      split
      · exact h.of_account rfl
      · next p _ =>
        refine h.of_map (g := fun b => if n = p then { b with memberCount := b.memberCount - 1 } else b) ?_
          fun b => by split <;> exact ⟨rfl, rfl⟩
        by_cases hp : n = p
        · subst hp
          simp only [if_true]
          exact (State.account_modifyAccount _ n n (fun b => { b with memberCount := b.memberCount - 1 })
            fun _ => rfl).trans (if_pos rfl)
        · simp only [hp, if_false, Option.map_id']
          exact account_dropMember_other (s.dropTokens a.tokens) hp

theorem State.standsIn.closeAccount (h : s.standsIn n x) (c m : Nat) : (s.closeAccount c m).standsIn n x := by
  cases ha : s.account m with
  | none =>
    have e : s.closeAccount c m = s := by unfold State.closeAccount; rw [ha]
    rw [e]
    exact h
  | some a =>
    rcases closeAccount_cases (c := c) ha with ⟨hk, e⟩ | ⟨-, hs, -, e⟩ | ⟨-, -, e⟩ <;> rw [e]
    · have hne : n ≠ m := by
        rintro rfl
        exact (h.1 a ha).2 hk
      exact h.of_account ((account_settleTransient ha).2.1 n (by simpa using hne))
    · exact h.removeAccount fun e => by
        subst e
        exact (h.1 a ha).1.symm.trans hs
    · exact h

theorem State.standsIn.settleJob (h : s.standsIn n x) (i : StationId) (dest : StationState) (j : Job) :
    (s.settleJob i dest j).standsIn n x := by
  have h1 : ((s.settleMoney j).settlePeriod j).standsIn n x :=
    h.of_money ((moneyOnly_settleMoney s j).trans (moneyOnly_settlePeriod _ j))
  unfold State.settleJob
  extract_lets charge s1 ba s2 s3 s4 s5
  have h2 : s2.standsIn n x := h1.of_account rfl
  have h4 : s4.standsIn n x := by
    by_cases e : j.user = j.billing
    · simp only [s4, e, if_true]; exact h2.closeAccount _ _
    · simp only [s4, e, if_false]; exact (h2.closeAccount _ _).closeAccount _ _
  exact h4.of_account rfl

theorem moneyOnly_retryAt (m : Nat) (s : State) (i : StationId) : MoneyOnly s (State.retryAt m s i) := by
  have h1 : MoneyOnly s (s.coverTest i).1 := by
    rcases coverTest_cases s i with e | e | ⟨j, -, e⟩ <;> rw [e]
    · exact .refl s
    · exact .refl s
    · exact moneyOnly_raiseHold s i j _
  unfold State.retryAt
  split_ifs
  · exact h1.trans (moneyOnly_of_ledger rfl rfl)
  · exact h1
  · exact .refl s

theorem moneyOnly_retry (m : Nat) (s : State) : MoneyOnly s (s.retry m) := by
  unfold State.retry
  generalize allStations = l
  induction l generalizing s with
  | nil => exact .refl s
  | cons i l ih => exact (moneyOnly_retryAt m s i).trans (ih _)

theorem State.standsIn.settle (h : s.standsIn n x) (i : StationId) (dest : StationState) :
    (s.settle i dest).standsIn n x := by
  cases hj : (s.station i).job with
  | none =>
    have e : s.settle i dest = s := by unfold State.settle; rw [hj]
    rw [e]
    exact h
  | some j =>
    rw [settle_eq hj]
    unfold State.retryIfPresent
    split
    · exact (h.settleJob i dest j).of_money (moneyOnly_retry _ _)
    · exact h.settleJob i dest j

theorem State.standsIn.blockAt (h : s.standsIn n x) (m : Nat) (i : StationId) :
    (State.blockAt m s i).standsIn n x := by
  rcases blockAt_cases m s i with ⟨-, e⟩ | ⟨-, ⟨-, -, e⟩ | ⟨-, e⟩⟩ <;> rw [e]
  · exact h
  · exact h.of_account rfl
  · split
    · exact State.standsIn.settle (s := s.closed i .accountBlocked) (h.of_account rfl) i .idle
    · exact h.of_account rfl

theorem State.standsIn.blockJobs (h : s.standsIn n x) (m : Nat) : (s.blockJobs m).standsIn n x := by
  unfold State.blockJobs
  generalize allStations = l
  induction l generalizing s with
  | nil => exact h
  | cons i l ih => exact ih (h.blockAt m i)

/-! ### What the turns leave -/

theorem keepsAllBut_blockAt (n : Nat) (s : State) (i : StationId) :
    KeepsAllBut [.accounts, .tokens, .stations, .readers] s (State.blockAt n s i) := by
  have hclosed := keepsAllBut_mono (closed_frame s i .accountBlocked).1
    (qs := [.accounts, .tokens, .stations, .readers]) (by decide)
  rcases blockAt_cases n s i with ⟨-, e⟩ | ⟨hc, ⟨-, -, e⟩ | ⟨-, e⟩⟩ <;> rw [e]
  · exact keepsAllBut_refl _ s
  · exact keepsAllBut_mono (keepsAllBut_modifyStation s i _) (by decide)
  · cases hj : (s.station i).job with
    | none => simp [hj] at hc
    | some j =>
      split
      · exact keepsAllBut_trans hclosed
          (settle_facts _ i .idle _ (by rw [station_closed s i .accountBlocked j hj]) (by decide)).1
      · exact keepsAllBut_trans hclosed (keepsAllBut_mono (keepsAllBut_modifyStation _ i _) (by decide))

theorem keepsAllBut_blockJobs (n : Nat) (s : State) :
    KeepsAllBut [.accounts, .tokens, .stations, .readers] s (s.blockJobs n) := by
  unfold State.blockJobs
  generalize allStations = l
  induction l generalizing s with
  | nil => exact keepsAllBut_refl _ s
  | cons i l ih => exact keepsAllBut_trans (keepsAllBut_blockAt n s i) (ih _)

/-- When the account concerns no job, no station has a turn. -/
theorem blockJobs_unconcerned (h : ∀ j ∈ s.openJobs, j.user ≠ n ∧ j.billing ≠ n) : s.blockJobs n = s := by
  have hs : ∀ i, State.blockAt n s i = s := fun i => blockAt_unconcerned fun j hj =>
    h j (List.mem_filterMap.2 ⟨i, mem_allStations i, hj⟩)
  unfold State.blockJobs
  generalize allStations = l
  induction l with
  | nil => rfl
  | cons i l ih => rw [List.foldl_cons, hs i, ih]

end Sys2Proof.Machine
end

section
/-! SUPPORT. BLOCK: its work as the turns over the table with the account BLOCKED, and its answer (O25). -/

namespace Sys2Proof.Machine

variable {s : State} {i : StationId} {j : Job} {a : Account} {n : Nat}

/-! ### The table before the turns -/

/-- The state in which the turns begin: the account BLOCKED unless it is CLOSING (R23). -/
def State.barredFor (s : State) (a : Account) (n : Nat) : State :=
  { s with
    accounts := s.accounts.map fun x =>
      if x.number = n ∧ a.state ≠ .closing then { x with state := .blocked } else x }

theorem barredFor_closing (h : a.state = .closing) : s.barredFor a n = s := by
  unfold State.barredFor
  have e : (fun x : Account => if x.number = n ∧ a.state ≠ .closing then { x with state := .blocked } else x) =
      id := by
    funext x
    exact if_neg fun hx => hx.2 h
  rw [e, List.map_id]

theorem barredFor_blocked (h : a.state ≠ .closing) : s.barredFor a n = s.setAccountState n .blocked := by
  unfold State.barredFor State.setAccountState State.modifyAccount
  simp only [h, ne_eq, not_false_iff, and_true]

/-- The work of a BLOCK of a registered account. -/
theorem blockWork_found (ha : s.account n = some a) (hk : a.kind ≠ .transient) :
    blockWork n s = ((s.barredFor a n).blockJobs n, bare .ok) := by
  refine (withAccount_some ha).trans ((if_neg hk).trans ?_)
  by_cases h : a.state = .closing
  · rw [if_pos h, barredFor_closing h]
  · rw [if_neg h, barredFor_blocked h]

theorem account_barredFor (ha : s.account n = some a) :
    (s.barredFor a n).account n =
        some { a with state := if a.state = .closing then .closing else .blocked } ∧
      KeepsOtherAccounts [n] s (s.barredFor a n) := by
  by_cases h : a.state = .closing
  · rw [barredFor_closing h, ha, if_pos h, ← h]
    exact ⟨rfl, keepsOtherAccounts_refl _ s⟩
  · rw [barredFor_blocked h, if_neg h]
    exact ⟨account_modifyAccount_self (f := fun a => { a with state := .blocked }) ha fun _ => rfl,
      keepsOtherAccounts_modifyAccount s n (f := fun a => { a with state := .blocked }) fun _ => rfl⟩

theorem keepsAllBut_barredFor (s : State) (a : Account) (n : Nat) :
    KeepsAllBut [.accounts] s (s.barredFor a n) :=
  keepsAllBut_of_ledger rfl (fun h => absurd (by decide) h) (fun _ => rfl) fun _ => rfl

/-- The account stands BLOCKED, or CLOSING, as the turns begin. -/
theorem standsIn_barredFor (ha : s.account n = some a) (hk : a.kind ≠ .transient) :
    (s.barredFor a n).standsIn n (if a.state = .closing then .closing else .blocked) := by
  obtain ⟨hself, -⟩ := account_barredFor ha
  unfold State.standsIn
  rw [hself]
  refine ⟨fun b hb => ?_, fun _ => rfl⟩
  rw [← Option.some.inj hb]
  exact ⟨rfl, hk⟩

/-! ### The stations after the turns -/

/-- A station whose job is another's, and that is not HELD, is as it was. -/
theorem station_blockJobs_unconcerned (h : ∀ j, (s.station i).job = some j → j.user ≠ n ∧ j.billing ≠ n)
    (hs : (s.station i).state ≠ .held) : (s.blockJobs n).station i = s.station i := by
  obtain ⟨m, h1, -, h2⟩ := blockJobs_at n s i
  have e := h1.eq hs
  rw [← e] at h hs
  rw [blockAt_unconcerned h] at h2
  exact (h2.eq hs).trans e

/-- A JAMMED or CLOSING station whose job the account concerns has the cause recorded. -/
theorem station_blockJobs_recorded (hj : (s.station i).job = some j) (hc : j.user = n ∨ j.billing = n)
    (hs : (s.station i).state = .jammed ∨ (s.station i).state = .closing) :
    (s.blockJobs n).station i =
      { s.station i with job := some { j with endRequest := some (j.endRequest.getD .accountBlocked) } } := by
  obtain ⟨m, h1, -, h2⟩ := blockJobs_at n s i
  have hne : (s.station i).state ≠ .held := by rcases hs with e | e <;> simp [e]
  have e := h1.eq hne
  rw [← e] at hj hs hne ⊢
  rw [blockAt_recorded hj hc hs, State.station_setStation_self] at h2
  exact h2.eq hne

/-- A RUNNING or HELD station with sheets in its path drains. -/
theorem station_blockJobs_drains (hj : (s.station i).job = some j) (hc : j.user = n ∨ j.billing = n)
    (hs : (s.station i).state = .running ∨ (s.station i).state = .held) (hp : (s.station i).path ≠ []) :
    ((s.blockJobs n).station i).state = .closing ∧ ((s.blockJobs n).station i).path = (s.station i).path ∧
      ((s.blockJobs n).station i).job.map Job.endRequest = some (some (j.endRequest.getD .accountBlocked)) ∧
      ((s.blockJobs n).station i).drainTimer = some (s.globals.drainTimeout * 10000) := by
  obtain ⟨m, h1, hg, h2⟩ := blockJobs_at n s i
  obtain ⟨hms, hmp, c, hmj⟩ := h1.job hj hs
  rw [blockAt_drains hmj hc hms (by rw [hmp]; exact hp), State.station_setStation_self] at h2
  rw [h2.eq (by decide : StationState.closing ≠ .held), hg]
  exact ⟨rfl, hmp, rfl, rfl⟩

/-- A RUNNING or HELD station with an empty path has settled. -/
theorem station_blockJobs_settled (hj : (s.station i).job = some j) (hc : j.user = n ∨ j.billing = n)
    (hs : (s.station i).state = .running ∨ (s.station i).state = .held) (hp : (s.station i).path = []) :
    ((s.blockJobs n).station i).state = .idle ∧ ((s.blockJobs n).station i).job = none ∧
      ((s.blockJobs n).station i).lastJob.bind LastJob.endCause =
        some (j.endRequest.getD .accountBlocked) ∧
      ((s.blockJobs n).station i).lastJob.map LastJob.charge = some (settlementCharge j).1 := by
  obtain ⟨m, h1, -, h2⟩ := blockJobs_at n s i
  obtain ⟨hms, hmp, c, hmj⟩ := h1.job hj hs
  rw [blockAt_settles hmj hc hms (hmp.trans hp)] at h2
  generalize hu : m.setStation i _ = u at h2
  have hst := congrArg (fun u : State => u.station i) hu
  simp only [State.station_setStation_self] at hst
  obtain ⟨-, -, b, e⟩ := settle_facts u i .idle _ (by rw [← hst]) (by decide)
  rw [e] at h2
  rw [h2.eq (by decide : StationState.idle ≠ .held)]
  exact ⟨rfl, rfl, rfl, rfl⟩

/-! ### The answer -/

/-- The turns, and what they leave of the link, the account and the stations. -/
theorem answers_blocked (hr : s.ready (.block n)) (ha : s.account n = some a) (hk : a.kind ≠ .transient)
    {ended : State} (he : ended = (s.barredFor a n).blockJobs n) :
    Answers (.block n) s .ok [] [.accounts, .tokens, .stations, .readers] fun t =>
      t.accounts = ended.accounts ∧ t.tokens = ended.tokens ∧
        (∀ i, (t.station i).undriven = (ended.station i).undriven ∧ t.reader i = ended.reader i) ∧
        ended.standsIn n (if a.state = .closing then .closing else .blocked) := by
  obtain ⟨-, hreset, hlink, -⟩ := board_eq (board_blockJobs (s.barredFor a n) n)
  have hkeeps := keepsAllBut_trans (keepsAllBut_mono (keepsAllBut_barredFor s a n) (by decide))
    (keepsAllBut_blockJobs n (s.barredFor a n))
  have hstands := (standsIn_barredFor ha hk).blockJobs n
  have hw := blockWork_found ha hk
  rw [← he] at hreset hlink hkeeps hstands hw
  clear he
  exact answers_of_result hr rfl hw hlink hreset hkeeps fun l =>
    ⟨rfl, rfl, fun k => ⟨undriven_answered rfl l, rfl⟩, hstands⟩

/-- What an account that stands so says of BLOCK's result. -/
theorem standsIn_spelled {t : State} {ended : State} (hacc : t.accounts = ended.accounts)
    (h : ended.standsIn n (if a.state = .closing then .closing else .blocked)) :
    (a.state ≠ .closing → ∃ b, t.account n = some b ∧ b.state = .blocked) ∧
      (a.state = .closing → ∀ b, t.account n = some b → b.state = .closing) := by
  obtain ⟨hstate, hpresent⟩ := h
  rw [account_of_accounts hacc]
  refine ⟨fun hs => ?_, fun hs b hb => (hstate b hb).1.trans (if_pos hs)⟩
  rw [if_neg hs] at hstate hpresent
  obtain ⟨b, hb⟩ := Option.isSome_iff_exists.1 (hpresent (by decide))
  exact ⟨b, hb, (hstate b hb).1⟩

/-- Fields of a station whose pins are driven. -/
theorem fields_of_undriven {st st' : Station} (h : st'.undriven = st.undriven) :
    st'.state = st.state ∧ st'.path = st.path ∧ st'.job = st.job ∧ st'.drainTimer = st.drainTimer ∧
      st'.lastJob = st.lastJob := by
  have h1 : st'.undriven.state = st.undriven.state := congrArg Station.state h
  have h2 : st'.undriven.path = st.undriven.path := congrArg Station.path h
  have h3 : st'.undriven.job = st.undriven.job := congrArg Station.job h
  have h4 : st'.undriven.drainTimer = st.undriven.drainTimer := congrArg Station.drainTimer h
  have h5 : st'.undriven.lastJob = st.undriven.lastJob := congrArg Station.lastJob h
  exact ⟨h1, h2, h3, h4, h5⟩

/-- Settles O25: the turns from `answers_blocked`, each station from `blockJobs_at`, one turn from the
`blockAt` equations. -/
theorem blockEndsTheJobsOfTheAccount : Obligations.BlockEndsTheJobsOfTheAccount := by
  refine ⟨fun s n hr => ⟨fun ha => refuses_of_work hr rfl (withAccount_none ha), fun a ha =>
    ⟨fun hk => refuses_of_work hr rfl ((withAccount_some ha).trans (if_pos hk)), fun hk => ⟨fun hj => ?_, ?_⟩⟩⟩,
    fun s n i => ⟨blockAt_unconcerned, fun j cause hj hc hcause => ?_⟩⟩
  · have hw : blockWork n s = (s.barredFor a n, bare .ok) := by
      rw [blockWork_found ha hk, blockJobs_unconcerned (s := s.barredFor a n) hj]
    exact answers_of_result hr rfl hw rfl rfl (keepsAllBut_barredFor s a n) fun _ => account_barredFor ha
  · intro barred ended hbarred hended
    subst hbarred
    refine (answers_blocked hr ha hk hended).imp fun t ⟨hacc, htok, hst, hstands⟩ => ?_
    obtain ⟨hblocked, hclosing⟩ := standsIn_spelled hacc hstands
    have hend : ended = (s.barredFor a n).blockJobs n := hended
    refine ⟨hacc, htok, hst, hblocked, hclosing, fun i => ⟨fun hj hs => ?_, fun j cause hj hc hcause =>
      ⟨fun hs => ?_, fun hs => ⟨fun hp => ?_, fun hp => ?_⟩⟩⟩⟩
    · rw [(hst i).1, hend, station_blockJobs_unconcerned (s := s.barredFor a n) hj hs]
      rfl
    · rw [(hst i).1, hend, station_blockJobs_recorded (s := s.barredFor a n) hj hc hs, hcause]
      rfl
    · obtain ⟨e1, e2, e3, e4, -⟩ := fields_of_undriven (hst i).1
      rw [e1, e2, e3, e4, hend, hcause]
      exact station_blockJobs_drains (s := s.barredFor a n) hj hc hs hp
    · obtain ⟨e1, -, e3, -, e5⟩ := fields_of_undriven (hst i).1
      rw [e1, e3, e5, hend, hcause]
      exact station_blockJobs_settled (s := s.barredFor a n) hj hc hs hp
  · subst hcause
    exact ⟨blockAt_recorded hj hc, fun hs => ⟨blockAt_drains hj hc hs, blockAt_settles hj hc hs⟩⟩

end Sys2Proof.Machine
end

section
/-! SUPPORT. The bytes of the reports written out: codes as places in their tables, masks as sums of powers
of two, the groups of R196 and R197 (O60). -/

namespace Sys2Proof.Machine

/-! ### Lengths -/

theorem length_be (k n : Nat) : (be k n).length = k := by
  induction k generalizing n with
  | zero => rfl
  | succ k ih => rw [be, List.length_append, ih]; rfl

theorem length_count (k n : Nat) : (count k n).length = k := length_be k _

theorem length_beCents (x : Int) : (beCents x).length = 4 := length_be 4 _

/-- A list of entries of one length. -/
theorem length_flatMap_const {α : Type} {f : α → List Byte} {k : Nat} (l : List α)
    (hf : ∀ a, (f a).length = k) : (l.flatMap f).length = l.length * k := by
  induction l with
  | nil => simp
  | cons a l ih => rw [List.flatMap_cons, List.length_append, hf, ih, List.length_cons]; ring

/-! ### Masks and flags (R198, Table 9-2) -/

/-- The mask of these bits in `k` bytes, bit 0 first, as a sum of powers of two. -/
def spelledMask (k : Nat) (bits : List Bool) : List Byte :=
  be k (bits.zipIdx.map fun b => if b.1 then 2 ^ b.2 else 0).sum

theorem count_maskOf_spelled (k : Nat) (bits : List Bool) (h : bits.length ≤ 8 * k) :
    count k (maskOf bits) = spelledMask k bits := count_maskOf k bits h

/-- Bits that are clear at the end of a mask add nothing. -/
theorem maskOf_trailing (a b c d : Bool) :
    maskOf [false, a, b, c, d, false, false, false] = maskOf [false, a, b, c, d] := rfl

theorem flag_spelled (b : Bool) : flag b = count 1 (if b then 1 else 0) := by cases b <;> rfl

theorem flag_true : flag true = [1#8] := rfl

theorem timerLeftMs_spelled : (fun t : Timer => t.elim 0 fun x => max 1 ((x + 9) / 10)) = timerLeftMs := by
  funext t
  cases t <;> rfl

/-! ### Codes as places in their tables (Tables 9-7 to 9-9) -/

theorem AccountKind.code_eq_idxOf (k : AccountKind) :
    [AccountKind.prepaid, .credit, .member, .transient].idxOf k = k.code := by cases k <;> rfl

theorem AccountState.code_eq_idxOf (x : AccountState) :
    [AccountState.active, .blocked, .closing, .pending, .opened, .settled].idxOf x = x.code := by
  cases x <;> rfl

theorem StationState.code_eq_idxOf (x : StationState) :
    [StationState.disabled, .idle, .opening, .running, .held, .closing, .jammed, .outOfService].idxOf x =
      x.code := by cases x <;> rfl

theorem CountMode.code_eq_idxOf (m : CountMode) :
    [CountMode.tracked, .feedOnly, .exitOnly].idxOf m = m.code := by cases m <;> rfl

theorem ClassSource.code_eq_idxOf (c : ClassSource) : [ClassSource.lines, .fixed].idxOf c = c.code := by
  cases c <;> rfl

theorem PermitMode.code_eq_idxOf (m : PermitMode) :
    [PermitMode.level, .interlocked, .partialMode].idxOf m = m.code := by cases m <;> rfl

theorem SessionStyle.code_eq_idxOf (x : SessionStyle) : [SessionStyle.tap, .inserted].idxOf x = x.code := by
  cases x <;> rfl

theorem jamCauseCode_eq_idxOf (c : Option JamCause) :
    [none, some JamCause.jamLine, some .pathOverflow, some .drainTimeout].idxOf c = jamCauseCode c := by
  rcases c with _ | c
  · rfl
  · cases c <;> rfl

theorem JobKind.code_spelled (k : JobKind) : (if k = .card then 1 else 0) = k.code := by cases k <;> rfl

theorem OpenedBy.code_spelled (o : OpenedBy) : (if o = .host then 1 else 0) = o.code := by cases o <;> rfl

theorem endRequestCode_spelled (c : Option EndCause) :
    (c.elim 0 fun c => c.place + 1) = endRequestCode c := by cases c <;> rfl

theorem requestCode_spelled (r : Option RequestState) :
    (if r = some .taken then 1 else 0) = absentAs0 r RequestState.code := by
  rcases r with _ | r
  · rfl
  · cases r <;> rfl

/-! ### The account record (R196, Table 9-7) -/

theorem length_tokenBytes (t : Token) : (tokenBytes t).length = 8 := by
  unfold tokenBytes
  exact length_be 8 _

theorem length_tokenListBytes (ts : List Token) : (tokenListBytes ts).length = 32 := by
  unfold tokenListBytes
  rw [length_flatMap_const _ length_tokenBytes]
  simp

theorem length_walkupBytes (w : Option Walkup) : (walkupBytes w).length = 15 := by
  simp only [walkupBytes, List.length_append, length_count, length_beCents]

theorem length_accountBytes (s : State) (a : Account) : (s.accountBytes a).length = 116 := by
  have hcounts : (a.classCounts.toList.flatMap (count 3)).length = 24 := by
    rw [length_flatMap_const _ (length_count 3), Vector.length_toList]
  unfold State.accountBytes presentCents flag
  simp only [List.length_append, length_count, length_be, length_beCents, length_tokenListBytes,
    length_walkupBytes, hcounts]

/-- The account record in its 116 bytes, every field in its place. -/
theorem accountBytes_spelled {s : State} {a : Account} {own member named : Bool}
    (hown : own = true ↔ a.kind ≠ .member) (hmember : member = true ↔ a.kind = .member)
    (hnamed : named = true ↔ a.kind = .prepaid ∨ a.kind = .credit) :
    s.accountBytes a =
      count 2 a.number ++ count 1 ([AccountKind.prepaid, .credit, .member, .transient].idxOf a.kind) ++
        count 1 ([AccountState.active, .blocked, .closing, .pending, .opened, .settled].idxOf a.state) ++
        spelledMask 2 [own, a.kind == .credit, own, member, member, member && a.periodCap.isSome, named,
          named, a.walkup.isSome, a.walkup.isSome, (a.walkup.bind Walkup.granted).isSome,
          (a.walkup.bind Walkup.requestState).isSome, (a.walkup.bind Walkup.finalCharge).isSome] ++
        beCents (if own then a.balance else 0) ++
        beCents (if a.kind = .credit then (a.creditLimit : Int) else 0) ++
        beCents (if own then (a.held : Int) else 0) ++ count 2 (a.payer.getD 0) ++
        beCents (if member then (a.memberHeld : Int) else 0) ++ beCents (a.periodCap.getD 0 : Nat) ++
        count 2 (if named then a.memberCount else 0) ++ count 1 (if named then a.schedule.val else 0) ++
        count 3 a.meter ++ count 1 (if a.meterSaturated then 1 else 0) ++
        beCents (a.periodCharges : Int) ++ a.classCounts.toList.flatMap (count 3) ++
        count 1 a.tokens.length ++
        ((a.tokens ++ List.replicate 4 0#64).take 4).flatMap (fun k => be 8 k.toNat) ++
        count 1 a.openJobs ++ count 2 ((a.walkup.map Walkup.authRef).getD 0) ++
        beCents ((a.walkup.map Walkup.requested).getD 0 : Nat) ++
        beCents ((a.walkup.bind Walkup.granted).getD 0 : Nat) ++
        count 1 (if a.walkup.bind Walkup.requestState = some .taken then 1 else 0) ++
        beCents ((a.walkup.bind Walkup.finalCharge).getD 0 : Nat) ++ beCents (s.available a) := by
  obtain rfl : own = (a.kind != .member) := by rw [Bool.eq_iff_iff, hown]; simp
  obtain rfl : member = (a.kind == .member) := by rw [Bool.eq_iff_iff, hmember]; simp
  obtain rfl : named = (a.kind == .prepaid || a.kind == .credit) := by rw [Bool.eq_iff_iff, hnamed]; simp
  have hmask : count 2 (maskOf a.presence) = spelledMask 2 a.presence := count_maskOf_spelled 2 _ (by simp [Account.presence])
  unfold State.accountBytes
  rw [hmask, AccountKind.code_eq_idxOf, AccountState.code_eq_idxOf, flag_spelled, requestCode_spelled]
  simp only [presentCents, walkupBytes, absentAs0, Option.map_id_fun, id_eq, beq_iff_eq, List.append_assoc]
  rfl

/-! ### The station groups (R197, Tables 9-8 and 9-9) -/

theorem configBytes_spelled (c : StationConfig) : configBytes c =
    spelledMask 1 [c.permitPolarity == .activeLow, c.polarity.ready == .activeLow,
        c.polarity.feed == .activeLow, c.polarity.exit == .activeLow, c.polarity.jam == .activeLow,
        c.polarity.classL == .activeLow, c.polarity.classC == .activeLow, c.polarity.classD == .activeLow] ++
      spelledMask 1 [c.feedEdge == .trailing, c.exitEdge == .trailing] ++
      count 2 c.filterSteps ++ count 1 c.divisor ++
      count 1 ([CountMode.tracked, .feedOnly, .exitOnly].idxOf c.countMode) ++
      count 1 ([ClassSource.lines, .fixed].idxOf c.classSource) ++
      count 1 c.fixedClass.index.val ++
      count 1 ([PermitMode.level, .interlocked, .partialMode].idxOf c.permitMode) ++
      count 2 c.tdSteps ++ count 1 (if c.walkupAllowed then 1 else 0) ++
      count 1 ([SessionStyle.tap, .inserted].idxOf c.style) := by
  unfold configBytes
  dsimp only
  rw [count_maskOf_spelled 1 _ (by simp), count_maskOf_spelled 1 _ (by simp), CountMode.code_eq_idxOf,
    ClassSource.code_eq_idxOf, PermitMode.code_eq_idxOf, SessionStyle.code_eq_idxOf, flag_spelled]

theorem inputMask_spelled (ready feed exit jam l c d : Bool) :
    inputMask ready feed exit jam l c d = spelledMask 1 [false, ready, feed, exit, jam, l, c, d] :=
  count_maskOf_spelled 1 _ (by simp)

theorem inputMask_filtered (ready feed exit jam : Bool) :
    inputMask ready feed exit jam false false false = spelledMask 1 [false, ready, feed, exit, jam] := by
  unfold inputMask
  rw [maskOf_trailing]
  exact count_maskOf_spelled 1 _ (by simp)

theorem portBytes_spelled (st : Station) : st.portBytes =
    spelledMask 1 [false, st.raw .ready, st.raw .feed, st.raw .exit, st.raw .jam, st.raw .classL,
        st.raw .classC, st.raw .classD] ++
      spelledMask 1 [false, st.filtered.ready, st.filtered.feed, st.filtered.exit, st.filtered.jam] ++
      spelledMask 1 [false, st.filterTimers.ready.isSome, st.filterTimers.feed.isSome,
        st.filterTimers.exit.isSome, st.filterTimers.jam.isSome] ++
      count 1 st.feedCounter ++ count 1 st.exitCounter ++ count 1 (if st.permit then 1 else 0) ++
      count 2 (timerLeftMs st.permitDelay) ++ count 2 st.unauthorisedFeeds ++ count 2 st.strayExits := by
  unfold Station.portBytes
  rw [inputMask_spelled, inputMask_filtered, inputMask_filtered, flag_spelled]

/-- When PERMIT is asserted, by the permit mode (Table 5-5). -/
theorem permitCondition_iff (st : Station) : st.permitCondition = true ↔ st.state = .running ∧
    (st.config.permitMode = .level ∨
      (st.config.permitMode = .interlocked ∧ st.filtered.ready = true ∧ st.permitDelay = none) ∨
      (st.config.permitMode = .partialMode ∧ st.permitDelay = none)) := by
  unfold Station.permitCondition
  rw [Bool.and_eq_true, beq_iff_eq]
  refine and_congr Iff.rfl ?_
  cases st.config.permitMode <;> simp

theorem pricesResult_spelled :
    (fun p : Prices => [p.sm, p.sc, p.lm, p.lc].flatMap fun c => count 2 c.front ++ count 2 c.back) =
      pricesResult := by
  funext p
  simp only [pricesResult, List.flatMap_cons, List.flatMap_nil, List.append_nil, List.append_assoc]

theorem scheduleBytes_spelled (d : Schedule) : scheduleBytes d =
    spelledMask 1 [d.t1.isSome, d.t2.isSome, d.t3.isSome] ++
      [d.t1, d.t2, d.t3].flatMap (fun x => count 3 (x.getD 0)) ++
      [d.d0, d.d1, d.d2, d.d3].flatMap (count 2) := by
  unfold scheduleBytes
  rw [count_maskOf_spelled 1 _ (by simp)]
  simp only [List.flatMap_cons, List.flatMap_nil, List.append_nil, List.append_assoc]

/-- The job record with its presence byte (Table 9-8). -/
theorem jobBytes_spelled (i : StationId) (j : Job) : flag true ++ jobBytes i j =
    [1#8] ++ count 1 i.val ++ count 2 j.user ++ count 2 j.billing ++
      count 1 (if j.kind = .card then 1 else 0) ++ count 1 (if j.openedBy = .host then 1 else 0) ++
      count 2 (j.authRef.getD 0) ++ count 1 j.snapshot.letter.val ++ count 1 j.snapshot.scheduleNumber.val ++
      pricesResult j.snapshot.prices ++ count 6 j.snapshot.reserve ++
      beCents (j.snapshot.holdQuantum : Int) ++ beCents (j.snapshot.jobMinimum : Int) ++
      spelledMask 1 [j.snapshot.schedule.t1.isSome, j.snapshot.schedule.t2.isSome,
        j.snapshot.schedule.t3.isSome] ++
      [j.snapshot.schedule.t1, j.snapshot.schedule.t2, j.snapshot.schedule.t3].flatMap
        (fun x => count 3 (x.getD 0)) ++
      [j.snapshot.schedule.d0, j.snapshot.schedule.d1, j.snapshot.schedule.d2,
        j.snapshot.schedule.d3].flatMap (count 2) ++
      beCents (j.hold : Int) ++ count 6 j.accrued ++ count 2 j.nextSeq ++ count 4 j.pricedSheets ++
      billedBytes j.billed ++ count 4 j.billedImpressions ++ count 4 j.voidedSheets ++
      count 4 j.voidedImpressions ++ count 2 j.jams ++ count 2 j.overruns ++ count 2 j.unpricedFeeds ++
      count 2 j.strayExits ++ count 1 (j.endRequest.elim 0 fun c => c.place + 1) ++
      count 4 (timerLeftMs j.idleTimer) := by
  unfold jobBytes snapshotBytes
  rw [scheduleBytes_spelled, flag_true, JobKind.code_spelled, OpenedBy.code_spelled, endRequestCode_spelled]
  simp only [List.append_assoc]

/-- The last-job record with its presence byte (Table 9-9). -/
theorem lastJobBytes_spelled (l : LastJob) : flag true ++ lastJobBytes l =
    [1#8] ++ count 2 l.user ++ count 2 l.billing ++ count 1 (if l.kind = .card then 1 else 0) ++
      count 1 (if l.openedBy = .host then 1 else 0) ++ count 2 (l.authRef.getD 0) ++
      count 1 (l.endCause.elim 0 fun c => c.place + 1) ++ billedBytes l.billed ++
      count 4 l.billedImpressions ++ count 4 l.voidedSheets ++ count 4 l.voidedImpressions ++
      count 2 l.jams ++ count 2 l.overruns ++ count 2 l.unpricedFeeds ++ count 2 l.strayExits ++
      beCents (l.hold : Int) ++ beCents (l.charge : Int) ++
      count 1 (if l.minimumApplied then 1 else 0) ++ beCents l.balanceAfter := by
  unfold lastJobBytes
  rw [flag_true, flag_spelled, JobKind.code_spelled, OpenedBy.code_spelled, endRequestCode_spelled]
  simp only [List.append_assoc]

/-- A record that may be absent, given what its bytes are in either case. -/
theorem presentBytes_of {α : Type} {f : α → List Byte} {o : Option α} {bytes : List Byte}
    (hn : o = none → bytes = [0#8]) (hs : ∀ x, o = some x → bytes = flag true ++ f x) :
    presentBytes f o = bytes := by
  cases o with
  | none => exact (hn rfl).symm
  | some x => exact (hs x rfl).symm

/-- The session token with its presence byte; absent it is eight 0 bytes (log 22). -/
theorem sessionToken_spelled (t : Option Token) : flag t.isSome ++ tokenBytes (t.getD 0#64) =
    t.elim (List.replicate 9 0#8) fun k => 1#8 :: be 8 k.toNat := by
  cases t <;> rfl

theorem alarmsMask_spelled (a : StationAlarms) : count 1 a.mask =
    spelledMask 1 [a.jamEntered, a.outOfService, a.unauthorisedFeed, a.strayExit, a.pathOverflow, a.overrun] :=
  count_maskOf_spelled 1 _ (by simp)

theorem alarms_any_spelled (a : StationAlarms) :
    a.any = (a != ⟨false, false, false, false, false, false⟩) := by
  obtain ⟨a1, a2, a3, a4, a5, a6⟩ := a
  revert a1 a2 a3 a4 a5 a6
  decide

theorem sixteenMask_spelled (f : StationId → Bool) :
    count 2 (sixteenMask f) = spelledMask 2 (allStations.map f) :=
  count_maskOf_spelled 2 _ (by simp [allStations])

end Sys2Proof.Machine
end

section
/-! SUPPORT. The reports: each reading command answers with the bytes of the state it reads, its pins driven,
where no retry is owed (O60). -/

namespace Sys2Proof.Machine

variable {s : State} {i : StationId} {a : Account} {n : Nat}

/-! ### Reading (R184, R199; log 7) -/

theorem keepsAllBut_drive (s : State) : KeepsAllBut [] s s.drive := fun p _ =>
  agrees_drive (keepsAllBut_refl [] s p (by simp))

/-- With no retry owed a reading command answers with what it reads and changes nothing. -/
theorem answers_of_reading {c : Instr} {look : State → Response} {status : Status} {results : List Byte}
    (hr : s.ready c) (hx : exec c s = s.hostCommand c (reading look)) (ho : s.retryOwed = [])
    (hl : look s.drive = answer status results) : Answers c s status results [] fun _ => True := by
  have hb : reading look s = (s.drive, answer status results) := by
    unfold reading
    rw [makeOwedRetries_of_none ho, hl]
  exact answers_of_work hr hx (by rw [hb]) (by rw [hb]; rfl) (by rw [hb]; rfl)
    (by rw [hb]; exact keepsAllBut_drive s) fun _ => trivial

theorem stationOf_val (i : StationId) : stationOf i.val = some i := dif_pos i.isLt

/-! ### READ ACCOUNT and LIST ACCOUNTS (R28, R29) -/

theorem accountBytes_drive (s : State) (a : Account) : s.drive.accountBytes a = s.accountBytes a := rfl

theorem readAccountResponse_absent (ha : s.account n = none) : s.readAccountResponse n = bare .notFound := by
  unfold State.readAccountResponse; rw [ha]

theorem readAccountResponse_found (ha : s.account n = some a) :
    s.readAccountResponse n = answer .ok (s.accountBytes a) := by
  unfold State.readAccountResponse; rw [ha]

/-- The first record above a number, in a table in order, is the lowest above it. -/
theorem find_lowestAbove {l : List Account} (ho : (l.map Account.number).Pairwise (· < ·)) (ha : a ∈ l)
    (hn : n < a.number) (hlow : ∀ b ∈ l, n < b.number → a.number ≤ b.number) :
    l.find? (fun b => decide (n < b.number)) = some a := by
  induction l with
  | nil => cases ha
  | cons b l ih =>
    rw [List.map_cons, List.pairwise_cons] at ho
    by_cases hb : n < b.number
    · rw [List.find?_cons_of_pos (by simpa using hb)]
      rcases List.mem_cons.1 ha with rfl | ha
      · rfl
      · have h1 := ho.1 _ (List.mem_map_of_mem ha)
        have h2 := hlow b (by simp) hb
        omega
    · rw [List.find?_cons_of_neg (by simpa using hb)]
      have hmem : a ∈ l := by
        rcases List.mem_cons.1 ha with rfl | ha
        · exact absurd hn hb
        · exact ha
      exact ih ho.2 hmem fun c hc => hlow c (by simp [hc])

theorem listAccountsResponse_none (h : ∀ a ∈ s.accounts, a.number ≤ n) :
    s.listAccountsResponse n = bare .notFound := by
  have hf : s.accounts.find? (fun a => decide (n < a.number)) = none :=
    List.find?_eq_none.2 fun a ha => by simpa using h a ha
  unfold State.listAccountsResponse
  rw [hf]

theorem listAccountsResponse_lowest (o : AccountsInOrder s) (ha : a ∈ s.accounts) (hn : n < a.number)
    (hlow : ∀ b ∈ s.accounts, n < b.number → a.number ≤ b.number) :
    s.listAccountsResponse n = answer .ok
      (count 2 a.number ++ count 1 a.kind.code ++ count 1 a.state.code ++ count 1 a.openJobs) := by
  unfold State.listAccountsResponse
  rw [find_lowestAbove o ha hn hlow]

/-- LIST ACCOUNTS answers with what it reads. -/
theorem answers_listAccounts {status : Status} {results : List Byte} (hr : s.ready (.listAccounts n))
    (hl : s.listAccountsResponse n = answer status results) :
    Answers (.listAccounts n) s status results [] fun _ => True :=
  answers_of_unchanged (body := fun s => (s, s.listAccountsResponse n)) hr rfl (by rw [hl])

/-! ### READ STATION (R95, R139, R197) -/

/-- READ STATION's results group by group, the port's permit level being that of its permit condition. -/
theorem stationBytes_of {st : Station} {permit : Bool} {port job lastJob : List Byte} (hst : st = s.station i)
    (hz : s.resetLow = false) (hp : st.permitCondition = permit)
    (hport : ({ st with permit := permit } : Station).portBytes = port) (hjob : presentBytes (jobBytes i) st.job = job)
    (hlast : presentBytes lastJobBytes st.lastJob = lastJob) :
    s.drive.stationBytes i =
      count 1 ([StationState.disabled, .idle, .opening, .running, .held, .closing, .jammed,
            .outOfService].idxOf st.state) ++
        count 1 ([SessionStyle.tap, .inserted].idxOf st.config.style) ++ count 1 st.tariff.val ++
        (st.sessionToken.elim (List.replicate 9 0#8) fun k => 1#8 :: be 8 k.toNat) ++
        count 2 (if st.state = .opening
          then (((s.walkupOf i).bind Account.walkup).map Walkup.authRef).getD 0 else 0) ++
        configBytes st.config ++ port ++
        count 1 ([none, some JamCause.jamLine, some .pathOverflow, some .drainTimeout].idxOf st.jamCause) ++
        count 4 (timerLeftMs st.jamTimer) ++ count 2 (timerLeftMs st.drainTimer) ++ job ++
        count 1 st.path.length ++ st.path.flatMap sheetBytes ++
        count 1 st.disputed.length ++ st.disputed.flatMap sheetBytes ++ lastJob ++
        spelledMask 1 [st.alarms.jamEntered, st.alarms.outOfService, st.alarms.unauthorisedFeed,
          st.alarms.strayExit, st.alarms.pathOverflow, st.alarms.overrun] := by
  have hdriven : s.drive.station i = { st with permit := permit } := by
    rw [State.station_drive, hz, ← hst, hp]
    rfl
  have href : s.drive.openingReference i = if st.state = .opening
      then (((s.walkupOf i).bind Account.walkup).map Walkup.authRef).getD 0 else 0 := by
    unfold State.openingReference
    rw [hdriven]
    rfl
  unfold State.stationBytes
  rw [hdriven, href]
  dsimp only
  rw [hport, hjob, hlast, StationState.code_eq_idxOf, SessionStyle.code_eq_idxOf, jamCauseCode_eq_idxOf,
    alarmsMask_spelled, ← sessionToken_spelled]
  simp only [sheetsBytes, List.append_assoc]

theorem readStationResponse_val (s : State) (i : StationId) :
    s.readStationResponse i.val = answer .ok (s.stationBytes i) := by
  unfold State.readStationResponse
  rw [stationOf_val]

/-! ### READ STATION ALARMS (R139) -/

/-- The answer of READ STATION ALARMS, with the flags that stay. -/
theorem answers_readStationAlarms (ho : s.retryOwed = []) (hr : s.ready (.readStationAlarms i.val)) :
    Answers (.readStationAlarms i.val) s .ok
      (count 1 (s.station i).alarms.mask ++ count 1 (s.station i).state.code) [.stations] fun t =>
        KeepsOtherStations i s t ∧
          (t.station i).undriven =
            { s.station i with permit := false, alarms := (s.station i).alarms.kept (s.station i).state } := by
  have hb : alarmsWork i.val s.makeOwedRetries =
      (s.drive.modifyStation i fun st => { st with alarms := st.alarms.kept st.state },
        answer .ok (count 1 (s.station i).alarms.mask ++ count 1 (s.station i).state.code)) := by
    rw [makeOwedRetries_of_none ho]
    refine (withStation_val i _).trans ?_
    dsimp only [State.stateByte]
    rw [State.station_drive]
  have hother := keepsOtherStations_modifyStation s.drive i fun st => { st with alarms := st.alarms.kept st.state }
  refine answers_of_work (body := fun s => alarmsWork i.val s.makeOwedRetries) hr rfl (by rw [hb])
    (by rw [hb]; rfl) (by rw [hb]; rfl) ?_ fun l => ?_
  · rw [hb]
    exact keepsAllBut_trans (keepsAllBut_mono (keepsAllBut_drive s) (by simp)) (keepsAllBut_modifyStation _ i _)
  · rw [hb]
    refine ⟨fun k hk => ?_, ?_⟩
    · exact (undriven_answered rfl l).trans ((hother k hk).trans (State.drive_undriven s k))
    · refine (undriven_answered (State.station_modifyStation_self _ i _) l).trans ?_
      rw [State.station_drive]
      rfl

/-! ### STATUS SUMMARY (R190) -/

theorem summaryBytes_drive (s : State) : s.drive.summaryBytes = s.summaryBytes := by
  have halarms : (fun i => (s.drive.station i).alarms.any) = fun i => (s.station i).alarms.any := by
    funext i
    rw [State.station_drive]
  have hstates : (fun i => count 1 (s.drive.station i).state.code) = fun i => count 1 (s.station i).state.code := by
    funext i
    rw [State.station_drive]
  unfold State.summaryBytes
  rw [halarms, hstates]
  rfl

theorem summaryBytes_spelled (s : State) : s.summaryBytes =
    count 1 s.wau.waiting.length ++
      count 1 (s.accounts.filter fun a => a.kind == .transient && a.state == .settled).length ++
      count 2 (1024 - s.accounts.length) ++ count 2 (2048 - s.tokens.length) ++
      spelledMask 2 (allStations.map fun i =>
        (s.station i).alarms != ⟨false, false, false, false, false, false⟩) ++
      spelledMask 2 (allStations.map fun i => (s.reader i).linkLost || (s.reader i).counterSaturated) ++
      allStations.flatMap fun i =>
        count 1 ([StationState.disabled, .idle, .opening, .running, .held, .closing, .jammed,
          .outOfService].idxOf (s.station i).state) := by
  unfold State.summaryBytes
  rw [sixteenMask_spelled, sixteenMask_spelled]
  simp only [alarms_any_spelled, StationState.code_eq_idxOf]
  rfl

/-- Settles O60: each report by its bytes written out, the reading commands by `answers_of_reading`. -/
theorem reportsReadTheRecords : Obligations.ReportsReadTheRecords := by
  intro fig mask left hfig hmask hleft
  obtain rfl : fig = count := hfig
  obtain rfl : mask = spelledMask := hmask
  obtain rfl : left = timerLeftMs := hleft.trans timerLeftMs_spelled
  refine ⟨fun s n hr ho => ⟨fun ha => ?_, fun a own member named ha hown hmember hnamed w hw bytes hbytes => ?_⟩,
    fun s n hr => ⟨fun h => answers_listAccounts hr (listAccountsResponse_none h), fun a o ha hn hlow => ?_⟩,
    fun s i st permit prices counts sheet config port job lastJob ho hr hst hconfig hpermit hport hprices hcounts
      hsheet hjn hjs hln hls => ?_, by decide, fun c => ?_, fun s i ho hr => ?_, fun s ho hr => ?_⟩
  · exact answers_of_reading (look := fun s => s.readAccountResponse n) hr rfl ho
      (readAccountResponse_absent (s := s.drive) ha)
  · subst hw
    rw [← accountBytes_spelled hown hmember hnamed] at hbytes
    rw [hbytes]
    exact ⟨length_accountBytes s a, answers_of_reading (look := fun s => s.readAccountResponse n) hr rfl ho
      ((readAccountResponse_found (s := s.drive) ha).trans (congrArg (answer .ok) (accountBytes_drive s a)))⟩
  · rw [AccountKind.code_eq_idxOf, AccountState.code_eq_idxOf]
    exact answers_listAccounts hr (listAccountsResponse_lowest o ha hn hlow)
  · obtain rfl : prices = pricesResult := hprices.trans pricesResult_spelled
    obtain rfl : counts = billedBytes := hcounts
    obtain rfl : sheet = sheetBytes := hsheet
    rw [← configBytes_spelled] at hconfig
    subst hconfig
    have hp : st.permitCondition = permit := Bool.eq_iff_iff.2 ((permitCondition_iff st).trans hpermit.symm)
    have hbytes := stationBytes_of hst hr.1 hp ((portBytes_spelled _).trans hport.symm)
      (presentBytes_of hjn fun j hj => (hjs j hj).trans (jobBytes_spelled i j).symm)
      (presentBytes_of hln fun l hl => (hls l hl).trans (lastJobBytes_spelled l).symm)
    exact answers_of_reading (look := fun s => s.readStationResponse i.val) hr rfl ho
      ((readStationResponse_val s.drive i).trans (congrArg (answer .ok) hbytes))
  · obtain ⟨l, c, d⟩ := c
    revert l c d
    decide
  · rw [StationState.code_eq_idxOf, ← alarmsMask_spelled]
    exact answers_readStationAlarms ho hr
  · rw [← summaryBytes_spelled]
    exact answers_of_reading (look := fun s => answer .ok s.summaryBytes) hr rfl ho
      (congrArg (answer .ok) (summaryBytes_drive s))

end Sys2Proof.Machine
end

section
/-! SUPPORT. The bounds of the charge (R50, R63) under the operations of jobs, paths and stations: accrued
within the hold, the job minimum within the hold. No operation but an opening needs to know anything else. -/

namespace Sys2Proof.Machine

/-! ### Jobs within their hold -/

/-- Accrued and the job minimum are within the hold (R50, R63). -/
def Job.secured (j : Job) : Prop := j.accrued ≤ j.hold * 100000 ∧ j.snapshot.jobMinimum ≤ j.hold

/-- The open job of the station, if there is one, is within its hold. -/
def Station.secured (st : Station) : Prop := ∀ j, st.job = some j → j.secured

/-- Every open job is within its hold. -/
def State.secured (s : State) : Prop := ∀ i, (s.station i).secured

theorem chargesLaw_iff (s : State) : ChargesLaw s ↔ MembersLaw s ∧ TariffsLaw s ∧ s.secured :=
  ⟨fun ⟨hm, ht, ha, hj⟩ => ⟨hm, ht, fun i j h => ⟨ha i j h, hj i j h⟩⟩,
    fun ⟨hm, ht, h⟩ => ⟨hm, ht, fun i j hj => (h i j hj).1, fun i j hj => (h i j hj).2⟩⟩

/-- Less accrued stays within the hold. -/
theorem Job.secured.lessAccrued {j : Job} (h : j.secured) (x : Nat) :
    ({ j with accrued := j.accrued - x } : Job).secured :=
  ⟨(Nat.sub_le _ _).trans h.1, h.2⟩

theorem Job.secured.moreHold {j : Job} (h : j.secured) (c : Nat) :
    ({ j with hold := j.hold + c } : Job).secured :=
  ⟨h.1.trans (Nat.mul_le_mul_right _ (Nat.le_add_right _ _)), h.2.trans (Nat.le_add_right _ _)⟩

/-- A forced extension covers the amount that the headroom does not (R63). -/
theorem Job.secured.priced {j : Job} (h : j.secured) (x : Nat) :
    ({ j with
      hold := j.hold + (if j.headroom < x then j.overrunCents x else 0)
      accrued := j.accrued + x } : Job).secured := by
  obtain ⟨ha, hm⟩ := h
  have hc : j.overrunCents x = (x - j.headroom + 99999) / 100000 := rfl
  have hr : j.headroom = j.hold * 100000 - j.accrued := rfl
  by_cases hx : j.headroom < x
  · rw [if_pos hx]
    constructor <;> simp only <;> omega
  · rw [if_neg hx]
    constructor <;> simp only <;> omega

theorem Station.secured.of_job {a b : Station} (h : a.secured) (hj : b.job = a.job) : b.secured :=
  fun j hb => h j (hj.symm.trans hb)

theorem Station.secured.of_undriven {a b : Station} (h : a.secured) (hu : b.undriven = a.undriven) : b.secured :=
  h.of_job (congrArg Station.job hu :)

theorem Station.secured.of_none {st : Station} (h : st.job = none) : st.secured :=
  fun j hj => absurd (h.symm.trans hj) (by simp)

theorem Station.secured.of_some {st : Station} {j : Job} (h : st.job = some j) (hj : j.secured) : st.secured :=
  fun _ hk => Option.some.inj (h.symm.trans hk) ▸ hj

/-! ### States -/

variable {s t : State}

theorem State.secured.of_stations (h : s.secured) (ht : t.stations = s.stations) : t.secured :=
  fun i => (h i).of_job (by unfold State.station; rw [ht])

/-- What leaves the other stations and secures its own. -/
theorem State.secured.apart {i : StationId} (h : s.secured) (ho : KeepsOtherStations i s t)
    (hi : (t.station i).secured) : t.secured := fun k => by
  by_cases hk : k = i
  · subst hk; exact hi
  · exact (h k).of_undriven (ho k hk)

theorem State.secured.foldl {α : Type} {f : State → α → State}
    (hf : ∀ s a, s.secured → (f s a).secured) (l : List α) (h : s.secured) : (l.foldl f s).secured := by
  induction l generalizing s with
  | nil => exact h
  | cons a l ih => exact ih (hf s a h)

theorem State.secured.drive (h : s.secured) : s.drive.secured := fun k =>
  (h k).of_undriven (State.drive_undriven s k)

theorem State.secured.modifyStation (h : s.secured) (i : StationId) {f : Station → Station}
    (hf : (s.station i).secured → (f (s.station i)).secured) : (s.modifyStation i f).secured :=
  h.apart (keepsOtherStations_modifyStation s i f) (by rw [State.station_modifyStation_self]; exact hf (h i))

/-- A change of a station that leaves its job. -/
theorem State.secured.keepingJob (h : s.secured) (i : StationId) {f : Station → Station}
    (hf : (f (s.station i)).job = (s.station i).job) : (s.modifyStation i f).secured :=
  h.modifyStation i fun hs => hs.of_job hf

theorem State.secured.modifyJob (h : s.secured) (i : StationId) {f : Job → Job}
    (hf : ∀ j, j.secured → (f j).secured) : (s.modifyJob i f).secured :=
  h.modifyStation i fun hs k hk => by
    obtain ⟨j, hj, rfl⟩ := Option.map_eq_some_iff.1 hk
    exact hf j (hs j hj)

theorem State.secured.modifyAlarms (h : s.secured) (i : StationId) (f : StationAlarms → StationAlarms) :
    (s.modifyAlarms i f).secured := h.keepingJob i rfl

theorem State.secured.placeDisplay (h : s.secured) (i : StationId) (d : Display) :
    (s.placeDisplay i d).secured := h

theorem State.secured.enter (h : s.secured) (i : StationId) (x : StationState) : (s.enter i x).secured :=
  h.keepingJob i rfl

theorem State.secured.enterRunning (h : s.secured) (i : StationId) : (s.enterRunning i).secured := h.enter i _

theorem State.secured.enterHeld (h : s.secured) (i : StationId) : (s.enterHeld i).secured := h.enter i _

/-! ### Holds, pricing, voids (R48, R59 to R65) -/

theorem State.secured.raiseHold (h : s.secured) (i : StationId) (j : Job) (c : Nat) :
    (s.raiseHold i j c).secured := fun k => by
  rw [station_raiseHold]
  split
  · intro q hq
    obtain ⟨r, hr, rfl⟩ := Option.map_eq_some_iff.1 hq
    exact (h i r hr).moreHold c
  · exact h k

theorem State.secured.coverTest (h : s.secured) (i : StationId) : (s.coverTest i).1.secured := by
  rcases coverTest_cases s i with e | e | ⟨j, _, e⟩ <;> rw [e]
  · exact h
  · exact h
  · exact h.raiseHold i j _

theorem State.secured.coverAfterPricing (h : s.secured) (i : StationId) : (s.coverAfterPricing i).secured := by
  unfold State.coverAfterPricing
  split
  · split
    · exact h.coverTest i
    · exact (h.coverTest i).enterHeld i
  · split
    · exact (h.coverTest i).enterRunning i
    · exact h.coverTest i
  · exact h

theorem State.secured.retryAt (h : s.secured) (n : Nat) (i : StationId) : (State.retryAt n s i).secured := by
  unfold State.retryAt
  split
  · split
    · exact (h.coverTest i).enterRunning i
    · exact h.coverTest i
  · exact h

theorem State.secured.retry (h : s.secured) (n : Nat) : (s.retry n).secured :=
  State.secured.foldl (fun _ i h => h.retryAt n i) allStations h

theorem State.secured.retryIfPresent (h : s.secured) (n : Nat) : (s.retryIfPresent n).secured := by
  unfold State.retryIfPresent
  split
  · exact h.retry n
  · exact h

theorem State.secured.makeOwedRetries (h : s.secured) : s.makeOwedRetries.secured :=
  (State.secured.of_stations (State.secured.foldl (fun _ n h => h.retry n) s.retryOwed h) rfl).drive

theorem State.secured.restartIdle (h : s.secured) (i : StationId) : (s.restartIdle i).secured := by
  rcases restartIdle_cases s i with ⟨_, e⟩ | ⟨_, _, e⟩ <;> rw [e]
  · exact h.modifyJob i fun _ hj => hj
  · exact h

theorem State.secured.billSheet (h : s.secured) (i : StationId) (x : Sheet) : (s.billSheet i x).secured :=
  h.modifyJob i fun _ hj => hj

theorem State.secured.priceSheet (h : s.secured) {i : StationId} {j : Job} (c : SheetClass)
    (hj : (s.station i).job = some j) : (s.priceSheet i j c).secured := by
  refine h.apart (priceSheet_frame s i j c).2 ?_
  rw [station_priceSheet _ _ _ _ hj]
  exact .of_some rfl ((h i j hj).priced _)

theorem State.secured.voidSheet (h : s.secured) (i : StationId) (x : Sheet) : (State.voidSheet i s x).secured := by
  unfold State.voidSheet
  split
  · exact h
  · exact State.secured.modifyJob (s := s.modifyAccount _ _) h i fun _ hk => hk.lessAccrued x.amount

theorem State.secured.voidDisputed (h : s.secured) (i : StationId) : (s.voidDisputed i).secured :=
  (State.secured.foldl (fun _ x h => h.voidSheet i x) _ h).keepingJob i rfl

theorem State.secured.voidPath (h : s.secured) (i : StationId) : (s.voidPath i).secured :=
  (State.secured.foldl (fun _ x h => h.voidSheet i x) _ h).keepingJob i rfl

/-! ### The end of a job (R68 to R77) -/

theorem State.secured.recordEnd (h : s.secured) (i : StationId) (c : EndCause) : (s.recordEnd i c).secured :=
  h.modifyJob i fun _ hj => hj

/-- A settled station has no job, and the retry of R77 raises holds alone. -/
theorem State.secured.settle (h : s.secured) (i : StationId) (dest : StationState) :
    (s.settle i dest).secured := by
  unfold State.settle
  split
  · exact h
  · next j _ =>
    obtain ⟨-, hothers, -, -, hstation⟩ := settleJob_facts s i dest j
    exact (h.apart hothers (.of_none (by rw [hstation]))).retryIfPresent _

theorem State.secured.enterClosing (h : s.secured) (i : StationId) : (s.enterClosing i).secured := by
  have h1 := (h.enter i .closing).modifyJob i (f := fun j => { j with idleTimer := none }) fun _ hj => hj
  unfold State.enterClosing
  dsimp only
  split
  · exact h1.settle i _
  · exact h1.keepingJob i rfl

theorem State.secured.requestEnd (h : s.secured) (i : StationId) (c : EndCause) : (s.requestEnd i c).secured := by
  unfold State.requestEnd
  dsimp only
  split
  · exact (h.recordEnd i c).enterClosing i
  · exact (h.recordEnd i c).enterClosing i
  · exact h.recordEnd i c

/-! ### Jams and station reset (R119, R130, R132, R136) -/

theorem State.secured.jamEntry (h : s.secured) (i : StationId) (c : JamCause) : (s.jamEntry i c).secured := by
  unfold State.jamEntry
  extract_lets s1 s2
  have h1 : s1.secured := h.keepingJob i rfl
  have h2 : s2.secured := h1.modifyJob i fun _ hj => hj
  exact h2.placeDisplay i _

theorem State.secured.resumeAfterJam (h : s.secured) (i : StationId) : (s.resumeAfterJam i).secured := by
  unfold State.resumeAfterJam
  refine State.secured.restartIdle ?_ i
  split
  · exact (h.coverTest i).enterRunning i
  · exact (h.coverTest i).enterHeld i

theorem State.secured.jamClear (h : s.secured) (i : StationId) : (s.jamClear i).secured := by
  unfold State.jamClear
  extract_lets n s1 s2
  have h2 : s2.secured := ((h.voidDisputed i).keepingJob i rfl).placeDisplay i _
  split
  · exact h2.resumeAfterJam i
  · exact h2.enterClosing i

theorem State.secured.jamTimedOut (h : s.secured) (i : StationId) : (s.jamTimedOut i).secured := by
  unfold State.jamTimedOut
  extract_lets s1 s2 s3
  have h1 : s1.secured := (h.voidDisputed i).keepingJob i rfl
  exact (((h1.recordEnd i _).settle i _).modifyAlarms i _).placeDisplay i _

theorem State.secured.resetJob (h : s.secured) (i : StationId) : (s.resetJob i).secured := by
  unfold State.resetJob
  extract_lets s1
  have h1 : s1.secured := h.keepingJob i rfl
  exact (((h1.voidDisputed i).voidPath i).recordEnd i _).settle i _

/-! ### Feeds, exits and lines (R99 to R111, R120 to R128) -/

theorem State.secured.startPermitDelay (h : s.secured) (i : StationId) : (s.startPermitDelay i).secured := by
  unfold State.startPermitDelay
  split
  · exact h
  · exact h.keepingJob i rfl

theorem State.secured.unpricedFeed (h : s.secured) (i : StationId) : (s.unpricedFeed i).secured :=
  h.modifyJob i fun _ hj => hj

theorem State.secured.queueOrBill (h : s.secured) (i : StationId) (x : Sheet) : (s.queueOrBill i x).secured := by
  rcases queueOrBill_cases s i x with ⟨_, e⟩ | ⟨_, e⟩ <;> rw [e]
  · exact h.keepingJob i rfl
  · exact h.billSheet i x

theorem State.secured.pricingRequest (h : s.secured) (i : StationId) : (s.pricingRequest i).secured := by
  unfold State.pricingRequest
  split
  · exact h
  · next j hj => exact (((h.priceSheet _ hj).queueOrBill i _).restartIdle i).coverAfterPricing i

theorem State.secured.feedWithJob (h : s.secured) (i : StationId) : (s.feedWithJob i).secured := by
  unfold State.feedWithJob
  split
  · exact ((h.unpricedFeed i).modifyAlarms i _).jamEntry i _
  · exact h.pricingRequest i

theorem State.secured.completedFeed (h : s.secured) (i : StationId) : (s.completedFeed i).secured := by
  have h1 := h.startPermitDelay i
  unfold State.completedFeed
  dsimp only
  split
  · exact h1.keepingJob i rfl
  · exact h1.keepingJob i rfl
  · exact h1.keepingJob i rfl
  · exact h1.keepingJob i rfl
  · exact h1.feedWithJob i
  · exact h1.feedWithJob i
  · exact h1.feedWithJob i
  · exact h1.unpricedFeed i

theorem State.secured.strayExitOfJob (h : s.secured) (i : StationId) : (s.strayExitOfJob i).secured :=
  (h.modifyJob i (f := fun j => { j with strayExits := satAdd Config.countTop j.strayExits 1 })
    fun _ hj => hj).modifyAlarms i _

theorem State.secured.exitFromPath (h : s.secured) (i : StationId) : (s.exitFromPath i).secured := by
  unfold State.exitFromPath
  split
  · exact h.strayExitOfJob i
  · exact (h.keepingJob i rfl).billSheet i _

theorem State.secured.exitFromDisputed (h : s.secured) (i : StationId) : (s.exitFromDisputed i).secured := by
  unfold State.exitFromDisputed
  split
  · exact h.strayExitOfJob i
  · exact (h.keepingJob i rfl).billSheet i _

theorem State.secured.exitInClosing (h : s.secured) (i : StationId) : (s.exitInClosing i).secured := by
  unfold State.exitInClosing
  dsimp only
  split
  · exact ((h.exitFromPath i).keepingJob i rfl).settle i _
  · exact h.exitFromPath i

theorem State.secured.completedExit (h : s.secured) (i : StationId) : (s.completedExit i).secured := by
  unfold State.completedExit
  split
  · exact (h.exitFromPath i).restartIdle i
  · exact (h.exitFromPath i).restartIdle i
  · exact h.exitInClosing i
  · exact h.exitFromDisputed i
  all_goals exact h.keepingJob i rfl

theorem State.secured.feedPulse (h : s.secured) (i : StationId) : (s.feedPulse i).secured := by
  have h1 := h.keepingJob i (f := fun st =>
    { st with feedCounter := (countPulse (s.station i).feedCounter (s.station i).config.divisor).1 }) rfl
  unfold State.feedPulse
  dsimp only
  split
  · exact h
  · split
    · exact h1.completedFeed i
    · exact h1

theorem State.secured.exitPulse (h : s.secured) (i : StationId) : (s.exitPulse i).secured := by
  have h1 := h.keepingJob i (f := fun st =>
    { st with exitCounter := (countPulse (s.station i).exitCounter (s.station i).config.divisor).1 }) rfl
  unfold State.exitPulse
  dsimp only
  split
  · exact h
  · split
    · exact h1.completedExit i
    · exact h1
  · split
    · exact h1.completedFeed i
    · exact h1

theorem State.secured.lineEdge (h : s.secured) (i : StationId) (l : FilteredLine) (a : Bool) :
    (s.lineEdge i l a).secured := by
  unfold State.lineEdge
  split
  · exact h
  · split
    · exact h.feedPulse i
    · exact h
  · split
    · exact h.exitPulse i
    · exact h
  · split
    · unfold State.jamActivation
      split
      · exact h.jamEntry i _
      · exact h.jamEntry i _
      · exact h.jamEntry i _
      · exact h
    · unfold State.jamRelease
      split
      · exact h.jamClear i
      · exact h

theorem State.secured.filterExpiry (h : s.secured) (i : StationId) (l : FilteredLine) :
    (s.filterExpiry i l).secured := by
  have h1 := h.keepingJob i (f := fun st => st.follow l) rfl
  unfold State.filterExpiry
  dsimp only
  split
  · exact h
  · split
    · exact h1
    · exact h1.lineEdge i l _

theorem State.secured.idleExpiry (h : s.secured) (i : StationId) : (s.idleExpiry i).secured := by
  unfold State.idleExpiry
  split
  · exact h
  · exact (h.modifyJob i (f := fun j => { j with idleTimer := none }) fun _ hj => hj).requestEnd i _

end Sys2Proof.Machine
end

section
/-! SUPPORT. The bounds of the charge at an opening (R50, R55), under reader events, and under every command
and every step (O9). -/

namespace Sys2Proof.Machine

variable {s t : State}

/-! ### Openings (Table 3-2, R33, R55) -/

/-- What the hold of an opening rests on: records that suit their kinds, tariffs that are consistent. -/
def State.opensSoundly (s : State) : Prop := (∀ a ∈ s.accounts, a.suitsKind) ∧ TariffsLaw s

theorem State.opensSoundly.of_eq (h : s.opensSoundly) (ha : t.accounts = s.accounts)
    (ht : t.tariffs = s.tariffs) : t.opensSoundly := by
  unfold State.opensSoundly TariffsLaw
  rw [ha, ht]
  exact h

/-- A defined tariff's job minimum and start threshold are within its quantum, and that within the job
ceiling (R31, R33). -/
theorem Tariff.consistent.bounds {d : Tariff} (h : d.consistent) (hd : d.isDefined = true) :
    d.jobMinimum ≤ d.startThreshold ∧ d.startThreshold ≤ d.holdQuantum ∧ d.holdQuantum ≤ 100000 := by
  unfold Tariff.consistent at h
  rw [if_pos hd] at h
  obtain ⟨-, -, hmin, hstart, -, htop⟩ := h
  exact ⟨hmin, hstart, htop⟩

/-- A TRANSIENT record has no more available than its balance: it has neither payer nor credit limit. -/
theorem available_transient_le {u : Account} (hu : u.suitsKind) (hk : u.kind = .transient) :
    s.available u ≤ u.balance := by
  obtain ⟨-, -, -, hpayer, -, -, hlimit⟩ := hu
  have hp : u.payer = none := by
    rw [← Option.not_isSome_iff_eq_none, hpayer, hk]
    simp
  have hl : u.creditLimit = 0 := hlimit (by rw [hk]; simp)
  rw [available_own hp, hl]
  omega

/-- The hold of an opening whose checks are passed covers the job minimum: check 5 has the start threshold
available, which covers it. -/
theorem jobMinimum_le_openingHold {i : StationId} {u : Account} {w : Bool} (ht : TariffsLaw s)
    (hu : u.suitsKind) (hc : s.openingCheck i u w = none) :
    (s.tariffOf i).jobMinimum ≤ s.openingHold i u := by
  obtain ⟨-, hd, -, -, havail⟩ := openingCheck_none hc
  have hcons : (s.tariffOf i).consistent := ht (s.station i).tariff
  obtain ⟨hmin, hstart, htop⟩ := hcons.bounds hd
  unfold State.openingHold
  split
  · next hk =>
    have := available_transient_le (s := s) hu hk
    omega
  · simp only [Config.jobCeiling]
    omega

theorem State.secured.openAt (h : s.secured) {i : StationId} {u : Account} {w : Bool} (y : OpenedBy)
    (ht : TariffsLaw s) (hu : u.suitsKind) (hc : s.openingCheck i u w = none) : (s.openAt i u y).secured := by
  intro k
  rw [station_openAt]
  split
  · exact .of_some rfl ⟨Nat.zero_le _, jobMinimum_le_openingHold ht hu hc⟩
  · exact h k

/-! ### Walk-ups (R172, R173) -/

theorem State.secured.startWalkup (h : s.secured) (i : StationId) (k : Token) : (s.startWalkup i k).secured := by
  intro m
  rw [station_startWalkup]
  split
  · exact (h i).of_job rfl
  · exact h m

theorem State.secured.endWalkup (h : s.secured) (a : Account) (i : StationId) (d : Display) :
    (s.endWalkup a i d).secured := by
  obtain ⟨-, hothers, -, -, hstation, -⟩ := endWalkup_facts s a i d
  exact h.apart hothers (by rw [hstation]; exact (h i).of_job rfl)

theorem State.secured.cancelWalkup (h : s.secured) (i : StationId) : (s.cancelWalkup i).secured := by
  unfold State.cancelWalkup
  split
  · exact h
  · exact h.endWalkup _ i _

theorem State.secured.authExpiry (h : s.secured) (n : Nat) : (s.authExpiry n).secured := by
  unfold State.authExpiry
  split
  · exact h
  · split
    · split
      · exact h
      · exact h.endWalkup _ _ _
    · exact h

/-! ### Reader events (R81 to R87) -/

theorem State.secured.cardAtIdle (h : s.secured) (ho : s.opensSoundly) (i : StationId) (k : Token)
    (kind : CardKind) : (s.cardAtIdle i k kind).secured := by
  unfold State.cardAtIdle
  split
  · unfold State.unknownCard
    split
    · unfold State.requestWalkup
      split
      · exact h.startWalkup i k
      · exact h.placeDisplay i _
    · exact h.placeDisplay i _
  · split
    · exact h.placeDisplay i _
    · next u hu =>
      unfold State.knownCard
      split
      · exact h.placeDisplay i _
      · unfold State.cardOpens
        split
        · exact h.placeDisplay i _
        · next hc => exact (h.openAt .reader ho.2 (ho.1 u (State.account_mem s hu)) hc).keepingJob i rfl

theorem State.secured.ownCardRunning (h : s.secured) (i : StationId) (k : Token) :
    (s.ownCardRunning i k).secured := by
  unfold State.ownCardRunning
  split
  · exact h
  · split
    · exact h.requestEnd i _
    · exact h.placeDisplay i _

theorem State.secured.cardInSession (h : s.secured) (i : StationId) (k : Token) :
    (s.cardInSession i k).secured := by
  unfold State.cardInSession
  split
  · unfold State.ownCard
    split
    · exact h.placeDisplay i _
    · exact h.ownCardRunning i k
    · exact h.ownCardRunning i k
    · exact h.placeDisplay i _
    · exact h
  · exact h.placeDisplay i _

theorem State.secured.cardEvent (h : s.secured) (ho : s.opensSoundly) (i : StationId) (k : Token)
    (kind : CardKind) (x : SessionStyle) : (s.cardEvent i k kind x).secured := by
  unfold State.cardEvent
  dsimp only
  split_ifs
  · exact h.placeDisplay i _
  · exact h.placeDisplay i _
  · exact h.cardAtIdle ho i k kind
  · exact h.cardInSession i k

theorem State.secured.cardOutEvent (h : s.secured) (i : StationId) : (s.cardOutEvent i).secured := by
  have hout : (s.sessionCardOut i).secured := by
    unfold State.sessionCardOut
    split
    · exact h.requestEnd i _
    · exact h
  unfold State.cardOutEvent
  split
  · exact h
  · split
    · exact h.cancelWalkup i
    · exact hout
    · exact hout
    · exact hout
    · exact h

theorem State.secured.keyEvent (h : s.secured) (i : StationId) (k : Key) : (s.keyEvent i k).secured := by
  unfold State.keyEvent
  split
  · exact h.cancelWalkup i
  · exact h.requestEnd i _
  · exact h.requestEnd i _
  · exact h.requestEnd i _
  · exact h

theorem opensSoundly_restartIdle (ho : s.opensSoundly) (i : StationId) : (s.restartIdle i).opensSoundly := by
  rcases restartIdle_cases s i with ⟨_, e⟩ | ⟨_, _, e⟩ <;> rw [e]
  · exact ho.of_eq rfl rfl
  · exact ho

theorem State.secured.readerEvent (h : s.secured) (ho : s.opensSoundly) (i : StationId) (e : ReaderEvent) :
    (s.readerEvent i e).secured := by
  have h1 := h.restartIdle i
  unfold State.readerEvent
  dsimp only
  split
  · exact h
  · cases e with
    | card k kind x => exact h1.cardEvent (opensSoundly_restartIdle ho i) i k kind x
    | cardOut => exact h1.cardOutEvent i
    | key k => exact h1.keyEvent i k

theorem State.secured.answerTaken (h : s.secured) (ho : s.opensSoundly) (frame : List Byte) :
    (s.answerTaken frame).secured := by
  unfold State.answerTaken
  split
  · next r _ _ =>
    have h1 : (s.takeAnswer r frame).secured := by
      unfold State.takeAnswer
      dsimp only
      split
      · exact State.secured.readerEvent (s := s.modifyReader r _) h ho r _
      · exact h
    exact h1
  · exact h

/-! ### Host commands -/

theorem State.secured.hostCommand (h : s.secured) {c : Instr} {body : State → State × Response}
    (e : s.hostCommand c body = .next t) (hb : (body s).1.secured) : t.secured := by
  rcases hostCommand_cases s c body with ⟨_, g⟩ | ⟨_, _, g⟩ | ⟨_, g⟩ <;> rw [g] at e <;> cases e
  · exact h
  · exact (State.secured.of_stations (s := s) h rfl).drive
  · exact (State.secured.of_stations hb rfl).drive

theorem State.secured.withRetries (h : s.secured) (l : List Nat) : ({ s with retryOwed := l } : State).secured := h

theorem State.secured.event (h : s.secured) {u : State} (e : s.event u = .next t) (hu : u.secured) :
    t.secured := by
  unfold State.event at e
  split at e <;> cases e
  · exact h
  · exact hu.drive

theorem State.secured.withStation (h : s.secured) {n : Nat} {body : StationId → State → State × Response}
    (hb : ∀ i, (body i s).1.secured) : (withStation n body s).1.secured := by
  unfold Machine.withStation
  split
  · exact h
  · exact hb _

theorem State.secured.withAccount (h : s.secured) {n : Nat} {body : Account → State → State × Response}
    (hb : ∀ a, s.account n = some a → (body a s).1.secured) : (withAccount n body s).1.secured := by
  unfold Machine.withAccount
  split
  · exact h
  · next a ha => exact hb a ha

/-- The work of an account command leaves the stations when it leaves them for the account it finds. -/
theorem stations_withAccount {n : Nat} {body : Account → State → State × Response}
    (h : ∀ a, (body a s).1.stations = s.stations) : (withAccount n body s).1.stations = s.stations := by
  unfold withAccount
  split
  · rfl
  · exact h _

theorem stations_withStation {n : Nat} {body : StationId → State → State × Response}
    (h : ∀ i, (body i s).1.stations = s.stations) : (withStation n body s).1.stations = s.stations := by
  unfold withStation
  split
  · rfl
  · exact h _

/-! ### Commands that leave the stations -/

theorem stations_loadAccount (f : LoadForm) (s : State) : (loadAccountWork f s).1.stations = s.stations := by
  unfold loadAccountWork
  (repeat' split) <;> rfl

theorem stations_updateAccount (f : UpdateForm) (s : State) :
    (updateAccountWork f s).1.stations = s.stations := by
  refine stations_withAccount fun a => ?_
  unfold State.updateAccount State.movePayer State.addMember State.dropMember
  dsimp only
  (repeat' split) <;> rfl

theorem stations_credit (n : Nat) (x : Int) (s : State) : (creditWork n x s).1.stations = s.stations := by
  unfold creditWork
  split
  · rfl
  · exact stations_withAccount fun a => by split_ifs <;> rfl

theorem stations_debit (n : Nat) (x : Int) (s : State) : (debitWork n x s).1.stations = s.stations := by
  unfold debitWork
  split
  · rfl
  · exact stations_withAccount fun a => by split_ifs <;> rfl

theorem stations_unblock (n : Nat) (s : State) : (unblockWork n s).1.stations = s.stations :=
  stations_withAccount fun a => by split_ifs <;> rfl

theorem stations_removeAccount (s : State) (n : Nat) : (s.removeAccount n).stations = s.stations := by
  rw [onlyAccounts_removeAccount s n]

theorem stations_retireAccount (n : Nat) (s : State) : (retireAccountWork n s).1.stations = s.stations := by
  refine stations_withAccount fun a => ?_
  split_ifs
  · exact stations_removeAccount s n
  · rfl
  · rfl
  · rfl
  · exact stations_removeAccount s n

theorem stations_closePeriod (n : Nat) (s : State) : (closePeriodWork n s).1.stations = s.stations := by
  unfold closePeriodWork
  split
  · rfl
  · exact stations_withAccount fun _ => rfl

theorem stations_bindToken (k : Token) (n : Nat) (s : State) :
    (bindTokenWork k n s).1.stations = s.stations := by
  unfold bindTokenWork
  split
  · rfl
  · exact stations_withAccount fun a => by split_ifs <;> rfl

theorem stations_unbindToken (k : Token) (s : State) : (unbindTokenWork k s).1.stations = s.stations := by
  unfold unbindTokenWork
  (repeat' split) <;> rfl

theorem stations_writeTariff (l : Nat) (f : TariffForm) (s : State) :
    (writeTariffWork l f s).1.stations = s.stations := by
  unfold writeTariffWork
  (repeat' split) <;> rfl

theorem stations_writeSchedule (n : Nat) (f : ScheduleForm) (s : State) :
    (writeScheduleWork n f s).1.stations = s.stations := by
  unfold writeScheduleWork
  (repeat' split) <;> rfl

theorem stations_setGlobals (f : Option GlobalsForm) (s : State) :
    (setGlobalsWork f s).1.stations = s.stations := by
  unfold setGlobalsWork
  (repeat' split) <;> rfl

theorem stations_configureReader (n x : Nat) (s : State) :
    (configureReaderWork n x s).1.stations = s.stations :=
  stations_withStation fun i => by split <;> rfl

theorem stations_presetReaderCounters (n w x y z : Nat) (s : State) :
    (presetReaderCountersWork n w x y z s).1.stations = s.stations :=
  stations_withStation fun i => by split <;> rfl

theorem stations_sendShopMessage (n : Nat) (s : State) :
    (sendShopMessageWork n s).1.stations = s.stations := by
  unfold sendShopMessageWork
  split <;> rfl

theorem stations_takeAuthRequest (s : State) : (takeAuthRequestWork s).1.stations = s.stations := by
  unfold takeAuthRequestWork
  split <;> rfl

/-! ### Commands at the stations -/

theorem State.secured.blockWork (h : s.secured) (n : Nat) : (blockWork n s).1.secured := by
  have hb : ∀ u : State, u.secured → (u.blockJobs n).secured := fun u hu => by
    refine State.secured.foldl (fun u i hu => ?_) allStations hu
    unfold State.blockAt
    split
    · exact hu.requestEnd i _
    · exact hu
  refine h.withAccount fun a _ => ?_
  split_ifs
  · exact h
  · dsimp only
    exact hb s h
  · dsimp only
    exact hb (s.setAccountState n .blocked) h

theorem State.secured.configureStation (h : s.secured) (n : Nat) (f : ConfigForm) :
    (configureStationWork n f s).1.secured := by
  refine h.withStation fun i => ?_
  split
  · exact h
  · split_ifs
    · exact h
    · exact h.keepingJob i rfl
    · exact h

theorem State.secured.enableStation (h : s.secured) (n : Nat) : (enableStationWork n s).1.secured := by
  refine h.withStation fun i => ?_
  split
  · exact h.enter i _
  · exact h
  · exact h

theorem State.secured.disableStation (h : s.secured) (n : Nat) : (disableStationWork n s).1.secured := by
  refine h.withStation fun i => ?_
  split
  · exact h.enter i _
  · exact h.enter i _
  · exact h
  · exact h

theorem State.secured.setStationTariff (h : s.secured) (n l : Nat) : (setStationTariffWork n l s).1.secured := by
  refine h.withStation fun i => ?_
  split
  · exact h
  · exact h.keepingJob i rfl

theorem State.secured.alarmsWork (h : s.secured) (n : Nat) : (alarmsWork n s).1.secured :=
  h.withStation fun i => h.keepingJob i rfl

theorem State.secured.openJob (h : s.secured) (ho : s.opensSoundly) (k n : Nat) :
    (openJobWork k n s).1.secured := by
  refine h.withStation fun i => h.withAccount fun u hu => ?_
  split
  · exact h
  · next hc => exact h.openAt .host ho.2 (ho.1 u (State.account_mem s hu)) hc

theorem State.secured.endJob (h : s.secured) (n : Nat) : (endJobWork n s).1.secured := by
  refine h.withStation fun i => ?_
  split
  · exact h.requestEnd i _
  · exact h.requestEnd i _
  · exact h.requestEnd i _
  · exact h.requestEnd i _
  · exact h.cancelWalkup i
  all_goals exact h

theorem State.secured.clearJam (h : s.secured) (n : Nat) : (clearJamWork n s).1.secured := by
  refine h.withStation fun i => ?_
  split
  · exact h.jamClear i
  · exact h

theorem State.secured.resetStation (h : s.secured) (n : Nat) : (resetStationWork n s).1.secured := by
  refine h.withStation fun i => ?_
  split
  · exact h.resetJob i
  · exact h.resetJob i
  · exact h.resetJob i
  · exact h.resetJob i
  · exact h.cancelWalkup i
  all_goals exact h

theorem State.secured.returnToService (h : s.secured) (n : Nat) : (returnToServiceWork n s).1.secured := by
  refine h.withStation fun i => ?_
  split_ifs
  · exact h
  · exact h.enter i _
  · exact h

/-- The record of an approval with its grant still suits its kind, so its hold covers the job minimum. -/
theorem State.secured.approveResult (h : s.secured) (ht : TariffsLaw s) {a : Account} (ha : a.suitsKind)
    (w : Walkup) (g : Nat) : (s.approveResult a w g).1.secured := by
  unfold State.approveResult
  extract_lets grant b s1
  have h1 : s1.secured := h
  split
  · exact h1.endWalkup _ _ _
  · split
    · exact h1.endWalkup _ _ _
    · next hc =>
      exact h1.openAt .reader ht ((a.follows_withGrant grant).suitsKind ha) hc

theorem State.secured.authResult (h : s.secured) (ho : s.opensSoundly) (r o : Nat) (x : Option Int) :
    (authResultWork r o x s).1.secured := by
  unfold authResultWork
  split
  · exact h
  · next result _ =>
    split
    · exact h
    · next a w hw =>
      obtain ⟨hm, -⟩ := takenRecord_some hw
      cases result with
      | declined => exact h.endWalkup _ _ _
      | approved g => exact h.approveResult ho.2 (ho.1 a hm) w g

/-! ### Every command, every step -/

theorem secured_released (s : State) : s.released.secured := by
  intro k
  have e : s.released.station k = Station.afterReset (s.station k).pins := by
    show (mapSixteen _ s.stations)[k] = _
    rw [mapSixteen_get]
    rfl
  rw [e]
  exact .of_none rfl

theorem State.secured.tick (h : s.secured) : s.tick.secured := by
  unfold State.tick
  split
  · exact h
  · intro k
    show ((mapSixteen (fun _ st => st.count) s.stations)[k] : Station).secured
    rw [mapSixteen_get]
    intro j hj
    obtain ⟨q, hq, rfl⟩ := Option.map_eq_some_iff.1 hj
    exact h k q hq

theorem State.secured.lineLevelChange (h : s.secured) {i : StationId} {l : InputLine} {high : Bool}
    (e : execLineLevelChange i l high s = .next t) : t.secured := by
  have hd : (s.modifyStation i fun st => st.levelChange l high).secured := by
    refine h.keepingJob i ?_
    unfold Station.levelChange
    dsimp only
    split <;> rfl
  unfold execLineLevelChange at e
  split_ifs at e <;> cases e
  · exact h
  · exact h.keepingJob i rfl
  · exact hd.drive

/-- Every command keeps the jobs within their holds, where its openings rest on sound records. -/
theorem exec_secured {c : Instr} (h : s.secured) (ho : s.opensSoundly) (e : exec c s = .next t) :
    t.secured := by
  cases c with
  | deviceReset => cases e; exact State.secured.drive (s := { s with resetLow := true, link := _ }) h
  | resetRelease => cases e; exact (secured_released s).drive
  | selectPeriodStart => exact h.event e (h.of_stations rfl)
  | selectPeriodEnd mosi => exact h.event e (h.of_stations rfl)
  | loadAccount f => exact h.hostCommand e (h.of_stations (stations_loadAccount f s))
  | updateAccount f => exact h.hostCommand e (h.of_stations (stations_updateAccount f s))
  | credit n x => exact h.hostCommand e (h.of_stations (stations_credit n x s))
  | debit n x => exact h.hostCommand e (h.of_stations (stations_debit n x s))
  | block n => exact h.hostCommand e (h.blockWork n)
  | unblock n => exact h.hostCommand e (h.of_stations (stations_unblock n s))
  | retireAccount n => exact h.hostCommand e (h.of_stations (stations_retireAccount n s))
  | closePeriod n => exact h.hostCommand e (h.of_stations (stations_closePeriod n s))
  | readAccount n => exact h.hostCommand e h.makeOwedRetries
  | listAccounts n => exact h.hostCommand (body := fun s => (s, s.listAccountsResponse n)) e h
  | bindToken k n => exact h.hostCommand e (h.of_stations (stations_bindToken k n s))
  | unbindToken k => exact h.hostCommand e (h.of_stations (stations_unbindToken k s))
  | findToken k => exact h.hostCommand (body := fun s => (s, s.findTokenResponse k)) e h
  | writeTariff l f => exact h.hostCommand e (h.of_stations (stations_writeTariff l f s))
  | readTariff l => exact h.hostCommand (body := fun s => (s, s.readTariffResponse l)) e h
  | writeSchedule n f => exact h.hostCommand e (h.of_stations (stations_writeSchedule n f s))
  | readSchedule n => exact h.hostCommand (body := fun s => (s, s.readScheduleResponse n)) e h
  | setGlobals f => exact h.hostCommand e (h.of_stations (stations_setGlobals f s))
  | configureStation n f => exact h.hostCommand e (h.configureStation n f)
  | enableStation n => exact h.hostCommand e (h.enableStation n)
  | disableStation n => exact h.hostCommand e (h.disableStation n)
  | setStationTariff n l => exact h.hostCommand e (h.setStationTariff n l)
  | readStation n => exact h.hostCommand e h.makeOwedRetries
  | readStationAlarms n =>
    exact h.hostCommand (body := fun s => alarmsWork n s.makeOwedRetries) e (h.makeOwedRetries.alarmsWork n)
  | openJob i n => exact h.hostCommand e (h.openJob ho i n)
  | endJob n => exact h.hostCommand e (h.endJob n)
  | clearJam n => exact h.hostCommand e (h.clearJam n)
  | resetStation n => exact h.hostCommand e (h.resetStation n)
  | returnToService n => exact h.hostCommand e (h.returnToService n)
  | configureReader n x => exact h.hostCommand e (h.of_stations (stations_configureReader n x s))
  | readReader n =>
    exact h.hostCommand (body := fun s => readReaderWork n s.makeOwedRetries) e
      (h.makeOwedRetries.of_stations (stations_withStation fun _ => rfl))
  | presetReaderCounters n w x y z =>
    exact h.hostCommand e (h.of_stations (stations_presetReaderCounters n w x y z s))
  | sendShopMessage n => exact h.hostCommand e (h.of_stations (stations_sendShopMessage n s))
  | resetReaderBus => exact h.hostCommand (body := fun s => (s.resetBus, bare .ok)) e (h.of_stations rfl)
  | takeAuthRequest => exact h.hostCommand e (h.of_stations (stations_takeAuthRequest s))
  | authResult r o x => exact h.hostCommand e (h.authResult ho r o x)
  | statusSummary => exact h.hostCommand e h.makeOwedRetries
  | retryOfHeldStations n => exact h.event e ((h.retry n).withRetries _)
  | lineLevelChange i l high => exact h.lineLevelChange e
  | filterTimerExpiry i l => exact h.event e (h.filterExpiry i l)
  | permitDelayExpiry i => exact h.event e (h.keepingJob i rfl)
  | idleTimerExpiry i => exact h.event e (h.idleExpiry i)
  | drainTimerExpiry i =>
    refine h.event e ?_
    split
    · exact h
    · exact h.jamEntry i _
  | jamTimeout i =>
    refine h.event e ?_
    split
    · exact h
    · exact h.jamTimedOut i
  | authTimerExpiry n => exact h.event e (h.authExpiry n)
  | pollPeriodStart =>
    refine h.event e ?_
    unfold State.startPeriodIfDue
    split
    · exact h.of_stations rfl
    · exact h
  | periodTimerExpiry => exact h.event e (h.of_stations rfl)
  | broadcastTransferEnd => exact h.event e (h.of_stations (stations_broadcastEnd s))
  | slotStart => exact h.event e (h.of_stations (stations_nextSlot s))
  | displayTransferEnd d => exact h.event e (h.of_stations (stations_displayEnd s d))
  | pollTransferEnd a => exact h.event e (h.of_stations (stations_pollEnd s a))
  | answerLimitExpiry => exact h.event e (h.of_stations (stations_limitReached s))
  | answerReceived frame => exact h.event e (h.answerTaken ho frame)
  | clockReleased => exact h.event e (h.of_stations rfl)

theorem step_secured (h : s.secured) (ho : s.opensSoundly) (e : step s = .next t) : t.secured := by
  unfold step at e
  split at e
  · rcases ownStep_cases s with ⟨status, _, _, g⟩ | ⟨c, _, _, _, g⟩ | ⟨_, _, g⟩ <;> rw [g] at e
    · cases e
      exact (State.secured.of_stations (s := s) h rfl).drive
    · exact exec_secured h ho e
    · cases e
      exact h.tick
  · next c rest _ => exact exec_secured (s := { s with pending := rest }) h ho e

/-- Settles O9: the moves of a step keep the members, its boards the tariffs, and its operations keep every
job within its hold, an opening because its checks have the start threshold available. -/
theorem chargeBoundsAreKept : Obligations.ChargeBoundsAreKept := by
  intro s t hs e
  obtain ⟨hm, ht, h⟩ := (chargesLaw_iff s).1 hs
  have hmoves := step_moves e
  exact (chargesLaw_iff t).2 ⟨hmoves.keeps (fun _ _ m => m.members) hm,
    hmoves.keeps (fun _ _ m => m.boards.tariffs) ht, step_secured h ⟨hm.2.1, ht⟩ e⟩

end Sys2Proof.Machine
end

section
/-! SUPPORT. The charge of a job, the tiers and the price of a sheet (O13, O14): each function of the Price Unit
said once, and the reserve as the largest price of a cell. -/

namespace Sys2Proof.Machine

/-! ### The charge (R49, R50) -/

theorem settlementCharge_unbilled {j : Job} (h : j.billedImpressions = 0) : settlementCharge j = (0, false) :=
  if_pos h

theorem settlementCharge_billed {j : Job} (h : 1 ≤ j.billedImpressions) :
    settlementCharge j =
      if (j.accrued + 50000) / 100000 < j.snapshot.jobMinimum then (j.snapshot.jobMinimum, true)
      else ((j.accrued + 50000) / 100000, false) :=
  if_neg (by omega)

/-- Accrued within a hold converts to no more than that hold: half a cent is not a cent. -/
theorem converted_le_hold {accrued hold : Nat} (h : accrued ≤ hold * 100000) :
    (accrued + 50000) / 100000 ≤ hold := by
  omega

/-- Settles O13: a job without billed impressions is charged 0, any other its converted accrued or the job
minimum, whichever is more, and both are within the hold. -/
theorem settlementChargeIsBounded : Obligations.SettlementChargeIsBounded := by
  intro j ha hm
  have hc := converted_le_hold ha
  refine ⟨?_, fun hb => ?_, settlementCharge_unbilled, settlementCharge_billed⟩
  · rcases Nat.eq_zero_or_pos j.billedImpressions with hb | hb
    · rw [settlementCharge_unbilled hb]
      exact Nat.zero_le _
    · rw [settlementCharge_billed hb]
      split
      · exact hm
      · exact hc
  · rw [settlementCharge_billed hb]
    split
    · exact le_rfl
    · next h => exact not_lt.1 h

/-! ### Tiers (R44) -/

theorem staysBelow_of {x : Option Nat} {n : Nat} (h : x = none ∨ ∃ y, x = some y ∧ n ≤ y) :
    staysBelow x n = true := by
  rcases h with rfl | ⟨y, rfl, hn⟩
  · rfl
  · exact decide_eq_true hn

theorem not_staysBelow_of {x : Option Nat} {n : Nat} (h : ∃ y, x = some y ∧ y < n) :
    ¬staysBelow x n = true := by
  obtain ⟨y, rfl, hn⟩ := h
  simpa [staysBelow] using hn

section Tiers

variable {d : Schedule} {n : Nat}

theorem discountAt_tier0 (h1 : d.t1 = none ∨ ∃ x, d.t1 = some x ∧ n ≤ x) : discountAt d n = d.d0 :=
  if_pos (staysBelow_of h1)

theorem discountAt_tier1 (h1 : ∃ x, d.t1 = some x ∧ x < n) (h2 : d.t2 = none ∨ ∃ x, d.t2 = some x ∧ n ≤ x) :
    discountAt d n = d.d1 :=
  (if_neg (not_staysBelow_of h1)).trans (if_pos (staysBelow_of h2))

theorem discountAt_tier2 (h1 : ∃ x, d.t1 = some x ∧ x < n) (h2 : ∃ x, d.t2 = some x ∧ x < n)
    (h3 : d.t3 = none ∨ ∃ x, d.t3 = some x ∧ n ≤ x) : discountAt d n = d.d2 :=
  (if_neg (not_staysBelow_of h1)).trans
    ((if_neg (not_staysBelow_of h2)).trans (if_pos (staysBelow_of h3)))

theorem discountAt_tier3 (h1 : ∃ x, d.t1 = some x ∧ x < n) (h2 : ∃ x, d.t2 = some x ∧ x < n)
    (h3 : ∃ x, d.t3 = some x ∧ x < n) : discountAt d n = d.d3 :=
  (if_neg (not_staysBelow_of h1)).trans
    ((if_neg (not_staysBelow_of h2)).trans (if_neg (not_staysBelow_of h3)))

end Tiers

theorem sideAmount_le (d : Schedule) (base n : Nat) : sideAmount d base n ≤ base * 1000 :=
  Nat.mul_le_mul_left base (Nat.sub_le _ _)

/-! ### The reserve (R32) -/

/-- The four cells of a set of prices, in their order (Table 0-3). -/
def cellsOf (p : Prices) : List CellPrice := [p.sm, p.sc, p.lm, p.lc]

theorem le_reserveOf {p : Prices} {c : CellPrice} (h : c ∈ cellsOf p) :
    (c.front + c.back) * 1000 ≤ reserveOf p := by
  simp only [cellsOf, List.mem_cons, List.not_mem_nil, or_false] at h
  unfold reserveOf cellTotal
  rcases h with rfl | rfl | rfl | rfl <;> omega

theorem exists_reserveOf (p : Prices) : ∃ c ∈ cellsOf p, reserveOf p = (c.front + c.back) * 1000 := by
  have hpair : ∀ a b c d : Nat, max (max a b) (max c d) = a ∨ max (max a b) (max c d) = b ∨
      max (max a b) (max c d) = c ∨ max (max a b) (max c d) = d := by omega
  unfold reserveOf cellsOf
  rcases hpair (cellTotal p.sm) (cellTotal p.sc) (cellTotal p.lm) (cellTotal p.lc) with h | h | h | h <;>
    rw [h] <;> exact ⟨_, by simp, rfl⟩

/-! ### The price of a sheet (R41, R45) -/

theorem cellOf_spelled (p : Prices) (c : SheetClass) : cellOf p c =
    (if c.large then (if c.colour then p.lc else p.lm) else if c.colour then p.sc else p.sm) := by
  unfold cellOf
  cases c.large <;> cases c.colour <;> rfl

theorem cellOf_mem (p : Prices) (c : SheetClass) : cellOf p c ∈ cellsOf p := by
  unfold cellOf cellsOf
  split <;> simp

/-- A sheet costs at most front and back of its cell without discount, which the reserve covers. -/
theorem sheetAmount_le_reserve (snap : Snapshot) (c : SheetClass) (first : Nat) :
    sheetAmount snap c first ≤ reserveOf snap.prices := by
  have hcell := le_reserveOf (cellOf_mem snap.prices c)
  have hfront := sideAmount_le snap.schedule (cellOf snap.prices c).front first
  have hback := sideAmount_le snap.schedule (cellOf snap.prices c).back (backOrdinal first)
  unfold sheetAmount
  dsimp only
  split <;> omega

/-- Settles O14: the discount tier by tier, the cell of the class, and the reserve above every amount. -/
theorem sheetPriceFollowsTierAndReserve : Obligations.SheetPriceFollowsTierAndReserve := by
  refine ⟨fun d base n => ?_, fun snap c first cell hcell => ?_⟩
  · have hside : ∀ y, discountAt d n = y → sideAmount d base n = base * (1000 - y) := fun y h => by
      rw [← h]
      rfl
    exact ⟨fun h1 => hside _ (discountAt_tier0 h1), fun h1 h2 => hside _ (discountAt_tier1 h1 h2),
      fun h1 h2 h3 => hside _ (discountAt_tier2 h1 h2 h3), fun h1 h2 h3 => hside _ (discountAt_tier3 h1 h2 h3)⟩
  · rw [← cellOf_spelled] at hcell
    subst hcell
    exact ⟨rfl, sheetAmount_le_reserve snap c first⟩

end Sys2Proof.Machine
end

section
/-! SUPPORT. WRITE and READ TARIFF, WRITE and READ SCHEDULE: what a letter or number names, the bytes reported, which
forms are valid, and what each write leaves (O31, O32). -/

namespace Sys2Proof.Machine

variable {s : State} {x : Nat}

/-! ### Letters and numbers (Table 9-2) -/

theorem fourOf_val (l : Fin 4) : fourOf l.val = some l := fourOf_eq l.isLt

theorem fourOf_none (h : 4 ≤ x) : fourOf x = none := dif_neg (by omega)

theorem get_set_four {α : Type} (v : Vector α 4) (l k : Fin 4) (y : α) :
    (v.set l y)[k] = if k = l then y else v[k] := by
  show (v.set l.val y)[k.val] = _
  rw [Vector.getElem_set]
  simp only [Fin.ext_iff, eq_comm]
  rfl

/-! ### READ TARIFF (R35) -/

theorem flag_bit (b : Bool) : flag b = [if b then 1#8 else 0#8] := by cases b <;> rfl

theorem reserveBytes_spelled (r : Nat) :
    reserveBytes r = be 6 (min r 281474976710655) ++ beCents ((r + 99999) / 100000 : Nat) := rfl

theorem tariffBytes_spelled (d : Tariff) : tariffBytes d =
    [if d.isDefined then 1#8 else 0#8] ++
      ([d.prices.sm, d.prices.sc, d.prices.lm, d.prices.lc].flatMap fun p =>
        be 2 (min p.front 65535) ++ be 2 (min p.back 65535)) ++
      beCents d.startThreshold ++ beCents d.jobMinimum ++ beCents d.holdQuantum ++
      be 6 (min d.reserve 281474976710655) ++ beCents ((d.reserve + 99999) / 100000 : Nat) := by
  unfold tariffBytes
  rw [flag_bit, ← pricesResult_spelled, reserveBytes_spelled]
  simp only [List.append_assoc]
  rfl

theorem readTariffResponse_absent (h : 4 ≤ x) : s.readTariffResponse x = bare .invalid := by
  unfold State.readTariffResponse
  rw [fourOf_none h]

theorem readTariffResponse_val (s : State) (l : TariffLetter) :
    s.readTariffResponse l.val = answer .ok (tariffBytes s.tariffs[l]) := by
  unfold State.readTariffResponse
  rw [fourOf_val]

theorem answers_readTariff {status : Status} {results : List Byte} (hr : s.ready (.readTariff x))
    (h : s.readTariffResponse x = answer status results) :
    Answers (.readTariff x) s status results [] fun _ => True :=
  answers_of_unchanged (body := fun s => (s, s.readTariffResponse x)) hr rfl (by rw [h])

/-! ### WRITE TARIFF (R33, R34) -/

theorem priceInRange_iff (p : CellPrice) : priceInRange p = true ↔ p.front ≤ 65535 ∧ p.back ≤ 65535 := by
  simp only [priceInRange, Bool.and_eq_true, decide_eq_true_eq]

/-- A start threshold covers the reserve in cents when it covers it in milli-points. -/
theorem ceilCents_le_iff (r : Nat) (c : Int) : (ceilCents r : Int) ≤ c ↔ (r : Int) ≤ c * 100000 := by
  simp only [ceilCents, Config.milliPointsPerCent]
  omega

theorem TariffForm.valid_spelled (f : TariffForm) : f.valid = true ↔
    (∀ p ∈ [f.prices.sm, f.prices.sc, f.prices.lm, f.prices.lc], p.front ≤ 65535 ∧ p.back ≤ 65535) ∧
      0 ≤ f.startThreshold ∧ f.startThreshold ≤ 100000 ∧ 0 ≤ f.jobMinimum ∧ f.jobMinimum ≤ 10000 ∧
      100 ≤ f.holdQuantum ∧ f.holdQuantum ≤ 100000 ∧
      (reserveOf f.prices : Int) ≤ f.startThreshold * 100000 ∧ f.jobMinimum ≤ f.startThreshold ∧
      f.startThreshold ≤ f.holdQuantum := by
  simp only [TariffForm.valid, Bool.and_eq_true, decide_eq_true_eq, centsWithin_iff, priceInRange_iff,
    ceilCents_le_iff, List.forall_mem_cons, List.not_mem_nil, false_imp_iff, implies_true, and_true, and_assoc]

/-- The reserve of a valid form fits its six bytes. -/
theorem TariffForm.reserve_le {f : TariffForm} (h : f.valid = true) : reserveOf f.prices ≤ 131070000 := by
  obtain ⟨hprices, -⟩ := (TariffForm.valid_spelled f).1 h
  obtain ⟨p, hp, he⟩ := exists_reserveOf f.prices
  have := hprices p hp
  omega

theorem writeTariffWork_absent (f : TariffForm) (h : 4 ≤ x) :
    writeTariffWork x f s = unchanged (bare .invalid) s := by
  unfold writeTariffWork
  rw [fourOf_none h]

theorem writeTariffWork_invalid {f : TariffForm} (l : TariffLetter) (h : f.valid = false) :
    writeTariffWork l.val f s = unchanged (bare .invalid) s := by
  unfold writeTariffWork
  rw [fourOf_val]
  exact if_neg (by simp [h])

theorem writeTariffWork_valid {f : TariffForm} (l : TariffLetter) (h : f.valid = true) :
    writeTariffWork l.val f s =
      ({ s with tariffs := s.tariffs.set l f.table },
        answer .ok (be 6 (reserveOf f.prices) ++ beCents (((reserveOf f.prices) + 99999) / 100000 : Nat))) := by
  have hb : reserveBytes f.table.reserve =
      be 6 (reserveOf f.prices) ++ beCents (((reserveOf f.prices) + 99999) / 100000 : Nat) := by
    have := TariffForm.reserve_le h
    show reserveBytes (reserveOf f.prices) = _
    rw [reserveBytes_spelled, min_eq_left (by omega)]
  unfold writeTariffWork
  rw [fourOf_val, ← hb]
  exact if_pos h

theorem keepsAllBut_tariffs (s : State) (v : Vector Tariff 4) :
    KeepsAllBut [.tariffs] s { s with tariffs := v } := by
  intro p hp; cases p <;> first | rfl | exact fun _ => rfl | exact absurd (by decide) hp

/-- The answer of a WRITE TARIFF that is carried out. -/
theorem answers_writtenTariff {f : TariffForm} {l : TariffLetter} (hr : s.ready (.writeTariff l.val f))
    (h : f.valid = true) :
    Answers (.writeTariff l.val f) s .ok
      (be 6 (reserveOf f.prices) ++ beCents (((reserveOf f.prices) + 99999) / 100000 : Nat)) [.tariffs] fun t =>
      t.tariffs[l] = f.table ∧ ∀ k : TariffLetter, k ≠ l → t.tariffs[k] = s.tariffs[k] :=
  answers_of_result hr rfl (writeTariffWork_valid l h) rfl rfl (keepsAllBut_tariffs s _) fun _ =>
    ⟨(get_set_four s.tariffs l l f.table).trans (if_pos rfl),
      fun k hk => (get_set_four s.tariffs l k f.table).trans (if_neg hk)⟩

/-- Settles O31: READ TARIFF by the bytes of the table, WRITE TARIFF by its three cases, and the validity of
the set with its reserve. -/
theorem writeAndReadTariff : Obligations.WriteAndReadTariff := by
  refine ⟨fun s x hr => ⟨fun h => answers_readTariff hr (readTariffResponse_absent h), ?_⟩,
    fun s x f hr => ⟨fun h => refuses_of_work hr rfl (writeTariffWork_absent f h), ?_⟩,
    fun f => ⟨TariffForm.valid_spelled f, fun p hp => le_reserveOf hp, exists_reserveOf f.prices⟩⟩
  · rintro l d rfl rfl
    rw [← tariffBytes_spelled]
    exact answers_readTariff hr (readTariffResponse_val s l)
  · rintro l rfl
    exact ⟨fun h => refuses_of_work hr rfl (writeTariffWork_invalid l h), answers_writtenTariff hr⟩

/-! ### READ SCHEDULE (R39) -/

/-- The presence mask of three thresholds in its byte (R198). -/
theorem count_presence (a b c : Bool) :
    count 1 (maskOf [a, b, c]) = [BitVec.ofNat 8 (a.toNat + 2 * b.toNat + 4 * c.toNat)] := by
  revert a b c
  decide

theorem scheduleBytes_reported (d : Schedule) : scheduleBytes d =
    [BitVec.ofNat 8 (d.t1.isSome.toNat + 2 * d.t2.isSome.toNat + 4 * d.t3.isSome.toNat)] ++
      ([d.t1, d.t2, d.t3].flatMap fun t => be 3 (min (t.getD 0) 16777215)) ++
      ([d.d0, d.d1, d.d2, d.d3].flatMap fun y => be 2 (min y 65535)) := by
  unfold scheduleBytes
  rw [count_presence]
  simp only [List.flatMap_cons, List.flatMap_nil, List.append_nil, List.append_assoc]
  rfl

theorem readScheduleResponse_absent (h : 4 ≤ x) : s.readScheduleResponse x = bare .invalid := by
  unfold State.readScheduleResponse
  rw [fourOf_none h]

theorem readScheduleResponse_val (s : State) (n : Fin 4) :
    s.readScheduleResponse n.val = answer .ok (scheduleBytes s.schedules[n]) := by
  unfold State.readScheduleResponse
  rw [fourOf_val]

theorem answers_readSchedule {status : Status} {results : List Byte} (hr : s.ready (.readSchedule x))
    (h : s.readScheduleResponse x = answer status results) :
    Answers (.readSchedule x) s status results [] fun _ => True :=
  answers_of_unchanged (body := fun s => (s, s.readScheduleResponse x)) hr rfl (by rw [h])

/-! ### WRITE SCHEDULE (R37, R38) -/

theorem ScheduleForm.valid_iff (f : ScheduleForm) :
    f.valid = true ↔ (f.mask &&& 0xF8#8) = 0#8 ∧ f.table.wellFormed = true := by
  simp only [ScheduleForm.valid, Bool.and_eq_true, beq_iff_eq]

theorem writeScheduleWork_absent (f : ScheduleForm) (h : 4 ≤ x) :
    writeScheduleWork x f s = unchanged (bare .invalid) s := by
  unfold writeScheduleWork
  rw [fourOf_none h]

theorem writeScheduleWork_invalid {f : ScheduleForm} (n : Fin 4) (h : ¬f.valid = true) :
    writeScheduleWork n.val f s = unchanged (bare .invalid) s := by
  unfold writeScheduleWork
  rw [fourOf_val]
  exact if_neg h

theorem writeScheduleWork_valid {f : ScheduleForm} (n : Fin 4) (h : f.valid = true) :
    writeScheduleWork n.val f s = ({ s with schedules := s.schedules.set n f.table }, bare .ok) := by
  unfold writeScheduleWork
  rw [fourOf_val]
  exact if_pos h

theorem keepsAllBut_schedules (s : State) (v : Vector Schedule 4) :
    KeepsAllBut [.schedules] s { s with schedules := v } := by
  intro p hp; cases p <;> first | rfl | exact fun _ => rfl | exact absurd (by decide) hp

/-- The answer of a WRITE SCHEDULE that is carried out. -/
theorem answers_writtenSchedule {f : ScheduleForm} {n : Fin 4} (hr : s.ready (.writeSchedule n.val f))
    (h : f.valid = true) :
    Answers (.writeSchedule n.val f) s .ok [] [.schedules] fun t =>
      t.schedules[n] = f.table ∧ ∀ k : Fin 4, k ≠ n → t.schedules[k] = s.schedules[k] :=
  answers_of_result hr rfl (writeScheduleWork_valid n h) rfl rfl (keepsAllBut_schedules s _) fun _ =>
    ⟨(get_set_four s.schedules n n f.table).trans (if_pos rfl),
      fun k hk => (get_set_four s.schedules n k f.table).trans (if_neg hk)⟩

/-- The schedule of a form is as R37 has it, said of the mask and the bytes that count: one case for each
set of thresholds present. -/
theorem ScheduleForm.wellFormed_spelled (f : ScheduleForm) : f.table.wellFormed = true ↔
    (f.mask.getLsbD 1 = true → f.mask.getLsbD 0 = true) ∧
      (f.mask.getLsbD 2 = true → f.mask.getLsbD 1 = true) ∧
      (f.mask.getLsbD 0 = true → 1 ≤ f.t1 ∧ f.t1 ≤ 16777214) ∧
      (f.mask.getLsbD 1 = true → f.t1 < f.t2 ∧ f.t2 ≤ 16777214) ∧
      (f.mask.getLsbD 2 = true → f.t2 < f.t3 ∧ f.t3 ≤ 16777214) ∧
      f.d0 ≤ 900 ∧
      (f.mask.getLsbD 0 = true → f.d0 ≤ f.d1 ∧ f.d1 ≤ 900) ∧
      (f.mask.getLsbD 1 = true → f.d1 ≤ f.d2 ∧ f.d2 ≤ 900) ∧
      (f.mask.getLsbD 2 = true → f.d2 ≤ f.d3 ∧ f.d3 ≤ 900) := by
  unfold ScheduleForm.table ScheduleForm.threshold
  generalize f.mask.getLsbD 0 = b0
  generalize f.mask.getLsbD 1 = b1
  generalize f.mask.getLsbD 2 = b2
  cases b0 <;> cases b1 <;> cases b2 <;>
    simp [Schedule.wellFormed, risesTo] <;> simp only [Config.thresholdTop, Config.discountTop] <;> omega

/-- Settles O32: READ SCHEDULE by the bytes of the schedule, WRITE SCHEDULE by its three cases, and the form of
R37 written out. -/
theorem writeAndReadSchedule : Obligations.WriteAndReadSchedule := by
  refine ⟨fun s x hr => ⟨fun h => answers_readSchedule hr (readScheduleResponse_absent h), ?_⟩,
    fun s x f hr => ⟨fun h => refuses_of_work hr rfl (writeScheduleWork_absent f h), ?_⟩,
    ScheduleForm.wellFormed_spelled⟩
  · rintro n d rfl rfl
    rw [← scheduleBytes_reported]
    exact answers_readSchedule hr (readScheduleResponse_val s n)
  · rintro n rfl
    refine ⟨fun h => refuses_of_work hr rfl (writeScheduleWork_invalid n fun hv => ?_),
      fun hm hw => answers_writtenSchedule hr ((ScheduleForm.valid_iff f).2 ⟨hm, hw⟩)⟩
    obtain ⟨hm, hw⟩ := (ScheduleForm.valid_iff f).1 hv
    rcases h with h | h
    · exact h hm
    · exact absurd (hw.symm.trans h) (by simp)

end Sys2Proof.Machine
end

section
/-! SUPPORT. A card at an IDLE station: which function of the model takes it, the search of the rotors as the least
free step, and what an opening and a walk-up leave (O57). -/

namespace Sys2Proof.Machine

variable {s : State} {i : StationId} {k : Token} {kind : CardKind} {u b : Account} {n : Nat}

/-! ### Who takes the card (R81 to R84, R165) -/

/-- The idle timer runs in RUNNING and HELD alone, so an IDLE station takes the card as it stands. -/
theorem readerEvent_card_idle (h : (s.station i).state = .idle) :
    s.readerEvent i (.card k kind (s.station i).config.style) = s.cardAtIdle i k kind := by
  have hr : s.restartIdle i = s := by
    rcases restartIdle_cases s i with ⟨hr | hr, -⟩ | ⟨-, -, hr⟩
    · simp [h] at hr
    · simp [h] at hr
    · exact hr
  unfold State.readerEvent
  rw [if_neg (by simp [h])]
  dsimp only
  rw [hr]
  unfold State.cardEvent
  dsimp only
  rw [if_neg (by simp [h]), if_neg (not_not_intro rfl), if_pos h]

theorem cardAtIdle_known (ht : s.tokenAccount k = some n) (hu : s.account n = some u) :
    s.cardAtIdle i k kind = s.knownCard i k u := by
  unfold State.cardAtIdle
  rw [ht]
  dsimp only
  rw [hu]

theorem cardAtIdle_unknown (ht : s.tokenAccount k = none) : s.cardAtIdle i k kind = s.unknownCard i k kind := by
  unfold State.cardAtIdle
  rw [ht]

theorem knownCard_transient (h : u.kind = .transient) : s.knownCard i k u = s.placeDisplay i .cardInUse :=
  if_pos h

theorem knownCard_refused {check : Nat} (h : u.kind ≠ .transient) (hc : s.openingCheck i u false = some check) :
    s.knownCard i k u = s.placeDisplay i (refusalDisplay check) := by
  refine (if_neg h).trans ?_
  unfold State.cardOpens
  rw [hc]

theorem knownCard_opens (h : u.kind ≠ .transient) (hc : s.openingCheck i u false = none) :
    s.knownCard i k u = (s.openAt i u .reader).modifyStation i fun st => { st with sessionToken := some k } := by
  refine (if_neg h).trans ?_
  unfold State.cardOpens
  rw [hc]

theorem unknownCard_refused (h : kind = .shop ∨ (s.station i).config.walkupAllowed = false) :
    s.unknownCard i k kind = s.placeDisplay i .unknownCard := by
  unfold State.unknownCard
  rcases h with rfl | h
  · rfl
  · rw [h]
    cases kind <;> rfl

theorem unknownCard_bank (h : (s.station i).config.walkupAllowed = true) :
    s.unknownCard i k .bank = s.requestWalkup i k := by
  unfold State.unknownCard
  rw [h]

theorem requestWalkup_refused (h : (s.tariffOf i).isDefined = false ∨ 32 ≤ s.transientCount ∨
    1024 ≤ s.accounts.length ∨ 2048 ≤ s.tokens.length) :
    s.requestWalkup i k = s.placeDisplay i .walkupUnavailable := by
  refine if_neg fun ha => ?_
  obtain ⟨hd, hc, hl, ht⟩ := (walkupAllowed_iff s i).1 ha
  rcases h with h | h | h | h
  · simp [hd] at h
  all_goals omega

theorem requestWalkup_starts (hd : (s.tariffOf i).isDefined = true) (hc : s.transientCount < 32)
    (hl : s.accounts.length < 1024) (ht : s.tokens.length < 2048) :
    s.requestWalkup i k = s.startWalkup i k :=
  if_pos ((walkupAllowed_iff s i).2 ⟨hd, hc, hl, ht⟩)

/-- All that a refused card leaves behind. -/
theorem placeDisplay_leaves (s : State) (i : StationId) (d : Display) :
    KeepsAllBut [.readers] s (s.placeDisplay i d) ∧ KeepsOtherReaders i s (s.placeDisplay i d) ∧
      ShownOn i d s (s.placeDisplay i d) :=
  ⟨keepsAllBut_placeDisplay s i d, keepsOtherReaders_placeDisplay s i d, shownOn_placeDisplay rfl rfl rfl⟩

/-! ### A job opened by a card (R57, R83) -/

theorem keepsOtherAccounts_openAt (s : State) (i : StationId) (u : Account) (y : OpenedBy) :
    KeepsOtherAccounts [u.number, u.billingNumber] s (s.openAt i u y) := fun m hm => by
  simp only [List.mem_cons, List.not_mem_nil, or_false, not_or] at hm
  rw [account_openAt]
  cases ha : s.account m with
  | none => rfl
  | some a =>
    obtain rfl := State.account_number s ha
    rw [Option.map_some, staked_other hm.1 hm.2]

theorem keepsOtherStations_openAt (s : State) (i : StationId) (u : Account) (y : OpenedBy) :
    KeepsOtherStations i s (s.openAt i u y) := fun k hk => by
  rw [station_openAt, if_neg hk]

theorem openingHold_registered (h : u.kind ≠ .transient) :
    s.openingHold i u = min (s.tariffOf i).holdQuantum (min (s.available u).toNat 1000000) :=
  if_neg h

theorem openingSchedule_registered (h : u.kind ≠ .transient) (hb : s.account u.billingNumber = some b) :
    s.openingSchedule u = b.schedule :=
  (openingSchedule_eq hb).trans (if_neg h)

/-! ### The rotors (R163, R164) -/

/-- The search stands at a step of the rotor with every step before it taken, and it stops at a taken one only
when its fuel is spent. -/
theorem firstFree_iterate (next : Nat → Nat) (taken : Nat → Bool) (fuel n : Nat) :
    ∃ x, firstFree next taken fuel n = next^[x] n ∧ (∀ y < x, taken (next^[y] n) = true) ∧
      (taken (next^[x] n) = true → x = fuel) := by
  induction fuel generalizing n with
  | zero => exact ⟨0, rfl, fun y hy => absurd hy (Nat.not_lt_zero y), fun _ => rfl⟩
  | succ fuel ih =>
    unfold firstFree
    split
    · next h =>
      obtain ⟨x, hx, hbefore, hspent⟩ := ih (next n)
      refine ⟨x + 1, hx, fun y hy => ?_, fun hx => congrArg (· + 1) (hspent hx)⟩
      cases y with
      | zero => exact h
      | succ y => exact hbefore y (by omega)
    · next h => exact ⟨0, rfl, fun y hy => absurd hy (Nat.not_lt_zero y), fun ht => absurd ht h⟩

/-- Where the rotor goes through more values than are in use, and the fuel suffices for those, the search ends
at the first free one. -/
theorem firstFree_least {next : Nat → Nat} {taken : Nat → Bool} {fuel n : Nat} {used : List Nat}
    (hused : ∀ y ≤ used.length, taken (next^[y] n) = true → next^[y] n ∈ used)
    (hdistinct : ∀ x ≤ used.length, ∀ y ≤ used.length, next^[x] n = next^[y] n → x = y)
    (hfuel : used.length ≤ fuel) :
    ∃ x, firstFree next taken fuel n = next^[x] n ∧ taken (next^[x] n) = false ∧
      ∀ y < x, taken (next^[y] n) = true := by
  obtain ⟨x, hx, hbefore, hspent⟩ := firstFree_iterate next taken fuel n
  refine ⟨x, hx, ?_, hbefore⟩
  by_contra h
  have htaken : taken (next^[x] n) = true := by simpa using h
  obtain rfl := hspent htaken
  have hall : ∀ y ≤ x, taken (next^[y] n) = true := fun y hy =>
    hy.lt_or_eq.elim (hbefore y) fun e => e ▸ htaken
  have hnodup : ((List.range (used.length + 1)).map fun y => next^[y] n).Nodup :=
    List.Nodup.map_on (fun x hx y hy e => hdistinct x (Nat.lt_succ_iff.1 (List.mem_range.1 hx)) y
      (Nat.lt_succ_iff.1 (List.mem_range.1 hy)) e) List.nodup_range
  have hsub : ((List.range (used.length + 1)).map fun y => next^[y] n) ⊆ used := by
    intro m hm
    obtain ⟨y, hy, rfl⟩ := List.mem_map.1 hm
    have hy := Nat.lt_succ_iff.1 (List.mem_range.1 hy)
    exact hused y hy (hall y (hy.trans hfuel))
  have := (List.subperm_of_subset hnodup hsub).length_le
  simp only [List.length_map, List.length_range] at this
  omega

/-- The number rotor goes round its 1,000 numbers. -/
theorem nextTransientNumber_iterate {m : Nat} (h : 60000 ≤ m ∧ m ≤ 60999) (y : Nat) :
    nextTransientNumber^[y] m = 60000 + (m - 60000 + y) % 1000 := by
  induction y with
  | zero => show m = _; omega
  | succ y ih => rw [Function.iterate_succ_apply', ih, nextTransientNumber_add]

theorem nextReference_bounds (m : Nat) : 1 ≤ nextReference m ∧ nextReference m ≤ 65535 := by
  unfold nextReference Config.lastReference
  split_ifs <;> omega

/-- The reference rotor goes round its 65,535 references. -/
theorem nextReference_iterate {m : Nat} (h : 1 ≤ m ∧ m ≤ 65535) (y : Nat) :
    nextReference^[y] m = 1 + (m - 1 + y) % 65535 := by
  induction y with
  | zero => show m = _; omega
  | succ y ih =>
    rw [Function.iterate_succ_apply', ih]
    unfold nextReference Config.lastReference
    split_ifs <;> omega

/-- The number of a walk-up is the first above its rotor that no record has: the numbers from 60000 on belong to
the TRANSIENT records, of which there are fewer than 32. -/
theorem freshNumber_least (hc : s.transientCount < 32)
    (hk : ∀ a ∈ s.accounts, 60000 ≤ a.number → a.kind = .transient) :
    ∃ x, s.freshNumber = nextTransientNumber^[x + 1] s.wau.numberRotor ∧ s.account s.freshNumber = none ∧
      ∀ y, y < x → s.account (nextTransientNumber^[y + 1] s.wau.numberRotor) ≠ none := by
  set used := (s.accounts.filter fun a => a.kind == .transient).map Account.number with hused
  have hlen : used.length < 32 := by rw [hused, List.length_map]; exact hc
  have hbounds := nextTransientNumber_bounds s.wau.numberRotor
  have hstep := nextTransientNumber_iterate hbounds
  obtain ⟨x, hx, hfree, hbefore⟩ := firstFree_least (next := nextTransientNumber) (fuel := 1000) (used := used)
    (taken := fun m => (s.account m).isSome) (n := nextTransientNumber s.wau.numberRotor)
    (fun y _ ht => by
      obtain ⟨a, ha⟩ := Option.isSome_iff_exists.1 ht
      have hmem := State.account_mem s ha
      have hnum := State.account_number s ha
      refine List.mem_map.2 ⟨a, List.mem_filter.2 ⟨hmem, beq_iff_eq.2 (hk a hmem ?_)⟩, hnum⟩
      rw [hnum, hstep]
      omega)
    (fun x hx y hy e => by rw [hstep, hstep] at e; omega) (by omega)
  have hn : s.freshNumber = nextTransientNumber^[x + 1] s.wau.numberRotor := hx
  refine ⟨x, hn, ?_, fun y hy => Option.isSome_iff_ne_none.1 (hbefore y hy)⟩
  rw [hn]
  exact Option.isNone_iff_eq_none.1 (by simpa using hfree)

/-- A PENDING record has this reference (R164). -/
theorem pends_iff (s : State) (r : Nat) : (s.accounts.any fun a => a.pendsWith r) = true ↔
    ∃ a ∈ s.accounts, a.kind = .transient ∧ a.state = .pending ∧ a.walkup.map Walkup.authRef = some r := by
  simp only [List.any_eq_true, Account.pendsWith, Account.isPending, Bool.and_eq_true, beq_iff_eq, and_assoc]

/-- The search of the references, started above the rotor. -/
theorem freshReference_least (hl : s.accounts.length < 1024) :
    ∃ x, s.freshReference = nextReference^[x + 1] s.wau.referenceRotor ∧
      (s.accounts.any fun a => a.pendsWith s.freshReference) = false ∧
      ∀ y, y < x → (s.accounts.any fun a => a.pendsWith (nextReference^[y + 1] s.wau.referenceRotor)) = true := by
  set used := s.accounts.filterMap fun a => a.walkup.map Walkup.authRef
  have hlen : used.length ≤ s.accounts.length := List.length_filterMap_le _ _
  have hstep := nextReference_iterate (nextReference_bounds s.wau.referenceRotor)
  obtain ⟨x, hx, hfree, hbefore⟩ := firstFree_least (next := nextReference) (fuel := s.accounts.length)
    (used := used) (taken := fun r => s.accounts.any fun a => a.pendsWith r)
    (n := nextReference s.wau.referenceRotor)
    (fun y _ ht => by
      obtain ⟨a, ha, -, -, hr⟩ := (pends_iff s _).1 ht
      exact List.mem_filterMap.2 ⟨a, ha, hr⟩)
    (fun x hx y hy e => by rw [hstep, hstep] at e; omega) hlen
  have hr : s.freshReference = nextReference^[x + 1] s.wau.referenceRotor := hx
  exact ⟨x, hr, hr ▸ hfree, hbefore⟩

theorem freshReference_bounds (hl : s.accounts.length < 1024) :
    1 ≤ s.freshReference ∧ s.freshReference ≤ 65535 := by
  obtain ⟨x, hx, -⟩ := freshReference_least hl
  rw [hx, Function.iterate_succ_apply']
  exact nextReference_bounds _

/-! ### A walk-up started by a card (R166) -/

theorem keepsAllBut_startWalkup (s : State) (i : StationId) (k : Token) :
    KeepsAllBut [.accounts, .tokens, .stations, .readers, .walkup] s (s.startWalkup i k) := by
  intro p hp; cases p <;> first | rfl | exact fun _ => rfl | exact absurd (by decide) hp

theorem keepsOtherStations_startWalkup (s : State) (i : StationId) (k : Token) :
    KeepsOtherStations i s (s.startWalkup i k) := fun m hm => by
  rw [station_startWalkup, if_neg hm]

theorem account_startWalkup (h : s.account s.freshNumber = none) (m : Nat) :
    (s.startWalkup i k).account m = if m = s.freshNumber then some (s.walkupRecord i k) else s.account m := by
  unfold State.account
  rw [accounts_startWalkup h]
  exact find_insertAccount (s.walkupRecord i k) s.accounts (account_none_iff h) m

/-- Every field of the PENDING record (R166). -/
theorem walkupRecord_spelled (s : State) (i : StationId) (k : Token) : s.walkupRecord i k =
    { number := s.freshNumber, kind := .transient, state := .pending, balance := 0, creditLimit := 0
      held := 0, payer := none, memberHeld := 0, periodCap := none, memberCount := 0
      schedule := 0, meter := 0, meterSaturated := false, periodCharges := 0
      classCounts := #v[0, 0, 0, 0, 0, 0, 0, 0], tokens := [k], openJobs := 0
      walkup := some
        { authRef := s.freshReference, requested := s.globals.preAuthAmount, granted := none
          requestState := some .waiting, finalCharge := none
          authTimer := some (s.globals.authTimeout * 10000), station := i } } := by
  rw [← zeroCounts_eq]
  rfl

/-! ### The statement -/

/-- Settles O57: the card of a TRANSIENT record, of a registered account refused or opened, and of no record,
refused or started as a walk-up with the first free number and reference. -/
theorem cardAtAnIdleStation : Obligations.CardAtAnIdleStation := by
  rintro s i k kind style t hidle rfl rfl
  rw [readerEvent_card_idle hidle]
  refine ⟨fun n u ht hu => ?_, fun ht => ?_⟩
  · rw [cardAtIdle_known ht hu]
    obtain rfl := State.account_number s hu
    refine ⟨fun hk => ?_, fun hk => ⟨fun check hc => ?_, fun hc => ?_⟩⟩
    · rw [knownCard_transient hk]
      exact placeDisplay_leaves s i _
    · rw [knownCard_refused hk hc]
      obtain ⟨hkeeps, hreaders, hshown⟩ := placeDisplay_leaves s i (refusalDisplay check)
      refine ⟨hkeeps, hreaders, ?_, ?_, ?_⟩
      · rintro rfl; exact hshown
      · rintro (rfl | rfl) <;> exact hshown
      · rintro rfl; exact hshown
    · rw [knownCard_opens hk hc]
      refine ⟨keepsAllBut_trans (keepsAllBut_openAt s i u .reader)
          (keepsAllBut_mono (keepsAllBut_modifyStation _ i _) (by decide)),
        keepsOtherStations_trans (keepsOtherStations_openAt s i u .reader)
          (keepsOtherStations_modifyStation _ i _),
        keepsOtherReaders_openAt s i u .reader, keepsOtherAccounts_openAt s i u .reader,
        shownOn_openAt s i u .reader, ?_⟩
      rintro b d hold hb rfl hhold
      have hhold : s.openingHold i u = hold := (openingHold_registered hk).trans hhold.symm
      obtain ⟨-, halone, hmember⟩ := accounts_opened (i := i) .reader hu hb
      rw [hhold] at halone hmember
      refine ⟨?_, halone, hmember⟩
      rw [State.station_modifyStation_self, station_openAt, if_pos rfl,
        newJob_spelled .reader rfl (openingSchedule_registered hk hb), if_neg hk, hhold]
      rfl
  · rw [cardAtIdle_unknown ht]
    refine ⟨fun h => ?_, ?_⟩
    · rw [unknownCard_refused h]
      exact placeDisplay_leaves s i _
    · rintro rfl hw
      rw [unknownCard_bank hw]
      refine ⟨fun h => ?_, ?_⟩
      · rw [requestWalkup_refused h]
        exact placeDisplay_leaves s i _
      · rintro hd hc hl htokens hk nextNumber nextRef pendingRef rfl rfl rfl
        rw [requestWalkup_starts hd hc hl htokens]
        obtain ⟨x, hnumber, hnone, htaken⟩ := freshNumber_least hc hk
        obtain ⟨r, hreference, hfree, hpends⟩ := freshReference_least hl
        obtain ⟨hnlow, hnhigh⟩ := freshNumber_bounds s
        obtain ⟨hrlow, hrhigh⟩ := freshReference_bounds hl
        refine ⟨_, _, _, rfl, rfl, ⟨x, hnumber, hnone, htaken⟩,
          ⟨r, hreference, fun h => ?_, fun y hy => (pends_iff s _).1 (hpends y hy)⟩, hnlow, hnhigh, hrlow, hrhigh,
          keepsAllBut_startWalkup s i k, keepsOtherStations_startWalkup s i k,
          keepsOtherReaders_placeDisplay _ i _, fun m hm => ?_, rfl, rfl,
          (station_startWalkup s i i k).trans (if_pos rfl), rfl, ?_, shownOn_placeDisplay rfl rfl rfl⟩
        · exact absurd ((pends_iff s _).2 h) (by simp [hfree])
        · rw [account_startWalkup hnone, if_neg (by simpa using hm)]
        · rw [account_startWalkup hnone, if_pos rfl, walkupRecord_spelled]

end Sys2Proof.Machine
end

section
/-! SUPPORT. The sheets of an open job (R52): the pricing of a sheet, its billing and its void balance, and every other
operation of jobs, paths and stations leaves the counts as they stand. -/

namespace Sys2Proof.Machine

/-! ### Jobs whose sheets balance -/

/-- The sheets priced are those billed, those voided and `n` others, unless their count has saturated (R52). -/
def Job.balances (j : Job) (n : Nat) : Prop :=
  j.pricedSheets < 4294967295 → j.pricedSheets = j.billed.toList.sum + j.voidedSheets + n

/-- The sheets of the open job, if there is one, balance with those of the two lists. -/
def Station.balanced (st : Station) : Prop :=
  ∀ j, st.job = some j → j.balances (st.path.length + st.disputed.length)

/-- The sheets of every open job balance. -/
def State.balanced (s : State) : Prop := ∀ i, (s.station i).balanced

theorem sheetsLaw_iff (s : State) : SheetsLaw s ↔ s.balanced := by
  unfold SheetsLaw State.balanced Station.balanced Job.balances
  simp only [Nat.add_assoc]
  exact Iff.rfl

/-- What the balance reads of a job. -/
def Job.counts (j : Job) : Nat × Vector Nat 8 × Nat := (j.pricedSheets, j.billed, j.voidedSheets)

/-- What the balance reads of a station. -/
def Station.tally (st : Station) : Option (Nat × Vector Nat 8 × Nat) × Nat :=
  (st.job.map Job.counts, st.path.length + st.disputed.length)

theorem Job.balances.cast {j : Job} {m n : Nat} (h : j.balances n) (e : m = n) : j.balances m := e ▸ h

theorem Job.balances.of_counts {j k : Job} {n : Nat} (h : j.balances n) (e : k.counts = j.counts) : k.balances n := by
  obtain ⟨hp, hb, hv⟩ : k.pricedSheets = j.pricedSheets ∧ k.billed = j.billed ∧
      k.voidedSheets = j.voidedSheets := by simpa [Job.counts] using e
  unfold Job.balances
  rw [hp, hb, hv]
  exact h

/-- A sheet priced is one sheet more to account for. -/
theorem Job.balances.priced {j k : Job} {n : Nat} (h : j.balances n)
    (hp : k.pricedSheets = min (j.pricedSheets + 1) 4294967295) (hb : k.billed = j.billed)
    (hv : k.voidedSheets = j.voidedSheets) : k.balances (n + 1) := fun hk => by
  have := h (by omega)
  rw [hb, hv]
  omega

/-- One class count raised, below the top, raises the sum of the counts by one. -/
theorem sum_set_succ (v : Vector Nat 8) (c : Fin 8) (h : v.toList.sum < 4294967295) :
    (v.set c (min (v[c] + 1) 4294967295)).toList.sum = v.toList.sum + 1 := by
  have hc : c.val < v.toList.length := by simp
  have hsplit : v.toList.sum = (v.toList.take c).sum + v[c] + (v.toList.drop (c + 1)).sum := by
    conv_lhs => rw [← List.set_getElem_self hc, List.sum_set, if_pos hc]
    simp
  rw [Vector.toList_set, List.sum_set, if_pos hc]
  omega

/-- A sheet billed passes from those in path or disputed to its class count. -/
theorem Job.balances.billed {j k : Job} {n : Nat} (h : j.balances (n + 1)) (c : Fin 8)
    (hp : k.pricedSheets = j.pricedSheets)
    (hb : k.billed = j.billed.set c (min (j.billed[c] + 1) 4294967295))
    (hv : k.voidedSheets = j.voidedSheets) : k.balances n := fun hk => by
  have := h (by omega)
  rw [hb, hv, sum_set_succ _ _ (by omega)]
  omega

/-- Sheets voided pass from those in path or disputed to the voided sheets. -/
theorem Job.balances.voided {j : Job} {n m a v w : Nat} (h : j.balances (n + m))
    (hv : j.voidedSheets + m ≤ 4294967295 → v = j.voidedSheets + m) :
    ({ j with accrued := a, voidedSheets := v, voidedImpressions := w } : Job).balances n := fun hk => by
  have := h hk
  have hv := hv (by simp only at hk; omega)
  simp only
  omega

/-! ### Stations -/

theorem Station.balanced.of_tally {a b : Station} (h : a.balanced) (e : b.tally = a.tally) : b.balanced := by
  intro j hj
  obtain ⟨hjob, hn⟩ := Prod.mk.inj e
  rw [hj] at hjob
  obtain ⟨k, hk, hc⟩ := Option.map_eq_some_iff.1 hjob.symm
  exact ((h k hk).of_counts hc.symm).cast hn

theorem Station.balanced.of_undriven {a b : Station} (h : a.balanced) (hu : b.undriven = a.undriven) : b.balanced :=
  h.of_tally (congrArg Station.tally hu :)

theorem Station.balanced.of_none {st : Station} (h : st.job = none) : st.balanced :=
  fun j hj => absurd (h.symm.trans hj) (by simp)

theorem Station.balanced.of_some {st : Station} {j : Job} (h : st.job = some j)
    (hj : j.balances (st.path.length + st.disputed.length)) : st.balanced :=
  fun _ hk => Option.some.inj (h.symm.trans hk) ▸ hj

theorem Station.tally_mapJob (st : Station) {f : Job → Job} (hf : ∀ j, (f j).counts = j.counts) :
    ({ st with job := st.job.map f } : Station).tally = st.tally := by
  unfold Station.tally
  rw [Option.map_map]
  simp only [Function.comp_def, hf]

/-- A station served by a retry has the sheets it had. -/
theorem Station.Served.tally {st st' : Station} (h : st.Served st') : st'.tally = st.tally := by
  rcases h with rfl | ⟨-, x, c, -, rfl⟩
  · rfl
  · exact st.tally_mapJob (f := fun q => { q with hold := q.hold + c }) fun _ => rfl

/-- A station without a job has no sheet in path and none disputed (Table 4-1, R118, R119). -/
theorem Station.lawful.lists_empty {st : Station} (h : st.lawful) (hs : st.state.hasJob = false) :
    st.path = [] ∧ st.disputed = [] := by
  obtain ⟨hv, -⟩ := (lawful_vacant_iff hs).1 h
  exact ⟨hv.path, hv.disputed⟩

/-! ### States -/

variable {s t : State}

theorem State.balanced.of_tally (h : s.balanced) (e : ∀ i, (t.station i).tally = (s.station i).tally) : t.balanced :=
  fun i => (h i).of_tally (e i)

theorem State.balanced.of_stations (h : s.balanced) (e : t.stations = s.stations) : t.balanced :=
  h.of_tally fun i => by unfold State.station; rw [e]

/-- What leaves the other stations and balances its own. -/
theorem State.balanced.apart {i : StationId} (h : s.balanced) (ho : KeepsOtherStations i s t)
    (hi : (t.station i).balanced) : t.balanced := fun k => by
  by_cases hk : k = i
  · subst hk; exact hi
  · exact (h k).of_undriven (ho k hk)

theorem State.balanced.foldl {α : Type} {f : State → α → State} (hf : ∀ s a, s.balanced → (f s a).balanced)
    (l : List α) (h : s.balanced) : (l.foldl f s).balanced := by
  induction l generalizing s with
  | nil => exact h
  | cons a l ih => exact ih (hf s a h)

theorem State.balanced.drive (h : s.balanced) : s.drive.balanced := fun k =>
  (h k).of_undriven (State.drive_undriven s k)

/-- A change of a station that leaves its sheets. -/
theorem State.balanced.keepingTally (h : s.balanced) (i : StationId) {f : Station → Station}
    (hf : (f (s.station i)).tally = (s.station i).tally) : (s.modifyStation i f).balanced :=
  h.apart (keepsOtherStations_modifyStation s i f) (by rw [State.station_modifyStation_self]; exact (h i).of_tally hf)

/-- A change of a job that leaves its counts of sheets. -/
theorem State.balanced.keepingCounts (h : s.balanced) (i : StationId) {f : Job → Job}
    (hf : ∀ j, (f j).counts = j.counts) : (s.modifyJob i f).balanced :=
  h.keepingTally i ((s.station i).tally_mapJob hf)

theorem State.balanced.modifyAlarms (h : s.balanced) (i : StationId) (f : StationAlarms → StationAlarms) :
    (s.modifyAlarms i f).balanced := h.keepingTally i rfl

theorem State.balanced.placeDisplay (h : s.balanced) (i : StationId) (d : Display) : (s.placeDisplay i d).balanced := h

theorem State.balanced.enter (h : s.balanced) (i : StationId) (x : StationState) : (s.enter i x).balanced :=
  h.keepingTally i rfl

/-! ### The cover test and the retry (R59 to R65) -/

theorem tally_coverTest (s : State) (i k : StationId) :
    ((s.coverTest i).1.station k).tally = (s.station k).tally := by
  by_cases hk : k = i
  · subst hk
    obtain ⟨c, e⟩ := station_coverTest s k
    rw [e]
    exact (s.station k).tally_mapJob (f := fun q => { q with hold := q.hold + c }) fun _ => rfl
  · rw [station_coverTest_other s hk]

theorem State.balanced.coverTest (h : s.balanced) (i : StationId) : (s.coverTest i).1.balanced :=
  h.of_tally (tally_coverTest s i)

theorem State.balanced.coverAfterPricing (h : s.balanced) (i : StationId) : (s.coverAfterPricing i).balanced := by
  have hc := h.coverTest i
  unfold State.coverAfterPricing
  split
  · split
    · exact hc
    · exact hc.enter i .held
  · split
    · exact hc.enter i .running
    · exact hc
  · exact h

theorem State.balanced.retry (h : s.balanced) (n : Nat) : (s.retry n).balanced :=
  h.of_tally fun k => (served_retry n s k).tally

theorem State.balanced.retryIfPresent (h : s.balanced) (n : Nat) : (s.retryIfPresent n).balanced := by
  unfold State.retryIfPresent
  split
  · exact h.retry n
  · exact h

theorem State.balanced.makeOwedRetries (h : s.balanced) : s.makeOwedRetries.balanced :=
  (State.balanced.of_stations (State.balanced.foldl (fun _ n h => h.retry n) s.retryOwed h) rfl).drive

theorem State.balanced.restartIdle (h : s.balanced) (i : StationId) : (s.restartIdle i).balanced := by
  rcases restartIdle_cases s i with ⟨_, e⟩ | ⟨_, _, e⟩ <;> rw [e]
  · exact h.keepingCounts i fun _ => rfl
  · exact h

/-! ### Pricing, billing, voids (R41, R48, R52) -/

theorem keepsOtherStations_billSheet (s : State) (i : StationId) (x : Sheet) :
    KeepsOtherStations i s (s.billSheet i x) := fun k hk => by
  unfold State.billSheet State.placeCharge
  rw [State.station_placeDisplay]
  exact keepsOtherStations_modifyStation s i _ k hk

/-- A sheet taken off a list of its station is billed. -/
theorem State.balanced.billsOne (h : s.balanced) (i : StationId) (x : Sheet) {f : Station → Station}
    (hj : (f (s.station i)).job = (s.station i).job)
    (hn : (f (s.station i)).path.length + (f (s.station i)).disputed.length + 1 =
      (s.station i).path.length + (s.station i).disputed.length) :
    ((s.modifyStation i f).billSheet i x).balanced := by
  refine h.apart (keepsOtherStations_trans (keepsOtherStations_modifyStation s i f)
    (keepsOtherStations_billSheet _ i x)) ?_
  unfold State.billSheet State.placeCharge
  rw [State.station_placeDisplay, State.station_modifyJob_self, State.station_modifyStation_self, hj]
  intro k hk
  obtain ⟨j, hj, rfl⟩ := Option.map_eq_some_iff.1 hk
  exact Job.balances.billed ((h i j hj).cast hn) x.cls.index rfl rfl rfl

/-- A sheet priced is one sheet more than the lists hold, until it joins the path or is billed. -/
theorem balances_priceSheet (h : s.balanced) {i : StationId} {j : Job} (c : SheetClass)
    (hj : (s.station i).job = some j) :
    ∃ q, ((s.priceSheet i j c).station i).job = some q ∧
      q.balances (((s.priceSheet i j c).station i).path.length +
        ((s.priceSheet i j c).station i).disputed.length + 1) := by
  rw [station_priceSheet s i j c hj]
  exact ⟨_, rfl, (h i j hj).priced rfl rfl rfl⟩

/-- A sheet priced joins the path or is billed at once (R107, R108). -/
theorem State.balanced.pricesOne (h : s.balanced) {i : StationId} {j : Job} (c : SheetClass) (x : Sheet)
    (hj : (s.station i).job = some j) : ((s.priceSheet i j c).queueOrBill i x).balanced := by
  obtain ⟨-, hothers⟩ := priceSheet_frame s i j c
  obtain ⟨q, hq, hbal⟩ := balances_priceSheet h c hj
  generalize s.priceSheet i j c = u at hothers hq hbal
  rcases queueOrBill_cases u i x with ⟨_, e⟩ | ⟨_, e⟩ <;> rw [e]
  · refine h.apart (keepsOtherStations_trans hothers (keepsOtherStations_modifyStation u i _)) ?_
    rw [State.station_modifyStation_self]
    refine .of_some hq (hbal.cast ?_)
    simp only [List.length_append, List.length_singleton]
    omega
  · obtain ⟨-, hbilled, -, hstation, -⟩ := billSheet_facts u i x q hq
    refine h.apart (keepsOtherStations_trans hothers hbilled) ?_
    rw [hstation]
    exact .of_some rfl (hbal.billed x.cls.index rfl rfl rfl)

theorem voidSheets_of_none {i : StationId} (hj : (s.station i).job = none) (xs : List Sheet) :
    xs.foldl (State.voidSheet i) s = s := by
  induction xs with
  | nil => rfl
  | cons x xs ih =>
    have e : State.voidSheet i s x = s := by unfold State.voidSheet; rw [hj]
    rw [List.foldl_cons, e, ih]

/-- The sheets of a list are voided and leave it. -/
theorem State.balanced.voidsAll (h : s.balanced) (i : StationId) (xs : List Sheet) {f : Station → Station}
    (hf : ∀ st, (f st).job = st.job)
    (hn : ∀ st, st.path = (s.station i).path → st.disputed = (s.station i).disputed →
      (f st).path.length + (f st).disputed.length + xs.length =
        (s.station i).path.length + (s.station i).disputed.length) :
    ((xs.foldl (State.voidSheet i) s).modifyStation i f).balanced := by
  cases hj : (s.station i).job with
  | none =>
    rw [voidSheets_of_none hj]
    exact h.apart (keepsOtherStations_modifyStation s i f)
      (.of_none (by rw [State.station_modifyStation_self, hf, hj]))
  | some j =>
    obtain ⟨v, w, hstation, hv, -, -, hothers⟩ := voidSheets_facts i xs s j hj
    generalize xs.foldl (State.voidSheet i) s = u at hstation hothers
    have hlists := hn (u.station i) (by rw [hstation]) (by rw [hstation])
    refine h.apart (keepsOtherStations_trans hothers (keepsOtherStations_modifyStation u i f)) ?_
    rw [State.station_modifyStation_self]
    exact .of_some (by rw [hf, hstation]) (Job.balances.voided ((h i j hj).cast hlists) hv)

theorem State.balanced.voidDisputed (h : s.balanced) (i : StationId) : (s.voidDisputed i).balanced :=
  h.voidsAll i _ (fun _ => rfl) fun st hp _ => by simp [hp]

theorem State.balanced.voidPath (h : s.balanced) (i : StationId) : (s.voidPath i).balanced :=
  h.voidsAll i _ (fun _ => rfl) fun st _ hd => by simp [hd, Nat.add_comm]

/-! ### The end of a job (R68 to R77) -/

theorem State.balanced.recordEnd (h : s.balanced) (i : StationId) (c : EndCause) : (s.recordEnd i c).balanced :=
  h.keepingCounts i fun _ => rfl

/-- A settled station has no job, and the retry of R77 leaves the sheets of the others. -/
theorem State.balanced.settle (h : s.balanced) (i : StationId) (dest : StationState) :
    (s.settle i dest).balanced := by
  unfold State.settle
  split
  · exact h
  · next j _ =>
    obtain ⟨-, hothers, -, -, hstation⟩ := settleJob_facts s i dest j
    exact (h.apart hothers (.of_none (by rw [hstation]))).retryIfPresent _

theorem State.balanced.enterClosing (h : s.balanced) (i : StationId) : (s.enterClosing i).balanced := by
  have h1 := (h.enter i .closing).keepingCounts i (f := fun j => { j with idleTimer := none }) fun _ => rfl
  unfold State.enterClosing
  dsimp only
  split
  · exact h1.settle i _
  · exact h1.keepingTally i rfl

theorem State.balanced.requestEnd (h : s.balanced) (i : StationId) (c : EndCause) :
    (s.requestEnd i c).balanced := by
  have h1 := h.recordEnd i c
  unfold State.requestEnd
  dsimp only
  split
  · exact h1.enterClosing i
  · exact h1.enterClosing i
  · exact h1

/-! ### Jams and station reset (R119, R130, R132, R136) -/

/-- A jam entry moves the path to the disputed list. -/
theorem State.balanced.jamEntry (h : s.balanced) (i : StationId) (c : JamCause) : (s.jamEntry i c).balanced := by
  unfold State.jamEntry
  extract_lets s1 s2
  have h1 : s1.balanced := h.keepingTally i (by simp [Station.tally, Nat.add_comm])
  exact h1.keepingCounts i fun _ => rfl

theorem State.balanced.jamClear (h : s.balanced) (i : StationId) : (s.jamClear i).balanced := by
  unfold State.jamClear State.resumeAfterJam
  extract_lets n s1 s2 s3
  have h1 : s1.balanced := (h.voidDisputed i).keepingTally i rfl
  have h2 : s2.balanced := h1.placeDisplay i _
  have h3 : s3.balanced := by
    unfold s3
    split
    · exact (h2.coverTest i).enter i .running
    · exact (h2.coverTest i).enter i .held
  split
  · exact h3.restartIdle i
  · exact h2.enterClosing i

theorem State.balanced.jamTimedOut (h : s.balanced) (i : StationId) : (s.jamTimedOut i).balanced := by
  unfold State.jamTimedOut
  extract_lets s1 s2 s3
  have h1 : s1.balanced := (h.voidDisputed i).keepingTally i rfl
  exact (((h1.recordEnd i _).settle i _).modifyAlarms i _).placeDisplay i _

theorem State.balanced.resetJob (h : s.balanced) (i : StationId) : (s.resetJob i).balanced := by
  unfold State.resetJob
  extract_lets s1
  have h1 : s1.balanced := h.keepingTally i rfl
  exact (((h1.voidDisputed i).voidPath i).recordEnd i _).settle i _

/-! ### Feeds, exits and lines (R99 to R111, R120 to R128) -/

theorem State.balanced.unpricedFeed (h : s.balanced) (i : StationId) : (s.unpricedFeed i).balanced :=
  h.keepingCounts i fun _ => rfl

theorem State.balanced.feedWithJob (h : s.balanced) (i : StationId) : (s.feedWithJob i).balanced := by
  unfold State.feedWithJob
  split
  · exact ((h.unpricedFeed i).modifyAlarms i _).jamEntry i _
  · unfold State.pricingRequest
    split
    · exact h
    · next j hj =>
      exact ((h.pricesOne (s.station i).sheetClass (s.pricedSheet j (s.station i).sheetClass) hj).restartIdle
        i).coverAfterPricing i

theorem State.balanced.completedFeed (h : s.balanced) (i : StationId) : (s.completedFeed i).balanced := by
  have h1 : (s.startPermitDelay i).balanced := by
    unfold State.startPermitDelay
    split
    · exact h
    · exact h.keepingTally i rfl
  have h2 : ((s.startPermitDelay i).unauthorisedFeed i).balanced := h1.keepingTally i rfl
  unfold State.completedFeed
  dsimp only
  split
  · exact h2
  · exact h2
  · exact h2
  · exact h2
  · exact h1.feedWithJob i
  · exact h1.feedWithJob i
  · exact h1.feedWithJob i
  · exact h1.unpricedFeed i

theorem State.balanced.strayExitOfJob (h : s.balanced) (i : StationId) : (s.strayExitOfJob i).balanced :=
  (h.keepingCounts i (f := fun j => { j with strayExits := satAdd Config.countTop j.strayExits 1 })
    fun _ => rfl).modifyAlarms i _

theorem State.balanced.exitFromPath (h : s.balanced) (i : StationId) : (s.exitFromPath i).balanced := by
  unfold State.exitFromPath
  split
  · exact h.strayExitOfJob i
  · next x rest hp => exact h.billsOne i x rfl (by simp only [hp, List.length_cons]; omega)

theorem State.balanced.exitFromDisputed (h : s.balanced) (i : StationId) : (s.exitFromDisputed i).balanced := by
  unfold State.exitFromDisputed
  split
  · exact h.strayExitOfJob i
  · next x rest hd => exact h.billsOne i x rfl (by simp only [hd, List.length_cons]; omega)

theorem State.balanced.completedExit (h : s.balanced) (i : StationId) : (s.completedExit i).balanced := by
  have h1 := h.exitFromPath i
  unfold State.completedExit
  split
  · exact h1.restartIdle i
  · exact h1.restartIdle i
  · unfold State.exitInClosing
    dsimp only
    split
    · exact (h1.keepingTally i rfl).settle i _
    · exact h1
  · exact h.exitFromDisputed i
  all_goals exact h.keepingTally i rfl

theorem State.balanced.feedPulse (h : s.balanced) (i : StationId) : (s.feedPulse i).balanced := by
  have h1 := h.keepingTally i (f := fun st =>
    { st with feedCounter := (countPulse (s.station i).feedCounter (s.station i).config.divisor).1 }) rfl
  unfold State.feedPulse
  dsimp only
  split
  · exact h
  · split
    · exact h1.completedFeed i
    · exact h1

theorem State.balanced.exitPulse (h : s.balanced) (i : StationId) : (s.exitPulse i).balanced := by
  have h1 := h.keepingTally i (f := fun st =>
    { st with exitCounter := (countPulse (s.station i).exitCounter (s.station i).config.divisor).1 }) rfl
  unfold State.exitPulse
  dsimp only
  split
  · exact h
  · split
    · exact h1.completedExit i
    · exact h1
  · split
    · exact h1.completedFeed i
    · exact h1

theorem State.balanced.jamLine (h : s.balanced) (i : StationId) :
    (s.jamActivation i).balanced ∧ (s.jamRelease i).balanced := by
  unfold State.jamActivation State.jamRelease
  constructor <;> split
  · exact h.jamEntry i _
  · exact h.jamEntry i _
  · exact h.jamEntry i _
  · exact h
  · exact h.jamClear i
  · exact h

theorem State.balanced.lineEdge (h : s.balanced) (i : StationId) (l : FilteredLine) (a : Bool) :
    (s.lineEdge i l a).balanced := by
  obtain ⟨hactive, hrelease⟩ := h.jamLine i
  cases l <;> unfold State.lineEdge <;> dsimp only
  case ready => exact h
  case feed =>
    split
    · exact h.feedPulse i
    · exact h
  case exit =>
    split
    · exact h.exitPulse i
    · exact h
  case jam =>
    split
    · exact hactive
    · exact hrelease

theorem State.balanced.filterExpiry (h : s.balanced) (i : StationId) (l : FilteredLine) :
    (s.filterExpiry i l).balanced := by
  have h1 := h.keepingTally i (f := fun st => st.follow l) rfl
  unfold State.filterExpiry
  dsimp only
  split
  · exact h
  · split
    · exact h1
    · exact h1.lineEdge i l _

theorem State.balanced.idleExpiry (h : s.balanced) (i : StationId) : (s.idleExpiry i).balanced := by
  unfold State.idleExpiry
  split
  · exact h
  · exact (h.keepingCounts i (f := fun j => { j with idleTimer := none }) fun _ => rfl).requestEnd i _

end Sys2Proof.Machine
end

section
/-! SUPPORT. The sheets of open jobs (R52) at an opening, under reader events, and under every command and every step
(O10). -/

namespace Sys2Proof.Machine

variable {s t : State}

/-! ### Openings and walk-ups (R57, R166, R172, R173) -/

/-- A new job has no sheets, and the lists of a station that passes check 1 hold none. -/
theorem State.balanced.openAt (h : s.balanced) {i : StationId} {u : Account} {w : Bool} (y : OpenedBy)
    (hl : (s.station i).lawful) (hc : s.openingCheck i u w = none) : (s.openAt i u y).balanced := by
  obtain ⟨hs, -⟩ := openingCheck_none hc
  obtain ⟨hp, hd⟩ := hl.lists_empty (by rw [hs]; cases w <;> rfl)
  intro k
  rw [station_openAt]
  split
  · exact .of_some rfl fun _ => by simp [hp, hd, State.newJob, zeroCounts]
  · exact h k

theorem State.balanced.startWalkup (h : s.balanced) (i : StationId) (k : Token) :
    (s.startWalkup i k).balanced := by
  refine h.of_tally fun m => ?_
  rw [station_startWalkup]
  split
  · next e => rw [e]; rfl
  · rfl

theorem State.balanced.endWalkup (h : s.balanced) (a : Account) (i : StationId) (d : Display) :
    (s.endWalkup a i d).balanced := by
  obtain ⟨-, hothers, -, -, hstation, -⟩ := endWalkup_facts s a i d
  exact h.apart hothers ((h i).of_tally (by rw [hstation]; rfl))

theorem State.balanced.cancelWalkup (h : s.balanced) (i : StationId) : (s.cancelWalkup i).balanced := by
  unfold State.cancelWalkup
  split
  · exact h
  · exact h.endWalkup _ i _

theorem State.balanced.authExpiry (h : s.balanced) (n : Nat) : (s.authExpiry n).balanced := by
  unfold State.authExpiry
  split
  · exact h
  · split
    · split
      · exact h
      · exact h.endWalkup _ _ _
    · exact h

/-! ### Reader events (R81 to R87) -/

theorem State.balanced.cardAtIdle (h : s.balanced) {i : StationId} (hl : (s.station i).lawful) (k : Token)
    (kind : CardKind) : (s.cardAtIdle i k kind).balanced := by
  unfold State.cardAtIdle
  split
  · unfold State.unknownCard State.requestWalkup
    split
    · split
      · exact h.startWalkup i k
      · exact h
    · exact h
  · split
    · exact h
    · unfold State.knownCard State.cardOpens
      split
      · exact h
      · split
        · exact h
        · next hc => exact (h.openAt .reader hl hc).keepingTally i rfl

theorem State.balanced.cardInSession (h : s.balanced) (i : StationId) (k : Token) :
    (s.cardInSession i k).balanced := by
  have hrunning : (s.ownCardRunning i k).balanced := by
    unfold State.ownCardRunning
    split
    · exact h
    · split
      · exact h.requestEnd i _
      · exact h
  unfold State.cardInSession State.ownCard
  split
  · split
    · exact h
    · exact hrunning
    · exact hrunning
    · exact h
    · exact h
  · exact h

theorem State.balanced.cardEvent (h : s.balanced) {i : StationId} (hl : (s.station i).lawful) (k : Token)
    (kind : CardKind) (x : SessionStyle) : (s.cardEvent i k kind x).balanced := by
  unfold State.cardEvent
  dsimp only
  split_ifs
  · exact h
  · exact h
  · exact h.cardAtIdle hl k kind
  · exact h.cardInSession i k

theorem State.balanced.cardOutEvent (h : s.balanced) (i : StationId) : (s.cardOutEvent i).balanced := by
  have hout : (s.sessionCardOut i).balanced := by
    unfold State.sessionCardOut
    split
    · exact h.requestEnd i _
    · exact h
  unfold State.cardOutEvent
  split
  · exact h
  · split
    · exact h.cancelWalkup i
    · exact hout
    · exact hout
    · exact hout
    · exact h

theorem State.balanced.keyEvent (h : s.balanced) (i : StationId) (k : Key) : (s.keyEvent i k).balanced := by
  unfold State.keyEvent
  split
  · exact h.cancelWalkup i
  · exact h.requestEnd i _
  · exact h.requestEnd i _
  · exact h.requestEnd i _
  · exact h

theorem State.balanced.readerEvent (h : s.balanced) {i : StationId} (hl : (s.station i).lawful)
    (e : ReaderEvent) : (s.readerEvent i e).balanced := by
  have h1 := h.restartIdle i
  unfold State.readerEvent
  dsimp only
  split
  · exact h
  · cases e with
    | card k kind x => exact h1.cardEvent (legal_restartIdle s i i hl) k kind x
    | cardOut => exact h1.cardOutEvent i
    | key k => exact h1.keyEvent i k

theorem State.balanced.answerTaken (h : s.balanced) (hl : s.lawfulStations) (frame : List Byte) :
    (s.answerTaken frame).balanced := by
  unfold State.answerTaken
  split
  · next r _ _ =>
    have h1 : (s.takeAnswer r frame).balanced := by
      unfold State.takeAnswer
      dsimp only
      split
      · exact State.balanced.readerEvent (s := s.modifyReader r _) h (hl r) _
      · exact h
    exact h1
  · exact h

/-! ### Host commands -/

theorem State.balanced.hostCommand (h : s.balanced) {c : Instr} {body : State → State × Response}
    (e : s.hostCommand c body = .next t) (hb : (body s).1.balanced) : t.balanced := by
  rcases hostCommand_cases s c body with ⟨_, g⟩ | ⟨_, _, g⟩ | ⟨_, g⟩ <;> rw [g] at e <;> cases e
  · exact h
  · exact (State.balanced.of_stations (s := s) h rfl).drive
  · exact (State.balanced.of_stations hb rfl).drive

theorem State.balanced.event (h : s.balanced) {u : State} (e : s.event u = .next t) (hu : u.balanced) :
    t.balanced := by
  unfold State.event at e
  split at e <;> cases e
  · exact h
  · exact hu.drive

theorem State.balanced.withRetries (h : s.balanced) (l : List Nat) :
    ({ s with retryOwed := l } : State).balanced := h

theorem State.balanced.withStation (h : s.balanced) {n : Nat} {body : StationId → State → State × Response}
    (hb : ∀ i, (body i s).1.balanced) : (withStation n body s).1.balanced := by
  unfold Machine.withStation
  split
  · exact h
  · exact hb _

theorem State.balanced.withAccount (h : s.balanced) {n : Nat} {body : Account → State → State × Response}
    (hb : ∀ a, (body a s).1.balanced) : (withAccount n body s).1.balanced := by
  unfold Machine.withAccount
  split
  · exact h
  · exact hb _

/-! ### Commands at the stations -/

theorem State.balanced.block (h : s.balanced) (n : Nat) : (blockWork n s).1.balanced := by
  have hb : ∀ u : State, u.balanced → (u.blockJobs n).balanced := fun u hu =>
    State.balanced.foldl (fun u i hu => by
      unfold State.blockAt
      split
      · exact hu.requestEnd i _
      · exact hu) allStations hu
  refine h.withAccount fun a => ?_
  split_ifs
  · exact h
  · dsimp only
    exact hb s h
  · dsimp only
    exact hb (s.setAccountState n .blocked) h

theorem State.balanced.openJob (h : s.balanced) (hl : s.lawfulStations) (k n : Nat) :
    (openJobWork k n s).1.balanced := by
  refine h.withStation fun i => h.withAccount fun u => ?_
  split
  · exact h
  · next hc => exact h.openAt .host (hl i) hc

theorem State.balanced.endJob (h : s.balanced) (n : Nat) : (endJobWork n s).1.balanced := by
  refine h.withStation fun i => ?_
  have hend : (s.endJobAt i).1.balanced := h.requestEnd i _
  split
  · exact hend
  · exact hend
  · exact hend
  · exact hend
  · exact h.cancelWalkup i
  all_goals exact h

theorem State.balanced.clearJam (h : s.balanced) (n : Nat) : (clearJamWork n s).1.balanced := by
  refine h.withStation fun i => ?_
  split
  · exact h.jamClear i
  · exact h

theorem State.balanced.resetStation (h : s.balanced) (n : Nat) : (resetStationWork n s).1.balanced := by
  refine h.withStation fun i => ?_
  have hreset : (s.resetJobAt i).1.balanced := h.resetJob i
  split
  · exact hreset
  · exact hreset
  · exact hreset
  · exact hreset
  · exact h.cancelWalkup i
  all_goals exact h

theorem State.balanced.configureStation (h : s.balanced) (n : Nat) (f : ConfigForm) :
    (configureStationWork n f s).1.balanced := by
  refine h.withStation fun i => ?_
  split
  · exact h
  · split_ifs
    · exact h
    · exact h.keepingTally i rfl
    · exact h

theorem State.balanced.enableStation (h : s.balanced) (n : Nat) : (enableStationWork n s).1.balanced := by
  refine h.withStation fun i => ?_
  split
  · exact h.enter i _
  · exact h
  · exact h

theorem State.balanced.disableStation (h : s.balanced) (n : Nat) : (disableStationWork n s).1.balanced := by
  refine h.withStation fun i => ?_
  split
  · exact h.enter i _
  · exact h.enter i _
  · exact h
  · exact h

theorem State.balanced.setStationTariff (h : s.balanced) (n l : Nat) :
    (setStationTariffWork n l s).1.balanced := by
  refine h.withStation fun i => ?_
  split
  · exact h
  · exact h.keepingTally i rfl

theorem State.balanced.returnToService (h : s.balanced) (n : Nat) : (returnToServiceWork n s).1.balanced := by
  refine h.withStation fun i => ?_
  split_ifs
  · exact h
  · exact h.enter i _
  · exact h

theorem State.balanced.alarmsWork (h : s.balanced) (n : Nat) : (alarmsWork n s).1.balanced :=
  h.withStation fun i => h.keepingTally i rfl

theorem State.balanced.approveResult (h : s.balanced) (a : Account) {w : Walkup} (g : Nat)
    (hl : (s.station w.station).lawful) : (s.approveResult a w g).1.balanced := by
  unfold State.approveResult
  extract_lets grant b s1
  have h1 : s1.balanced := h
  split
  · exact h1.endWalkup _ _ _
  · split
    · exact h1.endWalkup _ _ _
    · next hc => exact h1.openAt .reader hl hc

theorem State.balanced.authResult (h : s.balanced) (hl : s.lawfulStations) (r o : Nat) (x : Option Int) :
    (authResultWork r o x s).1.balanced := by
  unfold authResultWork
  split
  · exact h
  · next result _ =>
    split
    · exact h
    · next a w _ =>
      cases result with
      | declined => exact h.endWalkup _ _ _
      | approved g => exact h.approveResult a g (hl w.station)

/-! ### Every command, every step -/

theorem balanced_released (s : State) : s.released.balanced := fun k =>
  .of_none (by
    show ((mapSixteen _ s.stations)[k] : Station).job = none
    rw [mapSixteen_get]
    rfl)

theorem State.balanced.tick (h : s.balanced) : s.tick.balanced := by
  unfold State.tick
  split
  · exact h
  · refine h.of_tally fun k => ?_
    show ((mapSixteen (fun _ st => st.count) s.stations)[k] : Station).tally = _
    rw [mapSixteen_get]
    exact (s.station k).tally_mapJob (f := fun j => { j with idleTimer := Timer.count j.idleTimer }) fun _ => rfl

theorem State.balanced.lineLevelChange (h : s.balanced) {i : StationId} {l : InputLine} {high : Bool}
    (e : execLineLevelChange i l high s = .next t) : t.balanced := by
  have hd : (s.modifyStation i fun st => st.levelChange l high).balanced := by
    refine h.keepingTally i ?_
    unfold Station.levelChange
    dsimp only
    split <;> rfl
  unfold execLineLevelChange at e
  split_ifs at e <;> cases e
  · exact h
  · exact h.keepingTally i rfl
  · exact hd.drive

/-- Every command keeps the balance of the sheets, where its openings find lawful stations. -/
theorem exec_balanced {c : Instr} (h : s.balanced) (hl : s.lawfulStations) (e : exec c s = .next t) :
    t.balanced := by
  cases c with
  | deviceReset => cases e; exact State.balanced.drive (s := { s with resetLow := true, link := _ }) h
  | resetRelease => cases e; exact (balanced_released s).drive
  | selectPeriodStart => exact h.event e (h.of_stations rfl)
  | selectPeriodEnd mosi => exact h.event e (h.of_stations rfl)
  | loadAccount f => exact h.hostCommand e (h.of_stations (stations_loadAccount f s))
  | updateAccount f => exact h.hostCommand e (h.of_stations (stations_updateAccount f s))
  | credit n x => exact h.hostCommand e (h.of_stations (stations_credit n x s))
  | debit n x => exact h.hostCommand e (h.of_stations (stations_debit n x s))
  | block n => exact h.hostCommand e (h.block n)
  | unblock n => exact h.hostCommand e (h.of_stations (stations_unblock n s))
  | retireAccount n => exact h.hostCommand e (h.of_stations (stations_retireAccount n s))
  | closePeriod n => exact h.hostCommand e (h.of_stations (stations_closePeriod n s))
  | readAccount n => exact h.hostCommand e h.makeOwedRetries
  | listAccounts n => exact h.hostCommand (body := fun s => (s, s.listAccountsResponse n)) e h
  | bindToken k n => exact h.hostCommand e (h.of_stations (stations_bindToken k n s))
  | unbindToken k => exact h.hostCommand e (h.of_stations (stations_unbindToken k s))
  | findToken k => exact h.hostCommand (body := fun s => (s, s.findTokenResponse k)) e h
  | writeTariff l f => exact h.hostCommand e (h.of_stations (stations_writeTariff l f s))
  | readTariff l => exact h.hostCommand (body := fun s => (s, s.readTariffResponse l)) e h
  | writeSchedule n f => exact h.hostCommand e (h.of_stations (stations_writeSchedule n f s))
  | readSchedule n => exact h.hostCommand (body := fun s => (s, s.readScheduleResponse n)) e h
  | setGlobals f => exact h.hostCommand e (h.of_stations (stations_setGlobals f s))
  | configureStation n f => exact h.hostCommand e (h.configureStation n f)
  | enableStation n => exact h.hostCommand e (h.enableStation n)
  | disableStation n => exact h.hostCommand e (h.disableStation n)
  | setStationTariff n l => exact h.hostCommand e (h.setStationTariff n l)
  | readStation n => exact h.hostCommand e h.makeOwedRetries
  | readStationAlarms n =>
    exact h.hostCommand (body := fun s => alarmsWork n s.makeOwedRetries) e (h.makeOwedRetries.alarmsWork n)
  | openJob i n => exact h.hostCommand e (h.openJob hl i n)
  | endJob n => exact h.hostCommand e (h.endJob n)
  | clearJam n => exact h.hostCommand e (h.clearJam n)
  | resetStation n => exact h.hostCommand e (h.resetStation n)
  | returnToService n => exact h.hostCommand e (h.returnToService n)
  | configureReader n x => exact h.hostCommand e (h.of_stations (stations_configureReader n x s))
  | readReader n =>
    exact h.hostCommand (body := fun s => readReaderWork n s.makeOwedRetries) e
      (h.makeOwedRetries.of_stations (stations_withStation fun _ => rfl))
  | presetReaderCounters n w x y z =>
    exact h.hostCommand e (h.of_stations (stations_presetReaderCounters n w x y z s))
  | sendShopMessage n => exact h.hostCommand e (h.of_stations (stations_sendShopMessage n s))
  | resetReaderBus => exact h.hostCommand (body := fun s => (s.resetBus, bare .ok)) e (h.of_stations rfl)
  | takeAuthRequest => exact h.hostCommand e (h.of_stations (stations_takeAuthRequest s))
  | authResult r o x => exact h.hostCommand e (h.authResult hl r o x)
  | statusSummary => exact h.hostCommand e h.makeOwedRetries
  | retryOfHeldStations n => exact h.event e ((h.retry n).withRetries _)
  | lineLevelChange i l high => exact h.lineLevelChange e
  | filterTimerExpiry i l => exact h.event e (h.filterExpiry i l)
  | permitDelayExpiry i => exact h.event e (h.keepingTally i rfl)
  | idleTimerExpiry i => exact h.event e (h.idleExpiry i)
  | drainTimerExpiry i =>
    refine h.event e ?_
    split
    · exact h
    · exact h.jamEntry i _
  | jamTimeout i =>
    refine h.event e ?_
    split
    · exact h
    · exact h.jamTimedOut i
  | authTimerExpiry n => exact h.event e (h.authExpiry n)
  | pollPeriodStart =>
    refine h.event e (h.of_stations ?_)
    unfold State.startPeriodIfDue
    split <;> rfl
  | periodTimerExpiry => exact h.event e (h.of_stations rfl)
  | broadcastTransferEnd => exact h.event e (h.of_stations (stations_broadcastEnd s))
  | slotStart => exact h.event e (h.of_stations (stations_nextSlot s))
  | displayTransferEnd d => exact h.event e (h.of_stations (stations_displayEnd s d))
  | pollTransferEnd a => exact h.event e (h.of_stations (stations_pollEnd s a))
  | answerLimitExpiry => exact h.event e (h.of_stations (stations_limitReached s))
  | answerReceived frame => exact h.event e (h.answerTaken hl frame)
  | clockReleased => exact h.event e (h.of_stations rfl)

theorem step_balanced (h : s.balanced) (hl : s.lawfulStations) (e : step s = .next t) : t.balanced := by
  unfold step at e
  split at e
  · rcases ownStep_cases s with ⟨status, _, _, g⟩ | ⟨c, _, _, _, g⟩ | ⟨_, _, g⟩ <;> rw [g] at e
    · cases e
      exact (State.balanced.of_stations (s := s) h rfl).drive
    · exact exec_balanced h hl e
    · cases e
      exact h.tick
  · next c rest _ => exact exec_balanced (s := { s with pending := rest }) h hl e

/-- Settles O10: each operation keeps the balance of every job's sheets, an opening because a station without a job has
no sheets in its lists. -/
theorem pricedSheetsAreAccountedFor : Obligations.PricedSheetsAreAccountedFor := by
  rintro s t ⟨⟨-, hl, -⟩, hs⟩ e
  exact (sheetsLaw_iff t).2 (step_balanced ((sheetsLaw_iff s).1 hs) hl e)

end Sys2Proof.Machine
end

section
/-! SUPPORT. The cover test by its three outcomes, and the turns of a retry of held stations (O42, O43). -/

namespace Sys2Proof.Machine

variable {s : State} {i : StationId} {j : Job} {u b : Account} {n : Nat}

/-! ### The cover test (R59 to R61) -/

/-- The need in cents, rounded up, is within a grant when the lack of headroom is. -/
theorem needed_le_iff (j : Job) (grant : Nat) :
    j.needed ≤ grant ↔ j.snapshot.reserve - j.headroom ≤ grant * 100000 := by
  unfold Job.needed ceilCents
  simp only [Config.milliPointsPerCent]
  omega

theorem grantFor_of_user (hu : s.account j.user = some u) :
    s.grantFor j = min j.snapshot.holdQuantum (min (s.available u).toNat (1000000 - j.hold)) := by
  unfold State.grantFor
  rw [hu]
  rfl

theorem coverTest_covered (hj : (s.station i).job = some j) (h : j.snapshot.reserve ≤ j.headroom) :
    s.coverTest i = (s, true) := by
  unfold State.coverTest
  rw [hj]
  exact if_pos h

theorem coverTest_short (hj : (s.station i).job = some j) (h : j.headroom < j.snapshot.reserve)
    (hg : s.grantFor j * 100000 < j.snapshot.reserve - j.headroom) : s.coverTest i = (s, false) := by
  unfold State.coverTest
  rw [hj]
  exact (if_neg (Nat.not_le.2 h)).trans (if_neg (by rw [needed_le_iff]; exact Nat.not_le.2 hg))

theorem coverTest_extended (hj : (s.station i).job = some j) (h : j.headroom < j.snapshot.reserve)
    (hg : j.snapshot.reserve - j.headroom ≤ s.grantFor j * 100000) :
    s.coverTest i = (s.raiseHold i j (s.grantFor j), true) := by
  unfold State.coverTest
  rw [hj]
  exact (if_neg (Nat.not_le.2 h)).trans (if_pos ((needed_le_iff j _).2 hg))

/-- What a raised hold leaves of the other stations and accounts. -/
theorem keepsOthers_raiseHold (s : State) (i : StationId) (j : Job) (c : Nat) :
    KeepsOtherStations i s (s.raiseHold i j c) ∧ KeepsOtherAccounts [j.user, j.billing] s (s.raiseHold i j c) := by
  refine ⟨fun k hk => by rw [station_raiseHold, if_neg hk], fun m hm => ?_⟩
  simp only [List.mem_cons, List.not_mem_nil, or_false, not_or] at hm
  rw [account_raiseHold]
  simp only [hm.1, hm.2, if_false, Option.map_id']

/-- Settles O42: the three outcomes of the cover test, the extension by what a raised hold does. -/
theorem coverTestExtendsTheHold : Obligations.CoverTestExtendsTheHold := by
  intro s i j u b hj hu hb grant hgrant
  rw [← grantFor_of_user hu] at hgrant
  subst hgrant
  refine ⟨coverTest_covered hj, coverTest_short hj, fun hlow hneed => ?_⟩
  rw [coverTest_extended hj hlow hneed]
  obtain ⟨hstations, haccounts⟩ := keepsOthers_raiseHold s i j (s.grantFor j)
  refine ⟨rfl, keepsAllBut_raiseHold s i j _, hstations, haccounts, ?_, fun hown => ?_, fun hpayer => ⟨?_, ?_⟩⟩
  · rw [station_raiseHold, if_pos rfl, hj]
    rfl
  · rw [account_raiseHold, hu, Option.map_some, if_pos hown]
  · rw [account_raiseHold, hu, Option.map_some, if_neg hpayer, if_pos rfl]
  · rw [account_raiseHold, hb, Option.map_some, if_pos rfl]

/-! ### The retry of held stations (R65) -/

/-- The turn of a station that is HELD for the account: RUNNING when it is covered, nothing otherwise. -/
theorem retryAt_held (hs : (s.station i).state = .held) (hn : (s.station i).job.map Job.billing = some n) :
    State.retryAt n s i = if (s.coverTest i).2 then (s.coverTest i).1.enterRunning i else s := by
  unfold State.retryAt
  rw [if_pos ⟨hs, hn⟩]
  split
  · rfl
  · next h => exact coverTest_failed (by simpa using h)

/-- The state after the event, its retry made and struck out. -/
theorem keepsAllBut_retryMade (s : State) (n : Nat) :
    KeepsAllBut [.accounts, .stations, .readers, .retries] s
      { s.retry n with retryOwed := s.retryOwed.erase n } := by
  refine keepsAllBut_trans (keepsAllBut_mono (keepsAllBut_retry n s) (by decide)) ?_
  generalize s.retry n = t
  intro p hp
  cases p <;> first | rfl | exact fun _ => rfl | exact absurd (by decide) hp

/-- A covered station runs again and shows the charge of its job, which the cover test leaves (R64). -/
theorem enterRunning_covered (s : State) (hj : (s.station i).job = some j) :
    ((s.coverTest i).1.enterRunning i).station i = { (s.coverTest i).1.station i with state := .running } ∧
      ShownOn i (.charge (toCents j.accrued)) s ((s.coverTest i).1.enterRunning i) := by
  obtain ⟨c, hc⟩ := station_coverTest s i
  have hbus : (s.coverTest i).1.bus = s.bus := keepsAllBut_coverTest s i .bus (by decide)
  unfold State.enterRunning State.placeCharge
  refine ⟨?_, shownOn_placeDisplay ?_ (reader_coverTest s i i) hbus⟩
  · rw [State.station_placeDisplay, State.station_enter_self]
  · rw [State.station_enter_self, hc, hj]
    rfl

/-- A station that is HELD for the account after the retry: as its own turn leaves it, which is made on what the
turns of the lower numbers left. -/
theorem retry_held (hs : (s.station i).state = .held) (hj : (s.station i).job = some j) (hn : j.billing = n)
    {m : State} (hm : m = (allStations.take i.val).foldl (State.retryAt n) s) :
    ((m.coverTest i).2 = false →
      (s.retry n).station i = s.station i ∧ (s.retry n).reader i = s.reader i) ∧
    ((m.coverTest i).2 = true →
      (s.retry n).station i = { (m.coverTest i).1.station i with state := .running } ∧
        ShownOn i (.charge (toCents j.accrued)) s (s.retry n)) := by
  obtain ⟨v, hv, hstation, hreader, hbefore, hshown⟩ := retry_at n s i
  obtain rfl : v = m := hv.trans hm.symm
  rw [retryAt_held (by rw [hbefore, hs]) (by rw [hbefore, hj, ← hn]; rfl)] at hstation hreader
  refine ⟨fun hc => ?_, fun hc => ?_⟩
  · rw [hc, if_neg (by decide)] at hstation hreader
    exact ⟨hstation.trans hbefore, hreader.trans hshown⟩
  · have hbus : v.bus = s.bus := by
      rw [hv]
      exact keepsAllBut_retries n _ s .bus (by decide)
    rw [hc, if_pos rfl] at hstation hreader
    obtain ⟨hruns, hcharge⟩ := enterRunning_covered v (hbefore ▸ hj)
    unfold ShownOn at hcharge ⊢
    rw [hshown, hbus] at hcharge
    exact ⟨hstation.trans hruns, hreader.trans hcharge⟩

/-- The retry is made and one entry struck out; the pins apart, stations and readers are as it leaves them (log 7). -/
theorem happens_retry (s : State) (n : Nat) (hr : s.resetLow = false) :
    Happens (.retryOfHeldStations n) s [.accounts, .stations, .readers, .retries] fun t =>
      t.retryOwed = s.retryOwed.erase n ∧ t.tokens = s.tokens ∧ t.accounts = (s.retry n).accounts ∧
        ∀ i, (t.station i).undriven = ((s.retry n).station i).undriven ∧ t.reader i = (s.retry n).reader i := by
  refine happens_of_event hr rfl (keepsAllBut_retryMade s n) ?_
  have htokens : (s.retry n).tokens = s.tokens := keepsAllBut_retry n s .tokens (by decide)
  generalize s.retry n = u at htokens
  exact ⟨rfl, htokens, rfl, fun i => ⟨State.drive_undriven _ i, rfl⟩⟩

/-- Settles O43: a station that takes no part by `retry_skips`, one that does by `retry_held`, one turn by the
equations of `State.retryAt`. -/
theorem retryServesHeldStationsInOrder : Obligations.RetryServesHeldStationsInOrder := by
  refine ⟨fun s n hr => ?_, fun s n i => ⟨retryAt_skips, fun hs hn => ?_⟩⟩
  · obtain ⟨t, hexec, hkeeps, hpins, howed, htokens, haccounts, hshown⟩ := happens_retry s n hr
    refine ⟨t, hexec, hkeeps, hpins, howed, htokens, haccounts, fun i hi => ?_, fun i j hs hj hn m hm => ?_⟩ <;>
      obtain ⟨hstation, hreader⟩ := hshown i
    · obtain ⟨hsame, hsilent⟩ := retry_skips hi
      exact ⟨hstation.trans (congrArg _ hsame), hreader.trans hsilent⟩
    · obtain ⟨hfailed, hcovered⟩ := retry_held hs hj hn hm
      refine ⟨fun hc => ?_, fun hc => ?_⟩
      · obtain ⟨hsame, hsilent⟩ := hfailed hc
        exact ⟨hstation.trans (congrArg _ hsame), hreader.trans hsilent⟩
      · obtain ⟨hruns, hcharge⟩ := hcovered hc
        exact ⟨hstation.trans (congrArg _ hruns), shownOn_congr hcharge hreader⟩
  · rw [retryAt_held hs hn]
    exact ⟨fun hc => if_neg (by simp [hc]), fun hc => if_pos hc⟩

end Sys2Proof.Machine
end

section
/-! SUPPORT. END JOB: what an end request leaves by station state, the command's work by its cases, and its answers
(O38). -/

namespace Sys2Proof.Machine

variable {s : State} {i : StationId} {j : Job} {a : Account} {c : EndCause}

/-! ### The end request by station state (R68 to R70) -/

/-- In JAMMED and CLOSING the cause is recorded unless one stands. -/
theorem requestEnd_recorded (c : EndCause) (hj : (s.station i).job = some j)
    (hs : (s.station i).state = .jammed ∨ (s.station i).state = .closing) :
    s.requestEnd i c =
      s.setStation i { s.station i with job := some { j with endRequest := some (j.endRequest.getD c) } } := by
  rw [← recordEnd_eq c hj]
  unfold State.requestEnd
  rcases hs with h | h <;> simp only [h]

/-- In RUNNING and HELD, with sheets in path, the station enters CLOSING and drains. -/
theorem requestEnd_drains (c : EndCause) (hj : (s.station i).job = some j)
    (hs : (s.station i).state = .running ∨ (s.station i).state = .held) (hp : (s.station i).path ≠ []) :
    s.requestEnd i c = s.setStation i
      { s.station i with
        state := .closing
        job := some { j with endRequest := some (j.endRequest.getD c), idleTimer := none }
        drainTimer := some (s.globals.drainTimeout * 10000) } := by
  rw [requestEnd_eq c hs, closed_eq c hj, State.station_setStation_self, modifyStation_setStation]
  exact if_neg (by simpa using hp)

/-- In RUNNING and HELD, with no sheet in path, the job settles from the state that holds the request. -/
theorem requestEnd_settles (c : EndCause) (hj : (s.station i).job = some j)
    (hs : (s.station i).state = .running ∨ (s.station i).state = .held) (hp : (s.station i).path = []) :
    s.requestEnd i c = (s.closed i c).settle i .idle := by
  rw [requestEnd_eq c hs, station_closed s i c j hj]
  exact if_pos (by simp [hp])

/-! ### The work (R89; log 17) -/

theorem endJobWork_refused (hs : (s.station i).state ∈ [StationState.idle, .disabled, .outOfService]) :
    endJobWork i.val s = unchanged (bare .refusedState) s := by
  refine (withStation_val i _).trans ?_
  simp only [List.mem_cons, List.not_mem_nil, or_false] at hs
  rcases hs with h | h | h <;> simp only [h]

theorem endJobWork_opening (hs : (s.station i).state = .opening) (ha : s.walkupOf i = some a) :
    endJobWork i.val s = (s.endWalkup a i (.goodbye 0), answer .ok [1#8]) := by
  obtain ⟨-, -, -, -, hstation, -⟩ := endWalkup_facts s a i (.goodbye 0)
  refine (withStation_val i _).trans ?_
  simp only [hs, cancelWalkup_eq ha, State.stateByte, hstation]
  rfl

/-- The byte of a station state, and that of an end cause. -/
theorem endJob_bytes (x : StationState) (c : EndCause) :
    count 1 x.code ++ count 1 c.place = [BitVec.ofNat 8 x.code, BitVec.ofNat 8 c.place] := by
  have hstate : count 1 x.code = [BitVec.ofNat 8 x.code] := by cases x <;> rfl
  have hcause : count 1 c.place = [BitVec.ofNat 8 c.place] := by cases c <;> rfl
  rw [hstate, hcause]
  rfl

/-- With an open job: the end request, the state it leaves and the cause that stands. -/
theorem endJobWork_job (hs : (s.station i).state.hasJob = true) (hj : (s.station i).job = some j) :
    endJobWork i.val s =
      (s.requestEnd i .hostEnd,
        answer .ok [BitVec.ofNat 8 ((s.requestEnd i .hostEnd).station i).state.code,
          BitVec.ofNat 8 (j.endRequest.getD .hostEnd).place]) := by
  have hat : endJobWork i.val s = s.endJobAt i := by
    refine (withStation_val i _).trans ?_
    cases h : (s.station i).state <;> simp [h, StationState.hasJob] at hs ⊢
  rw [hat, ← endJob_bytes]
  unfold State.endJobAt State.stateByte State.causeStanding
  rw [hj]
  rfl

theorem hasJob_of_either {x y z : StationState} (h : x = y ∨ x = z) (hy : y.hasJob = true) (hz : z.hasJob = true) :
    x.hasJob = true := by
  rcases h with rfl | rfl <;> assumption

/-! ### The answers -/

/-- An END JOB whose request changes its own station alone. -/
theorem answers_endJob_station {st : Station} (hr : s.ready (.endJob i.val))
    (hs : (s.station i).state.hasJob = true) (hj : (s.station i).job = some j)
    (hc : c = j.endRequest.getD .hostEnd) (h : s.requestEnd i .hostEnd = s.setStation i st) :
    Answers (.endJob i.val) s .ok [BitVec.ofNat 8 st.state.code, BitVec.ofNat 8 c.place] [.stations] fun t =>
      (t.station i).undriven = st.undriven ∧ KeepsOtherStations i s t := by
  have hw := endJobWork_job hs hj
  rw [h, State.station_setStation_self, ← hc] at hw
  exact answers_of_result hr rfl hw rfl rfl (keepsAllBut_modifyStation s i fun _ => st) fun l =>
    ⟨undriven_answered (State.station_setStation_self s i st) l,
      fun k hk => undriven_answered (State.station_setStation_ne s hk st) l⟩

/-- Placing a response and driving the pins leaves all that a settlement is said to leave. -/
theorem settledFrom_answered (m : State) (i : StationId) (dest : StationState) (l : Link) :
    SettledFrom m i dest ({ m.settle i dest with link := l } : State).drive := by
  unfold SettledFrom
  generalize m.settle i dest = u
  exact ⟨rfl, rfl, fun k _ => undriven_answered rfl l, fun _ _ => rfl⟩

/-- An END JOB that settles the job at once. -/
theorem answers_endJob_settled (hr : s.ready (.endJob i.val)) (hj : (s.station i).job = some j)
    (hs : (s.station i).state = .running ∨ (s.station i).state = .held) (hp : (s.station i).path = [])
    (hc : c = j.endRequest.getD .hostEnd) :
    Answers (.endJob i.val) s .ok [1#8, BitVec.ofNat 8 c.place] [.accounts, .tokens, .stations, .readers] fun t =>
      (t.station i).state = .idle ∧ (t.station i).job = none ∧ (t.station i).sessionToken = none ∧
        ((t.station i).lastJob.bind LastJob.endCause) = some c ∧
        ((t.station i).lastJob.map LastJob.charge) = some (settlementCharge j).1 ∧
        ShownOn i (.goodbye (settlementCharge j).1) s t ∧
        ∃ m, KeepsAllBut [.stations] s m ∧ KeepsOtherStations i s m ∧
          (m.station i).job = some { j with endRequest := some c, idleTimer := none } ∧
          SettledFrom m i .idle t := by
  have hw := endJobWork_job (hasJob_of_either hs rfl rfl) hj
  rw [requestEnd_settles _ hj hs hp, ← hc] at hw
  obtain ⟨hkeeps, hothers⟩ := closed_frame s i .hostEnd
  have hclosed := station_closed s i .hostEnd j hj
  rw [← hc] at hclosed
  obtain ⟨hreader, hbus, hl, hz⟩ : (s.closed i .hostEnd).reader i = s.reader i ∧
      (s.closed i .hostEnd).bus = s.bus ∧ (s.closed i .hostEnd).link = s.link ∧
      (s.closed i .hostEnd).resetLow = s.resetLow := ⟨rfl, rfl, rfl, rfl⟩
  generalize s.closed i .hostEnd = m at hw hkeeps hothers hclosed hreader hbus hl hz
  obtain ⟨hsettled, hshown, b, hstation⟩ := settle_facts m i .idle _ (by rw [hclosed]) (by decide)
  obtain ⟨-, hreset, hlink, -⟩ := board_eq (board_settle (s := m) i .idle)
  rw [hstation] at hw
  refine answers_of_result hr rfl hw (hlink.trans hl) (hreset.trans hz)
    (keepsAllBut_trans (keepsAllBut_mono hkeeps (by decide)) hsettled) fun l => ?_
  have hfrom := settledFrom_answered m i .idle l
  generalize m.settle i .idle = u at hshown hstation hfrom
  rw [State.station_drive, show ({ u with link := l } : State).station i = _ from hstation]
  unfold ShownOn at hshown ⊢
  rw [hreader, hbus] at hshown
  exact ⟨rfl, rfl, rfl, rfl, rfl, hshown, m, hkeeps, hothers, by rw [hclosed], hfrom⟩

/-- An END JOB that cancels the walk-up of an OPENING station. -/
theorem answers_endJob_cancelled (hr : s.ready (.endJob i.val)) (hs : (s.station i).state = .opening)
    (ha : s.walkupOf i = some a) :
    Answers (.endJob i.val) s .ok [1#8] [.accounts, .tokens, .stations, .readers, .walkup] fun t =>
      (t.station i).undriven = ({ s.station i with state := .idle, sessionToken := none } : Station).undriven ∧
        KeepsOtherStations i s t ∧ t.account a.number = none ∧ ShownOn i (.goodbye 0) s t ∧
        KeepsOtherReaders i s t ∧
        (s.account a.number = some a → a.payer = none → WalkupEnded s t a i (.goodbye 0)) := by
  obtain ⟨hkeeps, hothers, hreaders, hgone, hstation, hshown, hended⟩ := endWalkup_facts s a i (.goodbye 0)
  obtain ⟨-, hreset, hlink, -⟩ := board_eq (board_endWalkup (s := s) a i (.goodbye 0))
  have hw := endJobWork_opening hs ha
  generalize s.endWalkup a i (.goodbye 0) = u at *
  refine answers_of_result hr rfl hw hlink hreset hkeeps fun l => ?_
  have hpins : KeepsOtherStations i s ({ u with link := l } : State).drive :=
    keepsOtherStations_drive (t := { u with link := l }) hothers
  have hself := undriven_answered hstation l
  refine ⟨hself, hpins, hgone, hshown, hreaders, fun hfound hpayer => ?_⟩
  obtain ⟨hout, haccounts, htokens, hwau, -, -, -, -⟩ := hended hfound hpayer
  exact ⟨hout, haccounts, htokens, hwau, hpins, hreaders, hself, hshown⟩

/-- Settles O38: refusals and the cancelled walk-up from the work, the open job by what `State.requestEnd` leaves. -/
theorem endJobByState : Obligations.EndJobByState := by
  intro s i hr
  refine ⟨fun hs => refuses_of_work hr rfl (endJobWork_refused hs), fun a => answers_endJob_cancelled hr,
    fun j cause hj hc => ⟨fun hs => ?_, fun hs hp => ?_,
      fun hs hp => answers_endJob_settled hr hj hs hp hc⟩⟩
  · rw [hc]
    exact answers_endJob_station hr (hasJob_of_either hs rfl rfl) hj rfl
      (requestEnd_recorded .hostEnd hj hs)
  · rw [hc]
    exact answers_endJob_station hr (hasJob_of_either hs rfl rfl) hj rfl
      (requestEnd_drains .hostEnd hj hs hp)

end Sys2Proof.Machine
end

section
/-! SUPPORT. The requests of the walk-ups in progress, as the laws of walk-ups read them: how each operation of the
account table changes them, and both laws said of them (O6, O11). -/

namespace Sys2Proof.Machine

variable {s t : State} {a b : Account} {i : StationId} {n : Nat}

/-! ### Requests -/

/-- What the laws read of a PENDING record's walk-up fields: not the grant, and of the timer only whether it runs. -/
def Walkup.claim (w : Walkup) : Walkup :=
  { w with granted := none, finalCharge := none, authTimer := w.authTimer.map fun _ => 0 }

/-- The number of a record with its claim. -/
def Account.request (a : Account) : Nat × Option Walkup := (a.number, a.walkup.map Walkup.claim)

/-- The requests of the PENDING records (R162). -/
def State.requests (s : State) : List (Nat × Option Walkup) :=
  (s.accounts.filter Account.isPending).map Account.request

theorem mem_requests {r : Nat × Option Walkup} :
    r ∈ s.requests ↔ ∃ a ∈ s.accounts, a.isPending ∧ a.request = r := by
  simp [State.requests, and_assoc]

theorem request_mem (ha : a ∈ s.accounts) (hp : a.isPending) : a.request ∈ s.requests :=
  mem_requests.2 ⟨a, ha, hp, rfl⟩

/-- A claim keeps the fields of the walk-up that the laws read. -/
theorem claim_map {β : Type} {f : Walkup → β} (hf : ∀ w, f w.claim = f w) (o : Option Walkup) :
    (o.map Walkup.claim).map f = o.map f := by
  cases o <;> simp [hf]

@[simp] theorem request_number (a : Account) : a.request.1 = a.number := rfl

theorem request_station (a : Account) : a.request.2.map Walkup.station = a.walkup.map Walkup.station :=
  claim_map (fun _ => rfl) _

theorem request_state (a : Account) :
    a.request.2.map Walkup.requestState = a.walkup.map Walkup.requestState := claim_map (fun _ => rfl) _

theorem request_authRef (a : Account) : a.request.2.map Walkup.authRef = a.walkup.map Walkup.authRef :=
  claim_map (fun _ => rfl) _

/-- In a table in order a number names one request. -/
theorem request_unique (o : AccountsInOrder s) {r q : Nat × Option Walkup} (hr : r ∈ s.requests)
    (hq : q ∈ s.requests) (h : r.1 = q.1) : r = q := by
  obtain ⟨a, ha, -, rfl⟩ := mem_requests.1 hr
  obtain ⟨b, hb, -, rfl⟩ := mem_requests.1 hq
  rw [eq_of_account o (account_of_mem o hb) ha h]

/-- A found record that is not PENDING has no request. -/
theorem not_requested (o : AccountsInOrder s) (ha : s.account n = some a) (hp : ¬ a.isPending) :
    ∀ r ∈ s.requests, r.1 ≠ n := by
  rintro r hr rfl
  obtain ⟨b, hb, hbp, rfl⟩ := mem_requests.1 hr
  exact hp (eq_of_account o ha hb rfl ▸ hbp)

theorem not_pending_of_kind (h : a.kind ≠ .transient) : ¬ a.isPending := by
  simp [Account.isPending, h]

/-! ### Requests under changes of the table -/

theorem requests_of_accounts (h : t.accounts = s.accounts) : t.requests = s.requests := by
  unfold State.requests; rw [h]

/-- Records changed in nothing that a request shows. -/
theorem requests_map {f : Account → Account} (ht : t.accounts = s.accounts.map f)
    (hf : ∀ a, (f a).isPending = a.isPending ∧ (f a).request = a.request) : t.requests = s.requests := by
  unfold State.requests
  rw [ht, List.filter_map, List.map_map]
  have hpending : Account.isPending ∘ f = Account.isPending := funext fun a => (hf a).1
  rw [hpending]
  exact List.map_congr_left fun a _ => (hf a).2

theorem requests_modifyAccount {f : Account → Account}
    (hf : ∀ a, (f a).isPending = a.isPending ∧ (f a).request = a.request) :
    (s.modifyAccount n f).requests = s.requests :=
  requests_map (f := fun a => if a.number = n then f a else a) rfl fun a => by
    split
    · exact hf a
    · exact ⟨rfl, rfl⟩

theorem MoneyOnly.requests (h : MoneyOnly s t) : t.requests = s.requests := by
  obtain ⟨-, g, ha, hg⟩ := h
  refine requests_map ha fun a => ?_
  rw [show g a = _ from hg a]
  exact ⟨rfl, rfl⟩

/-- The records of one number PENDING no more. -/
theorem requests_modifyAccount_lost {f : Account → Account} (hf : ∀ a, ¬ (f a).isPending) :
    (s.modifyAccount n f).requests = s.requests.filter fun r => r.1 != n := by
  show ((s.accounts.map _).filter _).map _ = ((s.accounts.filter _).map _).filter _
  induction s.accounts with
  | nil => rfl
  | cons a l ih =>
    rw [List.map_cons]
    by_cases hn : a.number = n
    · rw [if_pos hn, List.filter_cons_of_neg (hf a), ih]
      by_cases hp : a.isPending
      · rw [List.filter_cons_of_pos hp, List.map_cons, List.filter_cons_of_neg (by simpa using hn)]
      · rw [List.filter_cons_of_neg hp]
    · rw [if_neg hn]
      by_cases hp : a.isPending
      · rw [List.filter_cons_of_pos hp, List.filter_cons_of_pos hp, List.map_cons, List.map_cons,
          List.filter_cons_of_pos (by simpa using hn), ih]
      · rw [List.filter_cons_of_neg hp, List.filter_cons_of_neg hp, ih]

theorem requests_dropAccount (s : State) (n : Nat) :
    (s.dropAccount n).requests = s.requests.filter fun r => r.1 != n := by
  show ((s.accounts.filter _).filter _).map _ = ((s.accounts.filter _).map _).filter _
  rw [List.filter_map, List.filter_comm]
  rfl

/-- A removal takes the request of the number away, if there is one (R26). -/
theorem requests_removeAccount (s : State) (n : Nat) :
    (s.removeAccount n).requests = s.requests.filter fun r => r.1 != n := by
  cases ha : s.account n with
  | none =>
    have hs : s.removeAccount n = s := by unfold State.removeAccount; rw [ha]
    rw [hs, List.filter_eq_self.2]
    intro r hr
    obtain ⟨b, hb, -, rfl⟩ := mem_requests.1 hr
    exact bne_iff_ne.2 (account_none_iff ha b hb)
  | some a =>
    rw [removeAccount_eq ha, requests_dropAccount]
    congr 1
    unfold State.leavePayer
    split
    · rfl
    · exact requests_modifyAccount fun _ => ⟨rfl, rfl⟩

/-- What settlement does to an account leaves its request or takes it away (R76). -/
theorem requests_closeAccount (s : State) (c n : Nat) :
    (s.closeAccount c n).requests = s.requests ∨
      (s.closeAccount c n).requests = s.requests.filter fun r => r.1 != n := by
  unfold State.closeAccount
  split
  · exact .inl rfl
  · split_ifs
    · exact .inr (requests_modifyAccount_lost (s := s.dropTokens _)
        (f := fun b => { b with
          state := .settled, tokens := []
          walkup := b.walkup.map fun w => { w with finalCharge := some c } })
        fun b => by simp [Account.isPending])
    · exact .inr (requests_removeAccount s n)
    · exact .inl rfl

theorem requests_closeAccount_subset (s : State) (c n : Nat) : (s.closeAccount c n).requests ⊆ s.requests := by
  rcases requests_closeAccount s c n with h | h <;> rw [h]
  · exact List.Subset.refl _
  · exact List.filter_subset_self _

theorem filter_requests_of_absent (h : ∀ r ∈ s.requests, r.1 ≠ n) :
    (s.requests.filter fun r => r.1 != n) = s.requests :=
  List.filter_eq_self.2 fun r hr => bne_iff_ne.2 (h r hr)

theorem requests_closeAccount_absent (c : Nat) (h : ∀ r ∈ s.requests, r.1 ≠ n) :
    (s.closeAccount c n).requests = s.requests := by
  rcases requests_closeAccount s c n with e | e <;> rw [e]
  exact filter_requests_of_absent h

/-- A record that enters under a free number adds its own request, if it is PENDING. -/
theorem mem_requests_insert (ht : t.accounts = insertAccount a s.accounts) (hn : s.account a.number = none)
    {r : Nat × Option Walkup} : r ∈ t.requests ↔ (a.isPending ∧ a.request = r) ∨ r ∈ s.requests := by
  have hmem : ∀ b, b ∈ t.accounts ↔ b = a ∨ b ∈ s.accounts := fun b => by
    rw [ht, (insertAccount_perm (account_none_iff hn)).mem_iff, List.mem_cons]
  simp only [mem_requests, hmem, or_and_right, exists_or, exists_eq_left]

theorem requests_insert (ht : t.accounts = insertAccount a s.accounts) (hp : ¬ a.isPending)
    (hn : s.account a.number = none) : t.requests = s.requests := by
  have hfree := account_none_iff hn
  unfold State.requests
  rw [ht]
  congr 1
  generalize s.accounts = l at hfree
  induction l with
  | nil => simp [insertAccount, hp]
  | cons b l ih =>
    have hb := hfree b (by simp)
    have hl := ih fun c hc => hfree c (by simp [hc])
    unfold insertAccount
    split_ifs with h1 h2
    · rw [List.filter_cons_of_neg hp]
    · rw [List.filter_cons, List.filter_cons, hl]
    · omega

/-! ### The two laws, of the requests -/

theorem waitsAt_of_request (h : a.request = b.request) (hw : a.waitsAt i) : b.waitsAt i := by
  obtain ⟨w, hw, rfl, hr, ht⟩ := hw
  have hc : b.walkup.map Walkup.claim = some w.claim := by
    rw [← Option.map_some, ← hw]
    exact (congrArg Prod.snd h).symm
  obtain ⟨v, hv, hvw⟩ := Option.map_eq_some_iff.1 hc
  have hs : v.station = w.station := (congrArg Walkup.station hvw :)
  have hq : v.requestState = w.requestState := (congrArg Walkup.requestState hvw :)
  have ht' : v.authTimer.map (fun _ => 0) = w.authTimer.map fun _ => 0 := (congrArg Walkup.authTimer hvw :)
  refine ⟨v, hv, hs, hq ▸ hr, ?_⟩
  have := congrArg Option.isSome ht'
  rw [Option.isSome_map, Option.isSome_map] at this
  rw [this]
  exact ht

/-- Where no request is new, no PENDING record is. -/
theorem pendingsFrom_of_requests (h : t.requests ⊆ s.requests) : PendingsFrom s.accounts t.accounts :=
  fun b hb hp => by
    obtain ⟨a, ha, hap, hab⟩ := mem_requests.1 (h (request_mem hb hp))
    exact ⟨a, ha, hap, congrArg Prod.fst hab, fun _ => waitsAt_of_request hab⟩

/-- The law of R79, R164 and R168, of the WAITING list, the requests and the OPENING stations. -/
structure RequestsFit (waiting : List Nat) (rs : List (Nat × Option Walkup)) (p : StationId → Prop) : Prop where
  nodup : waiting.Nodup
  listed : ∀ n, n ∈ waiting ↔ ∃ r ∈ rs, r.1 = n ∧ r.2.map Walkup.requestState = some (some .waiting)
  seated : ∀ i, p i → ∃ r ∈ rs, r.2.map Walkup.station = some i
  range : ∀ r ∈ rs, ∀ x, r.2.map Walkup.authRef = some x → 1 ≤ x ∧ x ≤ 65535
  single : ∀ r ∈ rs, ∀ q ∈ rs, r.2.map Walkup.authRef = q.2.map Walkup.authRef → r.1 = q.1

/-- The law of a state. -/
def State.requestsFit (s : State) : Prop := RequestsFit s.wau.waiting s.requests s.openingAt

/-- Something said of every request is said of every PENDING record. -/
theorem forall_requests {P : Nat × Option Walkup → Prop} :
    (∀ r ∈ s.requests, P r) ↔ ∀ a ∈ s.accounts, a.isPending → P a.request := by
  simp only [mem_requests]
  exact ⟨fun h a ha hp => h _ ⟨a, ha, hp, rfl⟩, fun h r ⟨a, ha, hp, hr⟩ => hr ▸ h a ha hp⟩

theorem exists_requests {P : Nat × Option Walkup → Prop} :
    (∃ r ∈ s.requests, P r) ↔ ∃ a ∈ s.accounts, a.isPending ∧ P a.request := by
  simp only [mem_requests]
  exact ⟨fun ⟨r, ⟨a, ha, hp, hr⟩, h⟩ => ⟨a, ha, hp, hr ▸ h⟩, fun ⟨a, ha, hp, h⟩ => ⟨_, ⟨a, ha, hp, rfl⟩, h⟩⟩

theorem waitingLaw_iff (o : AccountsInOrder s) : WaitingLaw s ↔ s.requestsFit := by
  have hlisted : ∀ n, (∃ a, s.account n = some a ∧ a.isPending ∧
      a.walkup.map Walkup.requestState = some (some .waiting)) ↔
      ∃ r ∈ s.requests, r.1 = n ∧ r.2.map Walkup.requestState = some (some .waiting) := fun n => by
    simp only [exists_requests, request_state, account_eq_some_iff o]
    exact exists_congr fun a => ⟨fun ⟨⟨h1, h2⟩, h3, h4⟩ => ⟨h1, h3, h2, h4⟩,
      fun ⟨h1, h3, h2, h4⟩ => ⟨⟨h1, h2⟩, h3, h4⟩⟩
  have hseated : ∀ i, (∃ a ∈ s.accounts, a.isPending ∧ a.walkup.map Walkup.station = some i) ↔
      ∃ r ∈ s.requests, r.2.map Walkup.station = some i := fun i => by
    simp only [exists_requests, request_station]
  have hrange : (∀ a ∈ s.accounts, a.isPending → ∀ w, a.walkup = some w → 1 ≤ w.authRef ∧ w.authRef ≤ 65535) ↔
      ∀ r ∈ s.requests, ∀ x, r.2.map Walkup.authRef = some x → 1 ≤ x ∧ x ≤ 65535 := by
    simp only [forall_requests, request_authRef]
    refine forall₃_congr fun a _ _ => ⟨fun h x hx => ?_, fun h w hw => h _ (by rw [hw]; rfl)⟩
    obtain ⟨w, hw, rfl⟩ := Option.map_eq_some_iff.1 hx
    exact h w hw
  have hsingle : (∀ a ∈ s.accounts, ∀ b ∈ s.accounts, a.isPending → b.isPending →
      a.walkup.map Walkup.authRef = b.walkup.map Walkup.authRef → a.number = b.number) ↔
      ∀ r ∈ s.requests, ∀ q ∈ s.requests, r.2.map Walkup.authRef = q.2.map Walkup.authRef → r.1 = q.1 := by
    simp only [forall_requests, request_authRef]
    exact ⟨fun h a ha hp b hb hq => h a ha b hb hp hq, fun h a ha b hb hp hq => h a ha hp b hb hq⟩
  unfold WaitingLaw
  simp only [hlisted, hseated, hrange, hsingle]
  exact ⟨fun ⟨h1, h2, h3, h4, h5⟩ => ⟨h1, h2, h3, h4, h5⟩, fun ⟨h1, h2, h3, h4, h5⟩ => ⟨h1, h2, h3, h4, h5⟩⟩

end Sys2Proof.Machine
end

section
/-! SUPPORT. What the start, the end, the opening and the taking of a walk-up do to the requests, and that both laws
of walk-ups outlast them (O6, O11). -/

namespace Sys2Proof.Machine

variable {o s t : State} {a : Account} {w : Walkup} {i : StationId} {n : Nat} {l m : List Account}
  {p q : StationId → Prop} {waiting : List Nat} {rs rs' : List (Nat × Option Walkup)} {r : Nat × Option Walkup}

/-! ### The two laws, of lists -/

/-- The walk-up of station `i` ended. -/
theorem WalkupsFit.drop (g : WalkupsFit l p) (h : PendingsFrom l m) (ha : a ∈ l) (hp : a.isPending)
    (hi : a.waitsAt i) (hgone : ∀ b ∈ m, b.isPending → b.number ≠ a.number) (hq : ∀ k, k ≠ i → p k → q k) :
    WalkupsFit m q :=
  g.of_pendings h fun b hb hbp k hbk hk => hq k (fun e => hgone b hb hbp
    (g.number_of h ha hp hi hb hbp (e ▸ hbk))) hk

/-- A walk-up begun at a station that had none. -/
theorem WalkupsFit.enter (g : WalkupsFit l p) (hi : ¬ p i) (hq : ∀ k, q k ↔ k = i ∨ p k)
    (h : ∀ b ∈ m, b.isPending → (b.number = n ∧ b.waitsAt i) ∨
      ∃ a ∈ l, a.isPending ∧ a.number = b.number ∧ ∀ k, a.waitsAt k → b.waitsAt k) : WalkupsFit m q := by
  have hold : ∀ a ∈ l, a.isPending → ∀ b : Account, (∀ k, a.waitsAt k → b.waitsAt k) → ¬ b.waitsAt i := by
    intro a ha hp b hb hbi
    obtain ⟨k, hk, hpk⟩ := g.waits a ha hp
    exact hi ((hb k hk).unique hbi ▸ hpk)
  refine ⟨fun b hb hp => ?_, fun b hb c hc hbp hcp k hbk hck => ?_⟩
  · rcases h b hb hp with ⟨-, hbi⟩ | ⟨a, ha, hap, -, hab⟩
    · exact ⟨i, hbi, (hq i).2 (.inl rfl)⟩
    · obtain ⟨k, hk, hpk⟩ := g.waits a ha hap
      exact ⟨k, hab k hk, (hq k).2 (.inr hpk)⟩
  · rcases h b hb hbp with ⟨hbn, hbi⟩ | ⟨a, ha, hap, han, hab⟩ <;>
      rcases h c hc hcp with ⟨hcn, hci⟩ | ⟨d, hd, hdp, hdn, hdc⟩
    · rw [hbn, hcn]
    · obtain rfl := hbk.unique hbi
      exact absurd hck (hold d hd hdp c hdc)
    · obtain rfl := hck.unique hci
      exact absurd hbk (hold a ha hap b hab)
    · obtain ⟨x, hx, -⟩ := g.waits a ha hap
      obtain ⟨y, hy, -⟩ := g.waits d hd hdp
      obtain rfl := hbk.unique (hab x hx)
      obtain rfl := hck.unique (hdc y hy)
      rw [← han, ← hdn]
      exact g.single a ha d hd hap hdp k hx hy

theorem RequestsFit.congr (g : RequestsFit waiting rs p) (h : ∀ k, q k ↔ p k) : RequestsFit waiting rs q :=
  ⟨g.nodup, g.listed, fun k hk => g.seated k ((h k).1 hk), g.range, g.single⟩

/-- A request taken away with its number and its station. -/
theorem RequestsFit.drop (g : RequestsFit waiting rs p) (hu : ∀ x ∈ rs, ∀ y ∈ rs, x.1 = y.1 → x = y)
    (hr : r ∈ rs) (hi : r.2.map Walkup.station = some i) (hq : ∀ k, q k ↔ p k ∧ k ≠ i) :
    RequestsFit (waiting.filter fun n => n != r.1) (rs.filter fun x => x.1 != r.1) q := by
  have hmem : ∀ x, (x ∈ rs.filter fun x => x.1 != r.1) ↔ x ∈ rs ∧ x.1 ≠ r.1 := fun x => by
    rw [List.mem_filter, bne_iff_ne]
  refine ⟨g.nodup.filter _, fun n => ?_, fun k hk => ?_, fun x hx => g.range x ((hmem x).1 hx).1,
    fun x hx y hy => g.single x ((hmem x).1 hx).1 y ((hmem y).1 hy).1⟩
  · rw [List.mem_filter, bne_iff_ne, g.listed]
    constructor
    · rintro ⟨⟨x, hx, rfl, hs⟩, hn⟩
      exact ⟨x, (hmem x).2 ⟨hx, hn⟩, rfl, hs⟩
    · rintro ⟨x, hx, rfl, hs⟩
      exact ⟨⟨x, ((hmem x).1 hx).1, rfl, hs⟩, ((hmem x).1 hx).2⟩
  · obtain ⟨hpk, hki⟩ := (hq k).1 hk
    obtain ⟨x, hx, hs⟩ := g.seated k hpk
    refine ⟨x, (hmem x).2 ⟨hx, fun e => hki ?_⟩, hs⟩
    rw [hu x hx r hr e, hi] at hs
    exact (Option.some.inj hs).symm

/-- A WAITING request under a free number and a free reference, at the tail of the list. -/
theorem RequestsFit.enter (g : RequestsFit waiting rs p) (hmem : ∀ x, x ∈ rs' ↔ x = r ∨ x ∈ rs)
    (hn : ∀ x ∈ rs, x.1 ≠ r.1) (hw : r.2 = some w) (hs : w.requestState = some .waiting)
    (hlow : 1 ≤ w.authRef) (hhigh : w.authRef ≤ 65535) (hfree : ∀ x ∈ rs, x.2.map Walkup.authRef ≠ some w.authRef)
    (hq : ∀ k, q k ↔ k = w.station ∨ p k) : RequestsFit (waiting ++ [r.1]) rs' q := by
  have hnew : r ∈ rs' := (hmem r).2 (.inl rfl)
  refine ⟨?_, fun n => ?_, fun k hk => ?_, fun x hx => ?_, fun x hx y hy h => ?_⟩
  · refine g.nodup.append (List.nodup_singleton _) fun n hold hn' => ?_
    obtain ⟨x, hx, hxn, -⟩ := (g.listed n).1 hold
    exact hn x hx (hxn.trans (List.mem_singleton.1 hn'))
  · rw [List.mem_append, List.mem_singleton, g.listed]
    constructor
    · rintro (⟨x, hx, h⟩ | rfl)
      · exact ⟨x, (hmem x).2 (.inr hx), h⟩
      · exact ⟨r, hnew, rfl, by rw [hw, Option.map_some, hs]⟩
    · rintro ⟨x, hx, h⟩
      rcases (hmem x).1 hx with rfl | hx
      · exact .inr h.1.symm
      · exact .inl ⟨x, hx, h⟩
  · rcases (hq k).1 hk with rfl | hk
    · exact ⟨r, hnew, by rw [hw]; rfl⟩
    · obtain ⟨x, hx, h⟩ := g.seated k hk
      exact ⟨x, (hmem x).2 (.inr hx), h⟩
  · rcases (hmem x).1 hx with rfl | hx
    · rw [hw]
      rintro _ ⟨⟩
      exact ⟨hlow, hhigh⟩
    · exact g.range x hx
  · rcases (hmem x).1 hx with rfl | hx <;> rcases (hmem y).1 hy with rfl | hy
    · rfl
    · rw [hw] at h
      exact absurd h.symm (hfree y hy)
    · rw [hw] at h
      exact absurd h (hfree x hx)
    · exact g.single x hx y hy h

/-- The request as TAKE AUTH REQUEST leaves it. -/
def takenRequest (n : Nat) (r : Nat × Option Walkup) : Nat × Option Walkup :=
  if r.1 = n then (r.1, r.2.map fun w => { w with requestState := some .taken }) else r

theorem takenRequest_keeps {β : Type} {f : Walkup → β} (hf : ∀ w x, f { w with requestState := x } = f w)
    (n : Nat) (r : Nat × Option Walkup) :
    (takenRequest n r).1 = r.1 ∧ (takenRequest n r).2.map f = r.2.map f := by
  unfold takenRequest
  split
  · cases h : r.2 <;> simp [hf]
  · exact ⟨rfl, rfl⟩

theorem takenRequest_other (h : r.1 ≠ n) : takenRequest n r = r := if_neg h

theorem takenRequest_state (h : r.1 = n) :
    (takenRequest n r).2.map Walkup.requestState ≠ some (some .waiting) := by
  unfold takenRequest
  rw [if_pos h]
  cases r.2 <;> simp

/-- The oldest WAITING request taken. -/
theorem RequestsFit.take (g : RequestsFit (n :: waiting) rs p) : RequestsFit waiting (rs.map (takenRequest n)) p := by
  obtain ⟨hn, hnodup⟩ := List.nodup_cons.1 g.nodup
  have hstation := takenRequest_keeps (f := Walkup.station) (fun _ _ => rfl) n
  have hauth := takenRequest_keeps (f := Walkup.authRef) (fun _ _ => rfl) n
  refine ⟨hnodup, fun k => ?_, fun k hk => ?_, ?_, ?_⟩
  · constructor
    · intro hk
      obtain ⟨x, hx, rfl, hs⟩ := (g.listed k).1 (List.mem_cons_of_mem _ hk)
      exact ⟨x, List.mem_map.2 ⟨x, hx, takenRequest_other fun e => hn (e ▸ hk)⟩, rfl, hs⟩
    · rintro ⟨_, hmem, hk, hs⟩
      obtain ⟨x, hx, rfl⟩ := List.mem_map.1 hmem
      by_cases e : x.1 = n
      · exact absurd hs (takenRequest_state e)
      · rw [takenRequest_other e] at hk hs
        exact (List.mem_cons.1 ((g.listed k).2 ⟨x, hx, hk, hs⟩)).resolve_left (hk ▸ e)
  · obtain ⟨x, hx, hs⟩ := g.seated k hk
    exact ⟨_, List.mem_map_of_mem hx, (hstation x).2.trans hs⟩
  · rw [List.forall_mem_map]
    intro x hx
    rw [(hauth x).2]
    exact g.range x hx
  · simp only [List.forall_mem_map]
    intro x hx y hy h
    rw [(hauth x).2, (hauth y).2] at h
    rw [(hauth x).1, (hauth y).1]
    exact g.single x hx y hy h

/-! ### The two laws, kept by what an event does -/

/-- From `s` to `t`, within an event that began in `o`, the laws of walk-ups are kept: that of stations where `o` had
it (R79, R162), that of the WAITING list where `o` had the books (R164, R168). -/
structure KeepsWalkups (o s t : State) : Prop where
  walkups : StationsLaw o → WalkupsFit s.accounts s.openingAt → WalkupsFit t.accounts t.openingAt
  requests : BooksLaw o → s.requestsFit → t.requestsFit

theorem KeepsWalkups.refl (o s : State) : KeepsWalkups o s s := ⟨fun _ h => h, fun _ h => h⟩

theorem KeepsWalkups.trans {u : State} (h : KeepsWalkups o s t) (g : KeepsWalkups o t u) : KeepsWalkups o s u :=
  ⟨fun l => g.walkups l ∘ h.walkups l, fun b => g.requests b ∘ h.requests b⟩

/-- Requests, WAITING list and OPENING stations as they were. -/
theorem KeepsWalkups.of_same (hr : t.requests = s.requests) (hw : t.wau = s.wau)
    (ho : StationsLaw o → ∀ k, t.openingAt k ↔ s.openingAt k) : KeepsWalkups o s t := by
  refine ⟨fun l g => g.of_pendings (pendingsFrom_of_requests (hr ▸ List.Subset.refl _))
    fun _ _ _ k _ hk => (ho l k).2 hk, fun b g => ?_⟩
  unfold State.requestsFit
  rw [hr, hw]
  exact g.congr (ho b.1)

/-- Neither the table nor the walk-up unit nor the stations touched. -/
theorem KeepsWalkups.of_parts (ha : t.accounts = s.accounts) (hw : t.wau = s.wau) (hs : t.stations = s.stations) :
    KeepsWalkups o s t :=
  .of_same (requests_of_accounts ha) hw fun _ k => by unfold State.openingAt State.station; rw [hs]

/-! ### The end of a walk-up and its opening (R172, R173) -/

/-- The walk-up of `a` is over: its request gone, its number out of the WAITING list, its station not OPENING. -/
theorem KeepsWalkups.of_ended (ha : a ∈ s.accounts) (hp : a.isPending) (hw : a.walkup = some w)
    (horder : BooksLaw o → AccountsInOrder s)
    (hr : t.requests = s.requests.filter fun r => r.1 != a.number)
    (hopen : ∀ k, t.openingAt k ↔ s.openingAt k ∧ k ≠ w.station)
    (hwaiting : BooksLaw o → s.requestsFit → t.wau.waiting = s.wau.waiting.filter fun n => n != a.number) :
    KeepsWalkups o s t := by
  refine ⟨fun _ g => ?_, fun b g => ?_⟩
  · refine g.drop (pendingsFrom_of_requests ?_) ha hp (g.waitsAt_of ha hp hw) (fun b hb hbp => ?_)
      fun k hk h => (hopen k).2 ⟨h, hk⟩
    · rw [hr]
      exact List.filter_subset_self _
    · have := request_mem hb hbp
      rw [hr, List.mem_filter, bne_iff_ne] at this
      exact this.2
  · unfold State.requestsFit
    rw [hr, hwaiting b g]
    exact RequestsFit.drop g (fun x hx y hy => request_unique (horder b) hx hy) (request_mem ha hp)
      (by rw [request_station, hw]; rfl) hopen

theorem openingAt_endWalkup (s : State) (a : Account) (i : StationId) (d : Display) (k : StationId) :
    (s.endWalkup a i d).openingAt k ↔ s.openingAt k ∧ k ≠ i := by
  obtain ⟨-, hothers, -, -, hstation, -⟩ := endWalkup_facts s a i d
  by_cases hk : k = i
  · subst hk
    simp [State.openingAt, hstation]
  · have : ((s.endWalkup a i d).station k).state = (s.station k).state :=
      (congrArg Station.state (hothers k hk) :)
    simp [State.openingAt, this, hk]

theorem keepsWalkups_endWalkup (ha : a ∈ s.accounts) (hp : a.isPending) (hw : a.walkup = some w)
    (horder : BooksLaw o → AccountsInOrder s) (d : Display) : KeepsWalkups o s (s.endWalkup a w.station d) := by
  refine .of_ended ha hp hw horder ?_ (openingAt_endWalkup s a w.station d) fun _ _ => ?_
  · exact requests_removeAccount (s.setWalkupUnit _) a.number
  · exact congrArg WalkupUnit.waiting (congrArg State.wau (onlyAccounts_removeAccount (s.setWalkupUnit _) a.number))

theorem openingAt_openWalkup (s : State) (a : Account) (i k : StationId) :
    (s.openWalkup i a).openingAt k ↔ s.openingAt k ∧ k ≠ i := by
  have hst : (s.openWalkup i a).station k = (s.openAt i a .reader).station k := rfl
  unfold State.openingAt
  rw [hst, station_openAt]
  split
  · next h => simp [h]
  · next h => simp [h]

/-- A PENDING record whose request is TAKEN is not in the WAITING list. -/
theorem not_waiting_of_taken (horder : AccountsInOrder s) (g : s.requestsFit) (ha : a ∈ s.accounts)
    (hp : a.isPending) (hw : a.walkup = some w) (hs : w.requestState = some .taken) :
    a.number ∉ s.wau.waiting := by
  intro hn
  obtain ⟨r, hr, hrn, hrs⟩ := (g.listed _).1 hn
  rw [request_unique horder hr (request_mem ha hp) hrn, request_state, hw, Option.map_some, hs] at hrs
  cases hrs

theorem wau_openAt (s : State) (i : StationId) (u : Account) (y : OpenedBy) : (s.openAt i u y).wau = s.wau := by
  unfold State.openAt State.placeHold
  dsimp only
  split <;> rfl

theorem keepsWalkups_openWalkup (ha : a ∈ s.accounts) (hp : a.isPending) (hw : a.walkup = some w)
    (ht : w.requestState = some .taken)
    (horder : BooksLaw o → AccountsInOrder s) : KeepsWalkups o s (s.openWalkup w.station a) := by
  refine .of_ended ha hp hw horder ?_ (openingAt_openWalkup s a w.station) fun b g => ?_
  · rw [← (moneyOnly_openAt s w.station a .reader).requests]
    exact requests_modifyAccount_lost fun b => by simp [Account.isPending, Account.asOpened]
  · rw [show (s.openWalkup w.station a).wau = s.wau from wau_openAt s w.station a .reader]
    refine (List.filter_eq_self.2 fun n hn => bne_iff_ne.2 ?_).symm
    rintro rfl
    exact not_waiting_of_taken (horder b) g ha hp hw ht hn

/-! ### The start of a walk-up (R166) -/

theorem newTransient_request (s : State) (i : StationId) :
    (s.newTransient i).isPending ∧ (s.newTransient i).waitsAt i := ⟨rfl, _, rfl, rfl, rfl, rfl⟩

/-- The token bound to the new record shows in no request. -/
theorem requests_startWalkup (s : State) (i : StationId) (x : Token) :
    (s.startWalkup i x).requests = (s.addAccount (s.newTransient i)).requests :=
  requests_modifyAccount (s := s.addAccount (s.newTransient i))
    (f := fun a => { a with tokens := a.tokens ++ [x] }) fun _ => ⟨rfl, rfl⟩

theorem openingAt_startWalkup (s : State) (i : StationId) (x : Token) (k : StationId) :
    (s.startWalkup i x).openingAt k ↔ k = i ∨ s.openingAt k := by
  unfold State.openingAt
  rw [station_startWalkup]
  split
  · next h => simp [h]
  · next h => simp [h]

/-- The law of stations outlasts a start even where the number was not free and its record is replaced. -/
theorem walkupsFit_startWalkup (hs : (s.station i).state = .idle) (x : Token)
    (g : WalkupsFit s.accounts s.openingAt) :
    WalkupsFit (s.startWalkup i x).accounts (s.startWalkup i x).openingAt := by
  refine g.enter (n := s.freshNumber) (by simp [State.openingAt, hs]) (openingAt_startWalkup s i x)
    fun b hb hp => ?_
  have hreq := request_mem hb hp
  rw [requests_startWalkup, mem_requests] at hreq
  obtain ⟨c, hc, hcp, hcb⟩ := hreq
  rcases mem_insertAccount hc with rfl | hc
  · exact .inl ⟨(congrArg Prod.fst hcb).symm, waitsAt_of_request hcb (newTransient_request s i).2⟩
  · exact .inr ⟨c, hc, hcp, congrArg Prod.fst hcb, fun k => waitsAt_of_request hcb⟩

theorem requestsFit_startWalkup (hn : s.account s.freshNumber = none) (hl : s.accounts.length < 1024) (x : Token)
    (g : s.requestsFit) : (s.startWalkup i x).requestsFit := by
  obtain ⟨hlow, hhigh⟩ := freshReference_bounds hl
  obtain ⟨-, -, hfree, -⟩ := freshReference_least hl
  refine RequestsFit.enter (r := (s.newTransient i).request)
    (w := Walkup.claim { authRef := s.freshReference, requested := s.globals.preAuthAmount, granted := none
                         requestState := some .waiting, finalCharge := none
                         authTimer := some s.globals.authSteps, station := i })
    g (fun r => ?_) (fun r hr => ?_) rfl rfl hlow hhigh (fun r hr => ?_) (openingAt_startWalkup s i x)
  · rw [requests_startWalkup, mem_requests_insert rfl hn]
    exact or_congr_left ⟨fun h => h.2.symm, fun h => ⟨rfl, h.symm⟩⟩
  · obtain ⟨b, hb, -, rfl⟩ := mem_requests.1 hr
    exact account_none_iff hn b hb
  · obtain ⟨b, hb, hp, rfl⟩ := mem_requests.1 hr
    rw [request_authRef]
    intro (h : b.walkup.map Walkup.authRef = some s.freshReference)
    have hany : (s.accounts.any fun a => a.pendsWith s.freshReference) = true :=
      List.any_eq_true.2 ⟨b, hb, by simp [Account.pendsWith, hp, h]⟩
    rw [hfree] at hany
    cases hany

/-- A walk-up started at an IDLE station. -/
theorem keepsWalkups_startWalkup (hs : (s.station i).state = .idle) (h : s.walkupAllowed i = true) (x : Token)
    (hk : BooksLaw o → ∀ a ∈ s.accounts, a.suitsKind) : KeepsWalkups o s (s.startWalkup i x) := by
  obtain ⟨-, hc, hl, -⟩ := (walkupAllowed_iff s i).1 h
  exact ⟨fun _ => walkupsFit_startWalkup hs x,
    fun b => requestsFit_startWalkup (account_freshNumber (hk b) hc) hl x⟩

/-! ### TAKE AUTH REQUEST (R169) -/

theorem requests_asTaken (s : State) (n : Nat) :
    (s.modifyAccount n Account.asTaken).requests = s.requests.map (takenRequest n) := by
  show ((s.accounts.map _).filter _).map _ = ((s.accounts.filter _).map _).map _
  rw [List.filter_map, List.map_map, List.map_map]
  have hpending : (Account.isPending ∘ fun a => if a.number = n then a.asTaken else a) = Account.isPending := by
    funext a
    dsimp only [Function.comp]
    split <;> rfl
  rw [hpending]
  refine List.map_congr_left fun a _ => ?_
  show Account.request (if a.number = n then a.asTaken else a) = takenRequest n a.request
  unfold takenRequest
  rw [request_number]
  split
  · cases h : a.walkup <;> simp [Account.request, Account.asTaken, Walkup.claim, h]
  · rfl

theorem keepsWalkups_takeAuthRequest (o s : State) : KeepsWalkups o s (takeAuthRequestWork s).1 := by
  unfold takeAuthRequestWork
  split
  · exact .refl o s
  · next n rest hwaiting =>
    refine ⟨fun _ g => ?_, fun _ g => ?_⟩
    · refine g.of_pendings (.map (f := fun a => if a.number = n then a.asTaken else a) fun a _ => ?_)
        fun _ _ _ k _ hk => hk
      split
      · exact (Account.Follows.of_walkup (g := fun w => { w with requestState := some .taken })
          (fun _ => rfl) (fun _ _ => rfl) (fun _ h => h) a.asTaken rfl).toCarries
      · exact .refl a
    · unfold State.requestsFit at g ⊢
      rw [hwaiting] at g
      rw [requests_asTaken]
      exact g.take

end Sys2Proof.Machine
end

section
/-! SUPPORT. The operations of jobs, paths and lines spare the walk-ups: no request but that of a job's own account
can go, and no station enters or leaves OPENING (O6, O11). -/

namespace Sys2Proof.Machine

variable {L : Prop} {s t u : State} {i : StationId} {j : Job} {n : Nat}

/-! ### What spares the walk-ups -/

/-- No PENDING record is an account of an open job (R57, R162). -/
def State.jobsApart (s : State) : Prop :=
  ∀ i j, (s.station i).job = some j → ∀ r ∈ s.requests, r.1 ≠ j.user ∧ r.1 ≠ j.billing

/-- From `s` to `t` the WAITING list and the OPENING stations stay, no job is opened, no request is new, and none goes
where the open jobs stand apart from them. `L` says that the stations were lawful as the event began. -/
structure Spares (L : Prop) (s t : State) : Prop where
  wau : t.wau = s.wau
  opening : L → ∀ k, t.openingAt k ↔ s.openingAt k
  jobs : ∀ k j, (t.station k).job = some j →
    ∃ i, (s.station k).job = some i ∧ j.user = i.user ∧ j.billing = i.billing
  subset : t.requests ⊆ s.requests
  same : s.jobsApart → t.requests = s.requests

theorem Spares.apart (h : Spares L s t) (g : s.jobsApart) : t.jobsApart := fun k j hj r hr => by
  obtain ⟨i, hi, hu, hb⟩ := h.jobs k j hj
  rw [hu, hb]
  exact g k i hi r (h.subset hr)

theorem Spares.refl (L : Prop) (s : State) : Spares L s s :=
  ⟨rfl, fun _ _ => Iff.rfl, fun _ j hj => ⟨j, hj, rfl, rfl⟩, List.Subset.refl _, fun _ => rfl⟩

theorem Spares.trans (h : Spares L s t) (g : Spares L t u) : Spares L s u :=
  ⟨g.wau.trans h.wau, fun l k => (g.opening l k).trans (h.opening l k),
    fun k j hj => by
      obtain ⟨i, hi, hu, hb⟩ := g.jobs k j hj
      obtain ⟨m, hm, hv, hc⟩ := h.jobs k i hi
      exact ⟨m, hm, hu.trans hv, hb.trans hc⟩,
    List.Subset.trans g.subset h.subset, fun a => (g.same (h.apart a)).trans (h.same a)⟩

theorem Spares.foldl {α : Type} (f : State → α → State) (hf : ∀ s a, Spares L s (f s a)) (l : List α) (s : State) :
    Spares L s (l.foldl f s) := by
  induction l generalizing s with
  | nil => exact .refl L s
  | cons a l ih => exact (hf s a).trans (ih _)

/-- Accounts of a job seen through its stake. -/
theorem accounts_of_stake {o p : Option Job} (h : o.map Job.stake = p.map Job.stake) {j : Job} (hj : o = some j) :
    ∃ i, p = some i ∧ j.user = i.user ∧ j.billing = i.billing := by
  rw [hj, Option.map_some] at h
  obtain ⟨i, hi, e⟩ := Option.map_eq_some_iff.1 h.symm
  simp only [Job.stake, Prod.mk.injEq] at e
  exact ⟨i, hi, e.1.symm, e.2.1.symm⟩

theorem Quiet.spares (h : Quiet L s t) (hw : t.wau = s.wau) : Spares L s t :=
  have hr := requests_of_accounts h.accounts
  ⟨hw, fun l k => (h.station k).opening l, fun k _ => accounts_of_stake (h.station k).stake,
    hr ▸ List.Subset.refl _, fun _ => hr⟩

/-- Records changed in nothing that a request shows. -/
theorem Spares.of_requests (hr : t.requests = s.requests) (hw : t.wau = s.wau) (hs : t.stations = s.stations) :
    Spares L s t := by
  have hstation : ∀ k, t.station k = s.station k := fun k => by unfold State.station; rw [hs]
  exact ⟨hw, fun _ k => by unfold State.openingAt; rw [hstation],
    fun k j hj => ⟨j, hstation k ▸ hj, rfl, rfl⟩, hr ▸ List.Subset.refl _, fun _ => hr⟩

theorem Spares.keeps {o : State} (h : Spares (StationsLaw o) s t) (ha : BooksLaw o → s.jobsApart) :
    KeepsWalkups o s t := by
  refine ⟨fun l g => g.of_pendings (pendingsFrom_of_requests h.subset) fun _ _ _ k _ hk => (h.opening l k).2 hk,
    fun b g => ?_⟩
  unfold State.requestsFit
  rw [h.same (ha b), h.wau]
  exact RequestsFit.congr g (h.opening b.1)

/-! ### Holds, pricing, voids -/

theorem spares_raiseHold (s : State) (i : StationId) (j : Job) (c : Nat) : Spares L s (s.raiseHold i j c) := by
  have hr := (moneyOnly_raiseHold s i j c).requests
  have hst := fun k => station_raiseHold s i k j c
  refine ⟨keepsAllBut_raiseHold s i j c .walkup (by decide), fun _ k => ?_, fun k m => ?_,
    hr ▸ List.Subset.refl _, fun _ => hr⟩
  · unfold State.openingAt
    rw [hst]
    split
    · next e => rw [e]
    · exact Iff.rfl
  · rw [hst]
    split
    · next e =>
      rw [e]
      intro hm
      obtain ⟨q, hq, rfl⟩ := Option.map_eq_some_iff.1 hm
      exact ⟨q, hq, rfl, rfl⟩
    · exact fun hm => ⟨m, hm, rfl, rfl⟩

theorem spares_coverTest (s : State) (i : StationId) : Spares L s (s.coverTest i).1 := by
  rcases coverTest_cases s i with e | e | ⟨j, -, e⟩ <;> rw [e]
  · exact .refl L s
  · exact .refl L s
  · exact spares_raiseHold s i j _

/-- The cover test, then RUNNING or HELD as it has turned out. -/
theorem spares_coverMove (h : L → (s.station i).state ≠ .opening) :
    Spares L s ((s.coverTest i).1.enterRunning i) ∧ Spares L s ((s.coverTest i).1.enterHeld i) := by
  have h' : L → ((s.coverTest i).1.station i).state ≠ .opening := fun l => by rw [state_coverTest]; exact h l
  exact ⟨(spares_coverTest s i).trans ((quiet_enterRunning h').spares rfl),
    (spares_coverTest s i).trans ((quiet_enterHeld h').spares rfl)⟩

theorem spares_coverAfterPricing (s : State) (i : StationId) : Spares L s (s.coverAfterPricing i) := by
  unfold State.coverAfterPricing
  split
  · next h =>
    split
    · exact spares_coverTest s i
    · exact (spares_coverMove fun _ => by simp [h]).2
  · next h =>
    split
    · exact (spares_coverMove fun _ => by simp [h]).1
    · exact (spares_coverTest s i).trans ((quiet_placeDisplay _ i _).spares rfl)
  · exact .refl L s

theorem spares_retryAt (n : Nat) (s : State) (i : StationId) : Spares L s (State.retryAt n s i) := by
  unfold State.retryAt
  split
  · next h =>
    split
    · exact (spares_coverMove fun _ => by simp [h.1]).1
    · exact spares_coverTest s i
  · exact .refl L s

theorem spares_retry (s : State) (n : Nat) : Spares L s (s.retry n) :=
  .foldl (State.retryAt n) (spares_retryAt n) allStations s

theorem spares_retryIfPresent (s : State) (n : Nat) : Spares L s (s.retryIfPresent n) := by
  unfold State.retryIfPresent
  split
  · exact spares_retry s n
  · exact .refl L s

theorem spares_modifyAccount (s : State) (n : Nat) {f : Account → Account}
    (hf : ∀ a, (f a).isPending = a.isPending ∧ (f a).request = a.request) : Spares L s (s.modifyAccount n f) :=
  .of_requests (requests_modifyAccount hf) rfl rfl

theorem spares_modifyJob (s : State) (i : StationId) {f : Job → Job} (hf : ∀ j, (f j).stake = j.stake) :
    Spares L s (s.modifyJob i f) := (quiet_modifyJob s i hf).spares rfl

theorem spares_forceHold (s : State) (i : StationId) (j : Job) (x : Nat) : Spares L s (s.forceHold i j x) := by
  unfold State.forceHold
  split
  · exact (spares_raiseHold s i j _).trans
      ((spares_modifyJob _ i (by intro; rfl)).trans ((quiet_modifyAlarms _ i _).spares rfl))
  · exact .refl L s

theorem spares_priceSheet (s : State) (i : StationId) (j : Job) (c : SheetClass) : Spares L s (s.priceSheet i j c) :=
  (spares_forceHold s i j _).trans
    ((spares_modifyAccount _ j.billing (by intro; exact ⟨rfl, rfl⟩)).trans
      (spares_modifyJob _ i (by intro; rfl)))

theorem spares_voidSheet (i : StationId) (s : State) (x : Sheet) : Spares L s (State.voidSheet i s x) := by
  unfold State.voidSheet
  split
  · exact .refl L s
  · exact (spares_modifyAccount s _ (by intro; exact ⟨rfl, rfl⟩)).trans (spares_modifyJob _ i (by intro; rfl))

theorem spares_voidDisputed (s : State) (i : StationId) : Spares L s (s.voidDisputed i) := by
  unfold State.voidDisputed
  exact (Spares.foldl (State.voidSheet i) (spares_voidSheet i) _ s).trans
    ((quiet_lessSheets rfl rfl (List.Sublist.refl _) (List.nil_sublist _)).spares rfl)

theorem spares_voidPath (s : State) (i : StationId) : Spares L s (s.voidPath i) := by
  unfold State.voidPath
  exact (Spares.foldl (State.voidSheet i) (spares_voidSheet i) _ s).trans
    ((quiet_lessSheets rfl rfl (List.nil_sublist _) (List.Sublist.refl _)).spares rfl)

/-! ### Settlement -/

/-- The requests after a settlement: those of accounts other than the job's all stay. -/
theorem requests_settleJob (s : State) (i : StationId) (dest : StationState) (j : Job) :
    (s.settleJob i dest j).requests ⊆ s.requests ∧
      ((∀ r ∈ s.requests, r.1 ≠ j.user ∧ r.1 ≠ j.billing) → (s.settleJob i dest j).requests = s.requests) := by
  have h1 := ((moneyOnly_settleMoney s j).trans (moneyOnly_settlePeriod _ j)).requests
  unfold State.settleJob
  extract_lets charge s1 ba s2 s3 s4 s5
  have h2 : s2.requests = s.requests := h1
  have h3 := requests_closeAccount_subset s2 charge j.user
  show s4.requests ⊆ s.requests ∧ (_ → s4.requests = s.requests)
  rw [← h2]
  have hsame : (∀ r ∈ s2.requests, r.1 ≠ j.user ∧ r.1 ≠ j.billing) → s3.requests = s2.requests := fun h =>
    requests_closeAccount_absent charge fun r hr => (h r hr).1
  by_cases e : j.user = j.billing
  · have h4 : s4 = s3 := if_pos e
    rw [h4]
    exact ⟨h3, hsame⟩
  · have h4 : s4 = s3.closeAccount charge j.billing := if_neg e
    rw [h4]
    exact ⟨List.Subset.trans (requests_closeAccount_subset s3 charge j.billing) h3, fun h =>
      (requests_closeAccount_absent charge fun r hr => (h r (h3 hr)).2).trans (hsame h)⟩

theorem spares_settleJob {dest : StationState} (hj : (s.station i).job = some j)
    (ho : L → (s.station i).state ≠ .opening) (hd : dest ≠ .opening) : Spares L s (s.settleJob i dest j) := by
  obtain ⟨hkeeps, hothers, -, -, hstation⟩ := settleJob_facts s i dest j
  obtain ⟨hsubset, hsame⟩ := requests_settleJob s i dest j
  refine ⟨hkeeps .walkup (by decide), fun l k => ?_, fun k m hm => ?_, hsubset, fun a => hsame (a i j hj)⟩
  · by_cases hk : k = i
    · subst hk
      simp [State.openingAt, hstation, ho l, hd]
    · exact Eq.congr_left (congrArg Station.state (hothers k hk) :)
  · by_cases hk : k = i
    · subst hk
      rw [hstation] at hm
      cases hm
    · exact accounts_of_stake (stake_of_undriven hothers hk) hm

theorem spares_settle {dest : StationState} (ho : L → (s.station i).state ≠ .opening) (hd : dest ≠ .opening) :
    Spares L s (s.settle i dest) := by
  unfold State.settle
  split
  · exact .refl L s
  · next j hj => exact (spares_settleJob hj ho hd).trans (spares_retryIfPresent _ _)

theorem spares_enterClosing (ho : L → (s.station i).state ≠ .opening) : Spares L s (s.enterClosing i) := by
  have h1 : Spares L s ((s.enter i .closing).modifyJob i fun j => { j with idleTimer := none }) :=
    ((quiet_enter fun l => by simp [ho l]).spares rfl).trans (spares_modifyJob _ i (by intro; rfl))
  unfold State.enterClosing
  dsimp only
  split
  · exact h1.trans (spares_settle (fun _ => by simp) (by simp))
  · exact h1.trans ((quiet_modifyStation (.of_fields rfl rfl rfl rfl)).spares rfl)

theorem spares_requestEnd (s : State) (i : StationId) (c : EndCause) : Spares L s (s.requestEnd i c) := by
  have h1 : Spares L s (s.recordEnd i c) := (quiet_recordEnd s i c).spares rfl
  have hs : ((s.recordEnd i c).station i).state = (s.station i).state := by simp [State.recordEnd]
  unfold State.requestEnd
  dsimp only
  split
  · next h => exact h1.trans (spares_enterClosing fun _ => by simp [hs, h])
  · next h => exact h1.trans (spares_enterClosing fun _ => by simp [hs, h])
  · exact h1

theorem spares_blockJobs (s : State) (n : Nat) : Spares L s (s.blockJobs n) := by
  refine .foldl (State.blockAt n) (fun s i => ?_) allStations s
  unfold State.blockAt
  split
  · exact spares_requestEnd s i _
  · exact .refl L s

/-! ### Jams and station reset -/

theorem spares_resumeAfterJam (ho : L → (s.station i).state ≠ .opening) : Spares L s (s.resumeAfterJam i) := by
  obtain ⟨hrunning, hheld⟩ := spares_coverMove ho
  unfold State.resumeAfterJam
  dsimp only
  refine Spares.trans ?_ ((quiet_restartIdle _ i).spares ?_)
  · split
    · exact hrunning
    · exact hheld
  · unfold State.restartIdle
    split <;> rfl

/-- The disputed sheets voided, jam timer and jam cause gone (R130, R132). -/
theorem spares_voidedJam (s : State) (i : StationId) :
    Spares L s ((s.voidDisputed i).modifyStation i fun st => { st with jamTimer := none, jamCause := none }) :=
  (spares_voidDisputed s i).trans ((quiet_modifyStation (.of_fields rfl rfl rfl rfl)).spares rfl)

theorem spares_jamClear (ho : L → (s.station i).state ≠ .opening) : Spares L s (s.jamClear i) := by
  have h2 := (spares_voidedJam (L := L) s i).trans
    ((quiet_placeDisplay _ i (.jamCleared (s.station i).disputed.length)).spares rfl)
  unfold State.jamClear
  dsimp only
  split
  · refine h2.trans (spares_resumeAfterJam fun l => ?_)
    simpa [state_voidDisputed] using ho l
  · refine h2.trans (spares_enterClosing fun l => ?_)
    simpa [state_voidDisputed] using ho l

theorem spares_jamTimedOut (ho : L → (s.station i).state ≠ .opening) : Spares L s (s.jamTimedOut i) := by
  unfold State.jamTimedOut
  extract_lets s1 s2 s3
  have h1 : Spares L s (s1.recordEnd i .jamTimeout) :=
    (spares_voidedJam s i).trans ((quiet_recordEnd s1 i .jamTimeout).spares rfl)
  have h2 : Spares L (s1.recordEnd i .jamTimeout) s2 :=
    spares_settle (fun l => by simpa [s1, State.recordEnd, state_voidDisputed] using ho l) (by simp)
  have h3 : Spares L s2 s3 := (quiet_modifyAlarms s2 i _).spares rfl
  have h4 : Spares L s3 (s3.placeDisplay i .outOfService) := (quiet_placeDisplay s3 i _).spares rfl
  exact h1.trans (h2.trans (h3.trans h4))

theorem spares_resetJob (ho : L → (s.station i).state ≠ .opening) : Spares L s (s.resetJob i) := by
  have h1 : Quiet L s (s.modifyStation i fun st =>
      { st with drainTimer := none, jamTimer := none, jamCause := none }) :=
    quiet_modifyStation (.of_fields rfl rfl rfl rfl)
  unfold State.resetJob
  refine (h1.spares rfl).trans ((spares_voidDisputed _ i).trans ((spares_voidPath _ i).trans
    (((quiet_recordEnd _ i .stationReset).spares rfl).trans (spares_settle (fun l => ?_) (by simp)))))
  simpa [State.recordEnd, state_voidDisputed, state_voidPath] using ho l

/-! ### Feeds and exits -/

theorem spares_restartIdle (s : State) (i : StationId) : Spares L s (s.restartIdle i) :=
  (quiet_restartIdle s i).spares (by unfold State.restartIdle; split <;> rfl)

theorem spares_queueOrBill {x : Sheet} (hf : (s.station i).pathIsFull = false)
    (hx : 1 ≤ x.impressions ∧ x.impressions ≤ 2) : Spares L s (s.queueOrBill i x) :=
  (quiet_queueOrBill hf hx).spares (by unfold State.queueOrBill; split <;> rfl)

theorem spares_pricingRequest (hf : (s.station i).pathIsFull = false) : Spares L s (s.pricingRequest i) := by
  unfold State.pricingRequest
  split
  · exact .refl L s
  · next j hj =>
    refine (spares_priceSheet s i j _).trans ((spares_queueOrBill ?_ ?_).trans
      ((spares_restartIdle _ i).trans (spares_coverAfterPricing _ i)))
    · rw [station_priceSheet _ _ _ _ hj]; exact hf
    · exact SheetClass.impressions_bounds _

theorem spares_pathOverflow (ho : L → (s.station i).state ≠ .opening) : Spares L s (s.pathOverflow i) := by
  unfold State.pathOverflow
  refine (((quiet_unpricedFeed s i).trans (quiet_modifyAlarms _ i _)).spares rfl).trans
    ((quiet_jamEntry _ fun l => ?_).spares rfl)
  simpa [State.unpricedFeed, State.modifyAlarms] using ho l

theorem spares_feedWithJob (ho : L → (s.station i).state ≠ .opening) : Spares L s (s.feedWithJob i) := by
  unfold State.feedWithJob
  split
  · exact spares_pathOverflow ho
  · next h => exact spares_pricingRequest (by simpa using h)

theorem spares_completedFeed (s : State) (i : StationId) : Spares L s (s.completedFeed i) := by
  have h1 : Spares L s (s.startPermitDelay i) :=
    (quiet_startPermitDelay s i).spares (by unfold State.startPermitDelay; split <;> rfl)
  have hs := (station_startPermitDelay s i).1
  have hfeed : (s.station i).state ≠ .opening → Spares L s ((s.startPermitDelay i).feedWithJob i) := fun h =>
    h1.trans (spares_feedWithJob fun _ => by rw [hs]; exact h)
  have hcount := h1.trans ((quiet_unauthorisedFeed (s.startPermitDelay i) i).spares rfl)
  unfold State.completedFeed
  dsimp only
  split
  · exact hcount
  · exact hcount
  · exact hcount
  · exact hcount
  · next h => exact hfeed (by simp [h])
  · next h => exact hfeed (by simp [h])
  · next h => exact hfeed (by simp [h])
  · exact h1.trans ((quiet_unpricedFeed _ i).spares rfl)

theorem spares_exitFromPath (s : State) (i : StationId) : Spares L s (s.exitFromPath i) :=
  (quiet_exitFromPath s i).spares (by unfold State.exitFromPath; split <;> rfl)

theorem spares_exitInClosing (ho : L → (s.station i).state ≠ .opening) : Spares L s (s.exitInClosing i) := by
  have h1 : Spares L s (s.exitFromPath i) := spares_exitFromPath s i
  unfold State.exitInClosing
  dsimp only
  split
  · refine h1.trans (((quiet_modifyStation (.of_fields rfl rfl rfl rfl)).spares rfl).trans
      (spares_settle (fun l => ?_) (by simp)))
    simpa [state_exitFromPath] using ho l
  · exact h1

theorem spares_completedExit (s : State) (i : StationId) : Spares L s (s.completedExit i) := by
  have hactive := (spares_exitFromPath (L := L) s i).trans (spares_restartIdle _ i)
  unfold State.completedExit
  split
  · exact hactive
  · exact hactive
  · next h => exact spares_exitInClosing fun _ => by simp [h]
  · exact (quiet_exitFromDisputed s i).spares (by unfold State.exitFromDisputed; split <;> rfl)
  all_goals exact (quiet_strayExitOfStation s i).spares rfl

/-! ### Pulses and lines -/

theorem spares_feedPulse (s : State) (i : StationId) : Spares L s (s.feedPulse i) := by
  have h1 : Spares L s (s.modifyStation i fun st =>
      { st with feedCounter := (countPulse (s.station i).feedCounter (s.station i).config.divisor).1 }) :=
    (quiet_modifyStation (.of_fields rfl rfl rfl rfl)).spares rfl
  unfold State.feedPulse
  dsimp only
  split
  · exact .refl L s
  · split
    · exact h1.trans (spares_completedFeed _ i)
    · exact h1

theorem spares_exitPulse (s : State) (i : StationId) : Spares L s (s.exitPulse i) := by
  have h1 : Spares L s (s.modifyStation i fun st =>
      { st with exitCounter := (countPulse (s.station i).exitCounter (s.station i).config.divisor).1 }) :=
    (quiet_modifyStation (.of_fields rfl rfl rfl rfl)).spares rfl
  unfold State.exitPulse
  dsimp only
  split
  · exact .refl L s
  · split
    · exact h1.trans (spares_completedExit _ i)
    · exact h1
  · split
    · exact h1.trans (spares_completedFeed _ i)
    · exact h1

theorem spares_jamRelease (s : State) (i : StationId) : Spares L s (s.jamRelease i) := by
  unfold State.jamRelease
  split
  · next h => exact spares_jamClear fun _ => by simp [h.1]
  · exact .refl L s

theorem spares_lineEdge (s : State) (i : StationId) (l : FilteredLine) (a : Bool) :
    Spares L s (s.lineEdge i l a) := by
  unfold State.lineEdge
  split
  · exact .refl L s
  · split
    · exact spares_feedPulse s i
    · exact .refl L s
  · split
    · exact spares_exitPulse s i
    · exact .refl L s
  · split
    · exact (quiet_jamActivation s i).spares (by unfold State.jamActivation; split <;> rfl)
    · exact spares_jamRelease s i

theorem spares_filterExpiry (s : State) (i : StationId) (l : FilteredLine) : Spares L s (s.filterExpiry i l) := by
  have h1 : Spares L s (s.modifyStation i fun st => st.follow l) :=
    (quiet_modifyStation (.of_fields rfl rfl rfl rfl)).spares rfl
  unfold State.filterExpiry
  dsimp only
  split
  · exact .refl L s
  · split
    · exact h1
    · exact h1.trans (spares_lineEdge _ i l _)

theorem spares_idleExpiry (s : State) (i : StationId) : Spares L s (s.idleExpiry i) := by
  unfold State.idleExpiry
  split
  · exact .refl L s
  · exact (spares_modifyJob s i (by intro; rfl)).trans (spares_requestEnd _ i _)

end Sys2Proof.Machine
end

section
/-! SUPPORT. Every command and every step keeps both laws of walk-ups, and with them the standing conditions of
stations and walk-ups and the WAITING list (O6, O11). -/

namespace Sys2Proof.Machine

variable {L : Prop} {o s t u : State} {i : StationId} {a : Account} {w : Walkup} {n : Nat}

/-! ### What the books give an event -/

/-- The table in order, its records suiting their kinds, the open jobs apart from the requests. -/
structure State.ledgerSound (s : State) : Prop where
  order : AccountsInOrder s
  suits : ∀ a ∈ s.accounts, a.suitsKind
  apart : s.jobsApart

/-- A PENDING record has no open job (R162), so no job names it. -/
theorem jobsApart_of_books (h : BooksLaw s) : s.jobsApart := by
  obtain ⟨-, -, -, -, hfigures⟩ := h
  intro i j hj r hr
  obtain ⟨a, ha, hp, rfl⟩ := mem_requests.1 hr
  obtain ⟨-, -, hcount, hwalkup⟩ := hfigures a ha
  simp only [Account.isPending, Bool.and_eq_true, beq_iff_eq] at hp
  have hnone : (s.openJobs.filter fun j => j.concerns a.number) = [] := by
    rw [← List.length_eq_zero_iff, ← hcount, hwalkup hp.1, hp.2]
    rfl
  have hjob : j ∈ s.openJobs := List.mem_filterMap.2 ⟨i, mem_allStations i, hj⟩
  have hconcerns := List.filter_eq_nil_iff.1 hnone j hjob
  simp only [Job.concerns, Bool.or_eq_true, beq_iff_eq, not_or] at hconcerns
  exact ⟨fun e => hconcerns.1 e.symm, fun e => hconcerns.2 e.symm⟩

theorem BooksLaw.ledgerSound (h : BooksLaw s) : s.ledgerSound :=
  ⟨h.1.1, h.2.1.2.1, jobsApart_of_books h⟩

theorem State.ledgerSound.of_spares (g : s.ledgerSound) (h : Spares L s t) (ha : t.accounts = s.accounts) :
    t.ledgerSound :=
  ⟨by unfold AccountsInOrder; rw [ha]; exact g.order, ha ▸ g.suits, h.apart g.apart⟩

theorem KeepsWalkups.of_spares (h : Spares (StationsLaw s) s t) : KeepsWalkups s s t :=
  h.keeps jobsApart_of_books

/-- Both laws come with a table in order. -/
theorem KeepsWalkups.of_order (h : AccountsInOrder s → KeepsWalkups s s t) : KeepsWalkups s s t :=
  ⟨fun l => (h l.1).walkups l, fun b => (h b.1.1).requests b⟩

theorem KeepsWalkups.of_quiet (h : Quiet (StationsLaw o) s t) (hw : t.wau = s.wau) : KeepsWalkups o s t :=
  .of_same (requests_of_accounts h.accounts) hw fun l k => (h.station k).opening l

/-! ### Host commands and events -/

theorem keeps_drive (o s : State) : KeepsWalkups o s s.drive := .of_quiet (quiet_drive s) rfl

theorem keeps_link (o s : State) (l : Link) : KeepsWalkups o s { s with link := l } := .of_parts rfl rfl rfl

theorem keeps_hostCommand {c : Instr} {body : State → State × Response} (e : s.hostCommand c body = .next t)
    (h : KeepsWalkups o s (body s).1) : KeepsWalkups o s t := by
  rcases hostCommand_cases s c body with ⟨_, g⟩ | ⟨_, _, g⟩ | ⟨_, g⟩ <;> rw [g] at e <;> cases e
  · exact .refl o s
  · exact (keeps_link o s _).trans (keeps_drive o _)
  · exact h.trans ((keeps_link o _ _).trans (keeps_drive o _))

theorem keeps_event (e : s.event u = .next t) (h : KeepsWalkups o s u) : KeepsWalkups o s t := by
  unfold State.event at e
  split at e <;> cases e
  · exact .refl o s
  · exact h.trans (keeps_drive o u)

theorem keeps_withStation {body : StationId → State → State × Response}
    (h : ∀ i, KeepsWalkups o s (body i s).1) : KeepsWalkups o s (withStation n body s).1 := by
  unfold withStation
  split
  · exact .refl o s
  · exact h _

theorem keeps_withAccount {body : Account → State → State × Response}
    (h : ∀ a, s.account n = some a → KeepsWalkups o s (body a s).1) : KeepsWalkups o s (withAccount n body s).1 := by
  unfold withAccount
  split
  · exact .refl o s
  · next ha => exact h _ ha

/-! ### The account commands -/

/-- A record changed in what no request shows. -/
theorem keeps_modifyAccount {f : Account → Account}
    (hf : ∀ a, (f a).isPending = a.isPending ∧ (f a).request = a.request) :
    KeepsWalkups o s (s.modifyAccount n f) :=
  .of_same (requests_modifyAccount hf) rfl fun _ _ => Iff.rfl

theorem keeps_loadAccount (f : LoadForm) (s : State) : KeepsWalkups s s (loadAccountWork f s).1 := by
  unfold loadAccountWork
  split
  · exact .refl s s
  · next a ha =>
    obtain ⟨-, hk, -⟩ := asRecord_enters ha
    split_ifs with hn hl
    · exact .refl s s
    · exact .refl s s
    · have hadd : KeepsWalkups s s (s.addAccount a) :=
        .of_same (requests_insert rfl (not_pending_of_kind hk) (by simpa using hn)) rfl fun _ _ => Iff.rfl
      split
      · exact hadd
      · split
        · exact .refl s s
        · exact hadd.trans (keeps_modifyAccount (by intro; exact ⟨rfl, rfl⟩))

theorem keeps_movePayer (q : Option Nat) (p : Nat) : KeepsWalkups o s (s.movePayer q p) := by
  have hadd : ∀ u : State, KeepsWalkups o u (u.addMember p) := fun _ =>
    keeps_modifyAccount (by intro; exact ⟨rfl, rfl⟩)
  unfold State.movePayer
  split
  · exact .refl o s
  · split
    · exact hadd s
    · exact (keeps_modifyAccount (by intro; exact ⟨rfl, rfl⟩)).trans (hadd _)

theorem keeps_updateAccount (f : UpdateForm) (s : State) : KeepsWalkups s s (updateAccountWork f s).1 := by
  refine keeps_withAccount fun a _ => ?_
  split_ifs
  · exact .refl s s
  · exact .refl s s
  · exact .refl s s
  · split
    · exact .refl s s
    · have hfields : KeepsWalkups s s (s.modifyAccount a.number f.applyTo) :=
        keeps_modifyAccount fun _ => ⟨rfl, rfl⟩
      show KeepsWalkups s s (s.updateAccount f a)
      unfold State.updateAccount
      extract_lets s1 s2
      have hpayer : KeepsWalkups s s1 s2 := by
        cases hp : f.payer? with
        | none => simp only [s2, hp]; exact .refl s s1
        | some p => simp only [s2, hp]; exact keeps_movePayer _ p
      split
      · exact (hfields.trans hpayer).trans (.of_parts rfl rfl rfl)
      · exact hfields.trans hpayer

theorem keeps_credit (n : Nat) (x : Int) (s : State) : KeepsWalkups s s (creditWork n x s).1 := by
  unfold creditWork
  split
  · exact .refl s s
  · refine keeps_withAccount fun a _ => ?_
    split_ifs
    · exact .refl s s
    · exact .refl s s
    · exact .trans (keeps_modifyAccount (by intro; exact ⟨rfl, rfl⟩)) (.of_parts rfl rfl rfl)

theorem keeps_debit (n : Nat) (x : Int) (s : State) : KeepsWalkups s s (debitWork n x s).1 := by
  unfold debitWork
  split
  · exact .refl s s
  · refine keeps_withAccount fun a _ => ?_
    split_ifs
    · exact .refl s s
    · exact .refl s s
    · exact keeps_modifyAccount (by intro; exact ⟨rfl, rfl⟩)

/-- A registered account given a state of R3. -/
theorem spares_setAccountState (horder : AccountsInOrder s) (ha : s.account n = some a) (hk : a.kind ≠ .transient)
    {x : AccountState} (hx : x ≠ .pending) : Spares L s (s.setAccountState n x) := by
  refine .of_requests ?_ rfl rfl
  rw [← filter_requests_of_absent (not_requested horder ha (not_pending_of_kind hk))]
  exact requests_modifyAccount_lost fun b => by simp [Account.isPending, hx]

theorem spares_removeAccount (horder : AccountsInOrder s) (ha : s.account n = some a) (hp : ¬ a.isPending) :
    Spares L s (s.removeAccount n) := by
  have honly : s.removeAccount n = _ := onlyAccounts_removeAccount s n
  refine .of_requests ?_ (by rw [honly]) (by rw [honly])
  rw [requests_removeAccount, filter_requests_of_absent (not_requested horder ha hp)]

theorem keeps_block (n : Nat) (s : State) : KeepsWalkups s s (blockWork n s).1 := by
  refine .of_order fun horder => keeps_withAccount fun a ha => ?_
  split_ifs with hk
  · exact .refl s s
  · dsimp only
    exact .of_spares (spares_blockJobs s n)
  · dsimp only
    exact .of_spares ((spares_setAccountState horder ha hk (by simp)).trans (spares_blockJobs _ n))

theorem keeps_unblock (n : Nat) (s : State) : KeepsWalkups s s (unblockWork n s).1 := by
  refine .of_order fun horder => keeps_withAccount fun a ha => ?_
  split_ifs with hk
  · exact .refl s s
  · exact .of_spares (spares_setAccountState horder ha (fun h => hk (.inl h)) (by simp))

theorem keeps_retireAccount (n : Nat) (s : State) : KeepsWalkups s s (retireAccountWork n s).1 := by
  refine .of_order fun horder => keeps_withAccount fun a ha => ?_
  split_ifs with hk hs
  · exact .of_spares (spares_removeAccount horder ha (by simp [Account.isPending, hs]))
  · exact .refl s s
  · exact .refl s s
  · exact .of_spares (spares_setAccountState horder ha hk (by simp))
  · exact .of_spares (spares_removeAccount horder ha (not_pending_of_kind hk))

theorem request_periodClosed (b : Bool) (a : Account) (inPath : Nat) :
    (if b then a.periodClosed inPath else a).isPending = a.isPending ∧
      (if b then a.periodClosed inPath else a).request = a.request := by
  cases b with
  | true => exact ⟨rfl, rfl⟩
  | false => exact ⟨rfl, rfl⟩

theorem keeps_closePeriod (n : Nat) (s : State) : KeepsWalkups s s (closePeriodWork n s).1 := by
  have hclose : ∀ chosen, KeepsWalkups s s (s.closePeriods chosen) := fun chosen =>
    .of_same (requests_map (s := s) (t := s.closePeriods chosen)
      (f := fun a => if chosen a then a.periodClosed (s.impressionsInPath a.number) else a) rfl
      fun a => request_periodClosed (chosen a) a _) rfl fun _ _ => Iff.rfl
  unfold closePeriodWork
  split
  · exact hclose _
  · exact keeps_withAccount fun _ _ => hclose _

theorem keeps_bindToken (k : Token) (n : Nat) (s : State) : KeepsWalkups s s (bindTokenWork k n s).1 := by
  unfold bindTokenWork
  split
  · exact .refl s s
  · refine keeps_withAccount fun a _ => ?_
    split_ifs
    · exact .refl s s
    · exact .refl s s
    · exact .refl s s
    · exact .trans (t := { s with tokens := s.tokens ++ [{ token := k, account := n }] }) (.of_parts rfl rfl rfl)
        (keeps_modifyAccount fun _ => ⟨rfl, rfl⟩)

theorem keeps_unbindToken (k : Token) (s : State) : KeepsWalkups s s (unbindTokenWork k s).1 := by
  unfold unbindTokenWork
  split
  · exact .refl s s
  · split
    · exact .refl s s
    · split
      · exact .refl s s
      · exact .trans (t := { s with tokens := s.tokens.filter fun e => e.token != k }) (.of_parts rfl rfl rfl)
          (keeps_modifyAccount fun _ => ⟨rfl, rfl⟩)

/-! ### Tariffs, schedules, settings -/

theorem keeps_writeTariff (l : Nat) (f : TariffForm) (s : State) : KeepsWalkups s s (writeTariffWork l f s).1 := by
  unfold writeTariffWork
  split
  · exact .refl s s
  · split
    · exact .of_parts rfl rfl rfl
    · exact .refl s s

theorem keeps_writeSchedule (n : Nat) (f : ScheduleForm) (s : State) :
    KeepsWalkups s s (writeScheduleWork n f s).1 := by
  unfold writeScheduleWork
  split
  · exact .refl s s
  · split
    · exact .of_parts rfl rfl rfl
    · exact .refl s s

theorem keeps_setGlobals (f : Option GlobalsForm) (s : State) : KeepsWalkups s s (setGlobalsWork f s).1 := by
  unfold setGlobalsWork
  split
  · exact .refl s s
  · split
    · exact .refl s s
    · exact .of_parts rfl rfl rfl

/-! ### The station commands -/

/-- A station changed in what neither law reads. -/
theorem keeps_modifyStation {f : Station → Station} (hs : (f (s.station i)).state = (s.station i).state) :
    KeepsWalkups o s (s.modifyStation i f) :=
  .of_same rfl rfl fun _ k => by
    unfold State.openingAt
    rw [State.station_modifyStation]
    split
    · next h => rw [h, hs]
    · exact Iff.rfl

/-- From one state to another, neither of them OPENING. -/
theorem keeps_enter {x : StationState} (hs : (s.station i).state ≠ .opening) (hx : x ≠ .opening) :
    KeepsWalkups o s (s.enter i x) :=
  .of_quiet (quiet_enter fun _ => ⟨fun h => absurd h hx, fun h => absurd h hs⟩) rfl

theorem keeps_configureStation (n : Nat) (f : ConfigForm) (s : State) :
    KeepsWalkups s s (configureStationWork n f s).1 := by
  refine keeps_withStation fun i => ?_
  split
  · exact .refl s s
  · split_ifs
    · exact .refl s s
    · dsimp only
      exact keeps_modifyStation (by rfl)
    · exact .refl s s

theorem keeps_enableStation (n : Nat) (s : State) : KeepsWalkups s s (enableStationWork n s).1 := by
  refine keeps_withStation fun i => ?_
  split
  · next h => exact keeps_enter (by simp [h]) (by simp)
  · exact .refl s s
  · exact .refl s s

theorem keeps_disableStation (n : Nat) (s : State) : KeepsWalkups s s (disableStationWork n s).1 := by
  refine keeps_withStation fun i => ?_
  split
  · next h => exact keeps_enter (by simp [h]) (by simp)
  · next h => exact keeps_enter (by simp [h]) (by simp)
  · exact .refl s s
  · exact .refl s s

theorem keeps_setStationTariff (n l : Nat) (s : State) : KeepsWalkups s s (setStationTariffWork n l s).1 := by
  refine keeps_withStation fun i => ?_
  split
  · exact .refl s s
  · dsimp only
    exact keeps_modifyStation (by rfl)

theorem keeps_alarms (n : Nat) (s : State) : KeepsWalkups o s (alarmsWork n s).1 :=
  keeps_withStation fun _ => by
    dsimp only
    exact keeps_modifyStation (by rfl)

/-- A job opened at an IDLE station. -/
theorem keeps_openAt (hs : (s.station i).state = .idle) (a : Account) (y : OpenedBy) :
    KeepsWalkups o s (s.openAt i a y) := by
  refine .of_same (moneyOnly_openAt s i a y).requests (wau_openAt s i a y) fun _ k => ?_
  unfold State.openingAt
  rw [station_openAt]
  split
  · next h => simp [h, hs]
  · exact Iff.rfl

theorem keeps_openJob (k n : Nat) (s : State) : KeepsWalkups s s (openJobWork k n s).1 := by
  refine keeps_withStation fun i => keeps_withAccount fun a _ => ?_
  split
  · exact .refl s s
  · next h =>
    obtain ⟨hs, -⟩ := openingCheck_none h
    exact keeps_openAt hs a .host

theorem keeps_cancelWalkup (hb : BooksLaw o → s.ledgerSound) (i : StationId) :
    KeepsWalkups o s (s.cancelWalkup i) := by
  cases h : s.walkupOf i with
  | none =>
    have hs : s.cancelWalkup i = s := by unfold State.cancelWalkup; rw [h]
    rw [hs]
    exact .refl o s
  | some a =>
    obtain ⟨hm, hp, w, hw, rfl⟩ := walkupOf_some h
    rw [cancelWalkup_eq h]
    exact keepsWalkups_endWalkup hm hp hw (fun b => (hb b).order) _

theorem keeps_endJob (n : Nat) (s : State) : KeepsWalkups s s (endJobWork n s).1 := by
  refine keeps_withStation fun i => ?_
  split
  · exact .of_spares (spares_requestEnd s i _)
  · exact .of_spares (spares_requestEnd s i _)
  · exact .of_spares (spares_requestEnd s i _)
  · exact .of_spares (spares_requestEnd s i _)
  · exact keeps_cancelWalkup BooksLaw.ledgerSound i
  all_goals exact .refl s s

theorem keeps_clearJam (n : Nat) (s : State) : KeepsWalkups s s (clearJamWork n s).1 := by
  refine keeps_withStation fun i => ?_
  split
  · next h => exact .of_spares (spares_jamClear fun _ => by simp [h])
  · exact .refl s s

theorem keeps_resetStation (n : Nat) (s : State) : KeepsWalkups s s (resetStationWork n s).1 := by
  refine keeps_withStation fun i => ?_
  have hj : (s.station i).state ≠ .opening → KeepsWalkups s s (s.resetJobAt i).1 := fun h => by
    unfold State.resetJobAt
    dsimp only
    exact .of_spares (spares_resetJob fun _ => h)
  split
  · next h => exact hj (by simp [h])
  · next h => exact hj (by simp [h])
  · next h => exact hj (by simp [h])
  · next h => exact hj (by simp [h])
  · exact keeps_cancelWalkup BooksLaw.ledgerSound i
  all_goals exact .refl s s

theorem keeps_returnToService (n : Nat) (s : State) : KeepsWalkups s s (returnToServiceWork n s).1 := by
  refine keeps_withStation fun i => ?_
  split_ifs with h
  · exact .refl s s
  · exact keeps_enter (by simp [h]) (by simp)
  · exact .refl s s

/-! ### Reader commands and AUTH RESULT -/

theorem keeps_configureReader (n x : Nat) (s : State) : KeepsWalkups s s (configureReaderWork n x s).1 := by
  refine keeps_withStation fun i => ?_
  split
  · exact .refl s s
  · exact .of_parts rfl rfl rfl

theorem keeps_presetReaderCounters (n w x y z : Nat) (s : State) :
    KeepsWalkups s s (presetReaderCountersWork n w x y z s).1 := by
  refine keeps_withStation fun i => ?_
  split
  · exact .of_parts rfl rfl rfl
  · exact .refl s s

theorem keeps_sendShopMessage (n : Nat) (s : State) : KeepsWalkups s s (sendShopMessageWork n s).1 := by
  unfold sendShopMessageWork
  split
  · exact .refl s s
  · exact .of_parts rfl rfl rfl

theorem keeps_approveResult (ha : a ∈ s.accounts) (hp : a.isPending) (hw : a.walkup = some w)
    (ht : w.requestState = some .taken) (given : Nat) : KeepsWalkups s s (s.approveResult a w given).1 := by
  have hgrant : KeepsWalkups s s (s.modifyAccount a.number fun x => x.withGrant (min given w.requested)) :=
    keeps_modifyAccount fun x => ⟨rfl, by
      cases h : x.walkup <;> simp [Account.request, Account.withGrant, Walkup.claim, h]⟩
  have hmem : a.withGrant (min given w.requested) ∈
      (s.modifyAccount a.number fun x => x.withGrant (min given w.requested)).accounts :=
    List.mem_map.2 ⟨a, ha, if_pos rfl⟩
  have hwalkup : (a.withGrant (min given w.requested)).walkup =
      some { w with granted := some (min given w.requested) } := by simp [Account.withGrant, hw]
  have horder : BooksLaw s →
      AccountsInOrder (s.modifyAccount a.number fun x => x.withGrant (min given w.requested)) := fun b =>
    accountsInOrder_modifyAccount (fun _ => rfl) b.1.1
  unfold State.approveResult
  dsimp only
  split
  · exact hgrant.trans (keepsWalkups_endWalkup hmem hp hwalkup horder _)
  · split
    · exact hgrant.trans (keepsWalkups_endWalkup hmem hp hwalkup horder _)
    · exact hgrant.trans (keepsWalkups_openWalkup (w := { w with granted := some (min given w.requested) })
        hmem hp hwalkup ht horder)

theorem keeps_authResult (r x : Nat) (g : Option Int) (s : State) : KeepsWalkups s s (authResultWork r x g s).1 := by
  unfold authResultWork
  split
  · exact .refl s s
  · next result _ =>
    split
    · exact .refl s s
    · next a w htaken =>
      obtain ⟨hm, hp, hw, ht, -⟩ := takenRecord_some htaken
      cases result with
      | declined => exact keepsWalkups_endWalkup hm hp hw (fun b => b.1.1) _
      | approved given => exact keeps_approveResult hm hp hw ht given

theorem keeps_authExpiry (n : Nat) (s : State) : KeepsWalkups s s (s.authExpiry n) := by
  unfold State.authExpiry
  split
  · exact .refl s s
  · next a ha =>
    split
    · next w hp hw =>
      split
      · exact .refl s s
      · exact keepsWalkups_endWalkup (State.account_mem s ha) hp hw (fun b => b.1.1) _
    · exact .refl s s

/-! ### Reader events -/

theorem keeps_placeDisplay (o s : State) (i : StationId) (d : Display) : KeepsWalkups o s (s.placeDisplay i d) :=
  .of_parts rfl rfl rfl

theorem keeps_cardOpens (k : Token) (a : Account) : KeepsWalkups o s (s.cardOpens i k a) := by
  unfold State.cardOpens
  split
  · exact keeps_placeDisplay o s i _
  · next h =>
    obtain ⟨hs, -⟩ := openingCheck_none h
    exact (keeps_openAt hs a .reader).trans (keeps_modifyStation (by rfl))

theorem keeps_cardAtIdle (hb : BooksLaw o → s.ledgerSound) (hs : (s.station i).state = .idle) (k : Token)
    (kind : CardKind) : KeepsWalkups o s (s.cardAtIdle i k kind) := by
  unfold State.cardAtIdle
  split
  · unfold State.unknownCard
    split
    · unfold State.requestWalkup
      split
      · next h => exact keepsWalkups_startWalkup hs h k fun b => (hb b).suits
      · exact keeps_placeDisplay o s i _
    · exact keeps_placeDisplay o s i _
  · split
    · exact keeps_placeDisplay o s i _
    · unfold State.knownCard
      split
      · exact keeps_placeDisplay o s i _
      · exact keeps_cardOpens k _

theorem spares_ownCardRunning (s : State) (i : StationId) (k : Token) : Spares L s (s.ownCardRunning i k) := by
  unfold State.ownCardRunning
  split
  · exact .refl L s
  · split
    · exact spares_requestEnd s i _
    · exact (quiet_placeDisplay s i _).spares rfl

theorem spares_cardInSession (s : State) (i : StationId) (k : Token) : Spares L s (s.cardInSession i k) := by
  have hshow : ∀ d, Spares L s (s.placeDisplay i d) := fun d => (quiet_placeDisplay s i d).spares rfl
  unfold State.cardInSession
  split
  · unfold State.ownCard
    split
    · exact hshow _
    · exact spares_ownCardRunning s i k
    · exact spares_ownCardRunning s i k
    · exact hshow _
    · exact .refl L s
  · exact hshow _

theorem spares_sessionCardOut (s : State) (i : StationId) : Spares L s (s.sessionCardOut i) := by
  unfold State.sessionCardOut
  split
  · exact spares_requestEnd s i _
  · exact .refl L s

theorem keeps_cardEvent (hb : BooksLaw o → s.ledgerSound) (i : StationId) (k : Token) (kind : CardKind)
    (x : SessionStyle) : KeepsWalkups o s (s.cardEvent i k kind x) := by
  unfold State.cardEvent
  dsimp only
  split_ifs with _ _ hs
  · exact keeps_placeDisplay o s i _
  · exact keeps_placeDisplay o s i _
  · exact keeps_cardAtIdle hb hs k kind
  · exact (spares_cardInSession s i k).keeps fun b => (hb b).apart

theorem keeps_cardOutEvent (hb : BooksLaw o → s.ledgerSound) (i : StationId) :
    KeepsWalkups o s (s.cardOutEvent i) := by
  have hout := (spares_sessionCardOut s i).keeps fun b => (hb b).apart
  unfold State.cardOutEvent
  split
  · exact .refl o s
  · split
    · exact keeps_cancelWalkup hb i
    · exact hout
    · exact hout
    · exact hout
    · exact .refl o s

theorem keeps_keyEvent (hb : BooksLaw o → s.ledgerSound) (i : StationId) (k : Key) :
    KeepsWalkups o s (s.keyEvent i k) := by
  have hend := (spares_requestEnd s i .endKey).keeps fun b => (hb b).apart
  unfold State.keyEvent
  split
  · exact keeps_cancelWalkup hb i
  · exact hend
  · exact hend
  · exact hend
  · exact .refl o s

theorem keeps_readerEvent (hb : BooksLaw o → s.ledgerSound) (i : StationId) (e : ReaderEvent) :
    KeepsWalkups o s (s.readerEvent i e) := by
  have hidle : Spares (StationsLaw o) s (s.restartIdle i) := spares_restartIdle s i
  have hkeeps := hidle.keeps fun b => (hb b).apart
  have hsound : BooksLaw o → (s.restartIdle i).ledgerSound := fun b =>
    (hb b).of_spares hidle (by unfold State.restartIdle; split <;> rfl)
  unfold State.readerEvent
  dsimp only
  split
  · exact .refl o s
  · cases e with
    | card k kind x => exact hkeeps.trans (keeps_cardEvent hsound i k kind x)
    | cardOut => exact hkeeps.trans (keeps_cardOutEvent hsound i)
    | key k => exact hkeeps.trans (keeps_keyEvent hsound i k)

theorem keeps_answerTaken (s : State) (frame : List Byte) : KeepsWalkups s s (s.answerTaken frame) := by
  unfold State.answerTaken
  split
  · next r _ _ =>
    have htaken : KeepsWalkups s s (s.takeAnswer r frame) := by
      unfold State.takeAnswer
      extract_lets j s1
      have h1 : KeepsWalkups s s s1 := .of_parts rfl rfl rfl
      split
      · exact h1.trans (keeps_readerEvent (o := s) (s := s1) (fun b => BooksLaw.ledgerSound (s := s1) b) r _)
      · exact h1
    exact htaken.trans (.of_parts rfl rfl rfl)
  · exact .refl s s

/-! ### Every command, every step -/

theorem spares_retries (s : State) (l : List Nat) : Spares L s { s with retryOwed := l } :=
  (quiet_retries s l).spares rfl

theorem spares_makeOwedRetries (s : State) : Spares L s s.makeOwedRetries :=
  (Spares.foldl State.retry spares_retry s.retryOwed s).trans
    (((quiet_retries _ _).trans (quiet_drive _)).spares rfl)

theorem keeps_makeOwedRetries (s : State) : KeepsWalkups s s s.makeOwedRetries :=
  .of_spares (spares_makeOwedRetries s)

theorem openingAt_released (s : State) (k : StationId) : ¬ s.released.openingAt k := by
  have : s.released.station k = Station.afterReset (s.station k).pins := by
    show (mapSixteen _ s.stations)[k] = _
    rw [mapSixteen_get]
    rfl
  unfold State.openingAt
  rw [this]
  simp [Station.afterReset]

theorem keeps_released (o s : State) : KeepsWalkups o s s.released :=
  ⟨fun _ _ => ⟨fun _ h => (by cases h), fun _ h => (by cases h)⟩, fun _ _ =>
    ⟨List.nodup_nil, fun n => ⟨fun h => (by cases h), fun ⟨_, h, _⟩ => (by cases h)⟩,
      fun k hk => absurd hk (openingAt_released s k), fun _ h => (by cases h), fun _ h => (by cases h)⟩⟩

theorem wau_beginSlot (s : State) (r : StationId) (rest : List StationId) : (s.beginSlot r rest).wau = s.wau := by
  unfold State.beginSlot
  split <;> rfl

theorem wau_nextSlot (s : State) : s.nextSlot.wau = s.wau := by
  unfold State.nextSlot
  split
  · exact wau_beginSlot s _ _
  · rfl

/-- Every command keeps both laws of walk-ups. -/
theorem exec_keepsWalkups {c : Instr} (e : exec c s = .next t) : KeepsWalkups s s t := by
  cases c with
  | deviceReset =>
    cases e
    refine .trans ?_ (keeps_drive s _)
    exact .of_parts rfl rfl rfl
  | resetRelease => cases e; exact (keeps_released s s).trans (keeps_drive s _)
  | selectPeriodStart => exact keeps_event e (.of_parts rfl rfl rfl)
  | selectPeriodEnd mosi => exact keeps_event e (.of_parts rfl rfl rfl)
  | loadAccount f => exact keeps_hostCommand e (keeps_loadAccount f s)
  | updateAccount f => exact keeps_hostCommand e (keeps_updateAccount f s)
  | credit n x => exact keeps_hostCommand e (keeps_credit n x s)
  | debit n x => exact keeps_hostCommand e (keeps_debit n x s)
  | block n => exact keeps_hostCommand e (keeps_block n s)
  | unblock n => exact keeps_hostCommand e (keeps_unblock n s)
  | retireAccount n => exact keeps_hostCommand e (keeps_retireAccount n s)
  | closePeriod n => exact keeps_hostCommand e (keeps_closePeriod n s)
  | readAccount n => exact keeps_hostCommand e (keeps_makeOwedRetries s)
  | listAccounts n => exact keeps_hostCommand (body := fun s => (s, s.listAccountsResponse n)) e (.refl s s)
  | bindToken k n => exact keeps_hostCommand e (keeps_bindToken k n s)
  | unbindToken k => exact keeps_hostCommand e (keeps_unbindToken k s)
  | findToken k => exact keeps_hostCommand (body := fun s => (s, s.findTokenResponse k)) e (.refl s s)
  | writeTariff l f => exact keeps_hostCommand e (keeps_writeTariff l f s)
  | readTariff l => exact keeps_hostCommand (body := fun s => (s, s.readTariffResponse l)) e (.refl s s)
  | writeSchedule n f => exact keeps_hostCommand e (keeps_writeSchedule n f s)
  | readSchedule n => exact keeps_hostCommand (body := fun s => (s, s.readScheduleResponse n)) e (.refl s s)
  | setGlobals f => exact keeps_hostCommand e (keeps_setGlobals f s)
  | configureStation n f => exact keeps_hostCommand e (keeps_configureStation n f s)
  | enableStation n => exact keeps_hostCommand e (keeps_enableStation n s)
  | disableStation n => exact keeps_hostCommand e (keeps_disableStation n s)
  | setStationTariff n l => exact keeps_hostCommand e (keeps_setStationTariff n l s)
  | readStation n => exact keeps_hostCommand e (keeps_makeOwedRetries s)
  | readStationAlarms n =>
    exact keeps_hostCommand (body := fun s => alarmsWork n s.makeOwedRetries) e
      ((keeps_makeOwedRetries s).trans (keeps_alarms n _))
  | openJob i n => exact keeps_hostCommand e (keeps_openJob i n s)
  | endJob n => exact keeps_hostCommand e (keeps_endJob n s)
  | clearJam n => exact keeps_hostCommand e (keeps_clearJam n s)
  | resetStation n => exact keeps_hostCommand e (keeps_resetStation n s)
  | returnToService n => exact keeps_hostCommand e (keeps_returnToService n s)
  | configureReader n x => exact keeps_hostCommand e (keeps_configureReader n x s)
  | readReader n =>
    exact keeps_hostCommand (body := fun s => readReaderWork n s.makeOwedRetries) e
      ((keeps_makeOwedRetries s).trans (keeps_withStation fun _ => .of_parts rfl rfl rfl))
  | presetReaderCounters n w x y z => exact keeps_hostCommand e (keeps_presetReaderCounters n w x y z s)
  | sendShopMessage n => exact keeps_hostCommand e (keeps_sendShopMessage n s)
  | resetReaderBus =>
    exact keeps_hostCommand (body := fun s => (s.resetBus, bare .ok)) e (.of_quiet (quiet_resetBus s) rfl)
  | takeAuthRequest => exact keeps_hostCommand e (keepsWalkups_takeAuthRequest s s)
  | authResult r x g => exact keeps_hostCommand e (keeps_authResult r x g s)
  | statusSummary => exact keeps_hostCommand e (keeps_makeOwedRetries s)
  | retryOfHeldStations n =>
    exact keeps_event e (.of_spares ((spares_retry s n).trans (spares_retries (s.retry n) (s.retryOwed.erase n))))
  | lineLevelChange i l high =>
    have hlevel : KeepsWalkups s s (s.modifyStation i fun st => st.levelChange l high) :=
      .of_quiet (quiet_modifyStation (Station.follows_levelChange _ l high)) rfl
    change execLineLevelChange i l high s = _ at e
    unfold execLineLevelChange at e
    split_ifs at e <;> cases e
    · exact .refl s s
    · exact keeps_modifyStation (by rfl)
    · exact hlevel.trans (keeps_drive s _)
  | filterTimerExpiry i l => exact keeps_event e (.of_spares (spares_filterExpiry s i l))
  | permitDelayExpiry i => exact keeps_event e (keeps_modifyStation (by rfl))
  | idleTimerExpiry i => exact keeps_event e (.of_spares (spares_idleExpiry s i))
  | drainTimerExpiry i =>
    refine keeps_event e ?_
    split
    · exact .refl s s
    · next h =>
      refine .of_quiet (quiet_jamEntry _ fun l => ?_) rfl
      rw [(l.2.1 i).closing_of_timer (by simpa [Option.isSome_iff_ne_none] using h)]
      simp
  | jamTimeout i =>
    refine keeps_event e ?_
    split
    · exact .refl s s
    · next h =>
      refine .of_spares (spares_jamTimedOut fun l => ?_)
      rw [(l.2.1 i).jammed_of_timer (by simpa [Option.isSome_iff_ne_none] using h)]
      simp
  | authTimerExpiry n => exact keeps_event e (keeps_authExpiry n s)
  | pollPeriodStart =>
    refine keeps_event e ?_
    unfold State.startPeriodIfDue
    split
    · exact .of_parts rfl rfl rfl
    · exact .refl s s
  | periodTimerExpiry => exact keeps_event e (.of_parts rfl rfl rfl)
  | broadcastTransferEnd =>
    exact keeps_event e (.of_quiet (quiet_broadcastEnd s) (by unfold State.broadcastEnd; split <;> rfl))
  | slotStart =>
    exact keeps_event e (.of_quiet (quiet_nextSlot s) (wau_nextSlot s))
  | displayTransferEnd d =>
    exact keeps_event e (.of_quiet (quiet_displayEnd s d) (by unfold State.displayEnd; split <;> rfl))
  | pollTransferEnd a =>
    exact keeps_event e (.of_quiet (quiet_pollEnd s a) (by unfold State.pollEnd; (repeat' split) <;> rfl))
  | answerLimitExpiry =>
    exact keeps_event e (.of_quiet (quiet_limitReached s) (by unfold State.limitReached; split <;> rfl))
  | answerReceived frame => exact keeps_event e (keeps_answerTaken s frame)
  | clockReleased => exact keeps_event e (.of_parts rfl rfl rfl)

theorem keeps_tick (s : State) : KeepsWalkups s s s.tick := by
  unfold State.tick
  split
  · exact .refl s s
  · refine .of_same (requests_map (f := Account.count) rfl fun a => ⟨rfl, ?_⟩) rfl fun _ k => ?_
    · cases h : a.walkup with
      | none => simp [Account.request, Account.count, h]
      | some w =>
        cases ht : w.authTimer <;> simp [Account.request, Account.count, Walkup.claim, Timer.count, h, ht]
    · unfold State.openingAt
      show ((mapSixteen _ s.stations)[k] : Station).state = _ ↔ _
      rw [mapSixteen_get]
      rfl

/-- Every step keeps both laws of walk-ups. -/
theorem step_keepsWalkups (e : step s = .next t) : KeepsWalkups s s t := by
  unfold step at e
  split at e
  · rcases ownStep_cases s with ⟨status, _, _, g⟩ | ⟨c, _, _, _, g⟩ | ⟨_, _, g⟩ <;> rw [g] at e
    · cases e
      exact (keeps_link s s _).trans (keeps_drive s _)
    · exact exec_keepsWalkups e
    · cases e
      exact keeps_tick s
  · next c rest _ =>
    obtain ⟨hwalkups, hrequests⟩ := exec_keepsWalkups (s := { s with pending := rest }) e
    exact ⟨hwalkups, hrequests⟩

/-- Settles O6: the order of the table by the moves of a step, the stations by its operations, the walk-ups by what
it does to the requests. -/
theorem stationConditionsAreKept : Obligations.StationConditionsAreKept := by
  rintro s t hs h
  have ⟨horder, hlawful, hwalkups⟩ := hs
  refine ⟨(step_moves h).keeps (fun _ _ m => m.inOrder) horder,
    fun i => step_legal hlawful hwalkups h i (hlawful i), ?_⟩
  rw [walkupsLaw_iff] at hwalkups ⊢
  exact (step_keepsWalkups h).walkups hs hwalkups

/-- Settles O11: the law read off the requests, which a step keeps under the books. -/
theorem waitingListMatchesRecords : Obligations.WaitingListMatchesRecords := by
  rintro s t ⟨hbooks, hwaiting⟩ h
  have horder := hbooks.1.1
  rw [waitingLaw_iff horder] at hwaiting
  rw [waitingLaw_iff ((step_moves h).keeps (fun _ _ m => m.inOrder) horder)]
  exact (step_keepsWalkups h).requests hbooks hwaiting

end Sys2Proof.Machine
end

section
/-! SUPPORT. ENABLE STATION, DISABLE STATION, RETURN TO SERVICE and SET STATION TARIFF: the work of each by station
state, and the answer of a work that changes one station alone (O36). -/

namespace Sys2Proof.Machine

variable {s : State} {i : StationId} {x : Nat}

/-! ### The works -/

theorem stateByte_eq (s : State) (i : StationId) : s.stateByte i = be 1 (s.station i).state.code := by
  unfold State.stateByte
  cases (s.station i).state <;> rfl

theorem enableStationWork_disabled (h : (s.station i).state = .disabled) :
    enableStationWork i.val s = (s.enter i .idle, answer .ok [1#8]) := by
  refine (withStation_val i _).trans ?_
  rw [h]
  dsimp only
  rw [stateByte_eq, State.station_enter_self]
  rfl

theorem enableStationWork_outOfService (h : (s.station i).state = .outOfService) :
    enableStationWork i.val s = (s, answer .refusedState [7#8]) := by
  refine (withStation_val i _).trans ?_
  rw [h]
  dsimp only
  rw [stateByte_eq, h]
  rfl

theorem enableStationWork_enabled (hd : (s.station i).state ≠ .disabled) (ho : (s.station i).state ≠ .outOfService) :
    enableStationWork i.val s = (s, answer .ok (be 1 (s.station i).state.code)) := by
  refine (withStation_val i _).trans ?_
  rw [← stateByte_eq]
  split
  · next h => exact absurd h hd
  · next h => exact absurd h ho
  · rfl

theorem disableStationWork_free (h : (s.station i).state = .idle ∨ (s.station i).state = .outOfService) :
    disableStationWork i.val s = (s.enter i .disabled, answer .ok []) := by
  refine (withStation_val i _).trans ?_
  rcases h with h | h <;> rw [h] <;> rfl

theorem disableStationWork_disabled (h : (s.station i).state = .disabled) :
    disableStationWork i.val s = (s, answer .ok []) := by
  refine (withStation_val i _).trans ?_
  rw [h]
  rfl

theorem disableStationWork_busy (h : (s.station i).state ∈ [.opening, .running, .held, .closing, .jammed]) :
    disableStationWork i.val s = unchanged (bare .busy) s := by
  refine (withStation_val i _).trans ?_
  generalize (s.station i).state = y at h
  cases y
  case disabled | idle | outOfService => exact absurd h (by decide)
  all_goals rfl

theorem returnToServiceWork_elsewhere (h : (s.station i).state ≠ .outOfService) :
    returnToServiceWork i.val s = unchanged (bare .refusedState) s :=
  (withStation_val i _).trans (if_neg h)

theorem returnToServiceWork_jam (h : (s.station i).state = .outOfService) (hj : (s.station i).filtered.jam = true) :
    returnToServiceWork i.val s = unchanged (bare .busy) s :=
  (withStation_val i _).trans ((if_pos h).trans (if_pos hj))

theorem returnToServiceWork_clear (h : (s.station i).state = .outOfService)
    (hj : (s.station i).filtered.jam = false) :
    returnToServiceWork i.val s = (s.enter i .idle, answer .ok []) :=
  (withStation_val i _).trans ((if_pos h).trans (if_neg (by simp [hj])))

theorem setStationTariffWork_invalid (h : 4 ≤ x) :
    setStationTariffWork i.val x s = unchanged (bare .invalid) s := by
  refine (withStation_val i _).trans ?_
  rw [fourOf_none h]

theorem setStationTariffWork_letter (s : State) (i : StationId) (l : TariffLetter) :
    setStationTariffWork i.val l.val s =
      (s.modifyStation i fun st => { st with tariff := l }, answer .ok (be 1 l.val)) := by
  refine (withStation_val i _).trans ?_
  rw [fourOf_val]
  dsimp only
  have hbyte : count 1 l.val = be 1 l.val := congrArg (be 1) (Nat.min_eq_left (by omega))
  rw [hbyte]

/-! ### The answers -/

/-- An answer whose work changes station `i` alone. -/
theorem answers_modifyStation {c : Instr} {body : State → State × Response} {f : Station → Station}
    {status : Status} {results : List Byte} (hr : s.ready c) (hx : exec c s = s.hostCommand c body)
    (hw : body s = (s.modifyStation i f, answer status results)) :
    Answers c s status results [.stations] fun t =>
      (t.station i).undriven = (f (s.station i)).undriven ∧ KeepsOtherStations i s t :=
  answers_of_result hr hx hw rfl rfl (keepsAllBut_modifyStation s i f) fun l =>
    ⟨undriven_answered (State.station_modifyStation_self s i f) l,
      fun k hk => undriven_answered (by rw [State.station_modifyStation, if_neg hk]) l⟩

/-- Settles O36: each command by the work of the station state it meets. -/
theorem stationSwitchingByState : Obligations.StationSwitchingByState := by
  refine ⟨fun s i hr => ⟨fun h => ?_, fun h => ?_, fun hd ho => ?_⟩,
    fun s i hr => ⟨fun h => ?_, fun h => ?_, fun h => ?_⟩,
    fun s i hr => ⟨fun h => ?_, fun h hj => ?_, fun h hj => ?_⟩,
    fun s i x hr => ⟨fun h => ?_, ?_⟩⟩
  · exact answers_modifyStation hr rfl (enableStationWork_disabled h)
  · exact answers_of_unchanged hr rfl (enableStationWork_outOfService h)
  · exact answers_of_unchanged hr rfl (enableStationWork_enabled hd ho)
  · exact answers_modifyStation hr rfl (disableStationWork_free h)
  · exact answers_of_unchanged hr rfl (disableStationWork_disabled h)
  · exact refuses_of_work hr rfl (disableStationWork_busy h)
  · exact refuses_of_work hr rfl (returnToServiceWork_elsewhere h)
  · exact refuses_of_work hr rfl (returnToServiceWork_jam h hj)
  · exact answers_modifyStation hr rfl (returnToServiceWork_clear h hj)
  · exact refuses_of_work hr rfl (setStationTariffWork_invalid h)
  · rintro l rfl
    exact answers_modifyStation hr rfl (setStationTariffWork_letter s i l)

end Sys2Proof.Machine
end

section
/-! SUPPORT. Events of a reader at a station that is not IDLE: the restart of the idle timer, and cards, removals and
keys by station state (O58). -/

namespace Sys2Proof.Machine

variable {s u : State} {i : StationId} {k : Token} {kind : CardKind} {style : SessionStyle} {key : Key}

/-! ### The restart of the idle timer (R71) -/

theorem restartIdle_eq (s : State) (i : StationId) :
    s.restartIdle i =
      if (s.station i).state = .running ∨ (s.station i).state = .held then
        s.setStation i { s.station i with
          job := (s.station i).job.map fun j =>
            { j with idleTimer := some (s.globals.idleTimeout * 10000) } }
      else s := by
  rcases restartIdle_cases s i with ⟨h, e⟩ | ⟨hr, hh, e⟩
  · rw [e, if_pos h]
    rfl
  · rw [e, if_neg (by simp [hr, hh])]

theorem restartIdle_of_timeless (hr : (s.station i).state ≠ .running) (hh : (s.station i).state ≠ .held) :
    s.restartIdle i = s := by
  rw [restartIdle_eq, if_neg (by simp [hr, hh])]

/-- The restart touches the job record alone. -/
theorem station_restartIdle (s : State) (i : StationId) :
    ∃ o, (s.restartIdle i).station i = { s.station i with job := o } := by
  rw [restartIdle_eq]
  split
  · exact ⟨_, State.station_setStation_self s i _⟩
  · exact ⟨_, rfl⟩

@[simp] theorem state_restartIdle (s : State) (i : StationId) :
    ((s.restartIdle i).station i).state = (s.station i).state := by
  obtain ⟨o, h⟩ := station_restartIdle s i
  rw [h]

@[simp] theorem config_restartIdle (s : State) (i : StationId) :
    ((s.restartIdle i).station i).config = (s.station i).config := by
  obtain ⟨o, h⟩ := station_restartIdle s i
  rw [h]

@[simp] theorem sessionToken_restartIdle (s : State) (i : StationId) :
    ((s.restartIdle i).station i).sessionToken = (s.station i).sessionToken := by
  obtain ⟨o, h⟩ := station_restartIdle s i
  rw [h]

@[simp] theorem tokenAccount_restartIdle (s : State) (i : StationId) (k : Token) :
    (s.restartIdle i).tokenAccount k = s.tokenAccount k := by
  rw [restartIdle_eq]
  split <;> rfl

/-! ### An event handed to the station (R81) -/

theorem readerEvent_disabled (h : (s.station i).state = .disabled) (e : ReaderEvent) : s.readerEvent i e = s :=
  if_pos h

theorem readerEvent_card (h : (s.station i).state ≠ .disabled) :
    s.readerEvent i (.card k kind style) = (s.restartIdle i).cardEvent i k kind style := if_neg h

theorem cardOutEvent_tap (h : (u.station i).config.style = .tap) : u.cardOutEvent i = u := by
  unfold State.cardOutEvent
  rw [h]

theorem cardOutEvent_sessionless (h : (u.station i).state ∈ [.disabled, .idle, .closing, .outOfService]) :
    u.cardOutEvent i = u := by
  unfold State.cardOutEvent
  cases (u.station i).config.style with
  | tap => rfl
  | inserted =>
    generalize (u.station i).state = x at h
    cases x
    case opening | running | held | jammed => exact absurd h (by decide)
    all_goals rfl

theorem keyEvent_sessionless (h : (u.station i).state ∈ [.disabled, .idle, .closing, .outOfService]) :
    u.keyEvent i key = u := by
  unfold State.keyEvent
  generalize (u.station i).state = x at h
  cases x
  case opening | running | held | jammed => exact absurd h (by decide)
  all_goals rfl

/-- A DISABLED station takes a removal as one without a session does. -/
theorem readerEvent_cardOut (s : State) (i : StationId) :
    s.readerEvent i .cardOut = (s.restartIdle i).cardOutEvent i := by
  by_cases h : (s.station i).state = .disabled
  · rw [readerEvent_disabled h, restartIdle_of_timeless (by simp [h]) (by simp [h]),
      cardOutEvent_sessionless (by simp [h])]
  · exact if_neg h

theorem readerEvent_key (s : State) (i : StationId) (key : Key) :
    s.readerEvent i (.key key) = (s.restartIdle i).keyEvent i key := by
  by_cases h : (s.station i).state = .disabled
  · rw [readerEvent_disabled h, restartIdle_of_timeless (by simp [h]) (by simp [h]),
      keyEvent_sessionless (by simp [h])]
  · exact if_neg h

/-! ### Cards (R81, R85, R134) -/

theorem cardEvent_outOfService (h : (u.station i).state = .outOfService) :
    u.cardEvent i k kind style = u.placeDisplay i .outOfService := if_pos h

theorem cardEvent_otherStyle (h : (u.station i).state ≠ .outOfService) (hx : style ≠ (u.station i).config.style) :
    u.cardEvent i k kind style = u.placeDisplay i .unknownCard := (if_neg h).trans (if_pos hx)

theorem cardEvent_session (hx : style = (u.station i).config.style)
    (h : (u.station i).state ∈ [.opening, .running, .held, .closing, .jammed]) :
    u.cardEvent i k kind style = u.cardInSession i k := by
  have hout : (u.station i).state ≠ .outOfService := fun e => by simp [e] at h
  have hidle : (u.station i).state ≠ .idle := fun e => by simp [e] at h
  exact (if_neg hout).trans ((if_neg (not_not_intro hx)).trans (if_neg hidle))

theorem cardInSession_other (h : (u.station i).sessionToken ≠ some k) :
    u.cardInSession i k = u.placeDisplay i .stationBusy := if_neg h

theorem cardInSession_own (h : (u.station i).sessionToken = some k) : u.cardInSession i k = u.ownCard i k := if_pos h

theorem ownCard_opening (h : (u.station i).state = .opening) : u.ownCard i k = u.placeDisplay i .authorising := by
  unfold State.ownCard
  rw [h]

theorem ownCard_closing (h : (u.station i).state = .closing) : u.ownCard i k = u := by
  unfold State.ownCard
  rw [h]

theorem ownCard_jammed (h : (u.station i).state = .jammed) :
    u.ownCard i k = u.placeDisplay i (.jam (u.station i).disputed.length) := by
  unfold State.ownCard
  rw [h]

theorem ownCard_active (h : (u.station i).state = .running ∨ (u.station i).state = .held) :
    u.ownCard i k = u.ownCardRunning i k := by
  unfold State.ownCard
  rcases h with h | h <;> rw [h]

theorem ownCardRunning_inserted (h : (u.station i).config.style = .inserted) : u.ownCardRunning i k = u := by
  unfold State.ownCardRunning
  rw [h]

theorem ownCardRunning_unbound (h : (u.station i).config.style = .tap) (hk : u.tokenAccount k = none) :
    u.ownCardRunning i k = u.placeDisplay i .stationBusy := by
  unfold State.ownCardRunning
  rw [h, hk]
  rfl

theorem ownCardRunning_bound (h : (u.station i).config.style = .tap) (hk : u.tokenAccount k ≠ none) :
    u.ownCardRunning i k = u.requestEnd i .cardTap := by
  unfold State.ownCardRunning
  rw [h]
  exact if_pos (Option.isSome_iff_ne_none.2 hk)

/-- A card of the station's style at a station with a session. -/
theorem readerEvent_card_session (hx : style = (s.station i).config.style)
    (h : (s.station i).state ∈ [.opening, .running, .held, .closing, .jammed]) :
    s.readerEvent i (.card k kind style) = (s.restartIdle i).cardInSession i k := by
  rw [readerEvent_card fun e => by simp [e] at h]
  exact cardEvent_session (by simpa using hx) (by simpa using h)

/-- The session's own card. -/
theorem readerEvent_ownCard (hx : style = (s.station i).config.style)
    (h : (s.station i).state ∈ [.opening, .running, .held, .closing, .jammed])
    (hk : (s.station i).sessionToken = some k) :
    s.readerEvent i (.card k kind style) = (s.restartIdle i).ownCard i k := by
  rw [readerEvent_card_session hx h]
  exact cardInSession_own (by simpa using hk)

/-- The session's own card while no job can be ended by it. -/
theorem readerEvent_ownCard_timeless (hx : style = (s.station i).config.style)
    (h : (s.station i).state ∈ [.opening, .closing, .jammed]) (hk : (s.station i).sessionToken = some k) :
    s.readerEvent i (.card k kind style) = s.ownCard i k := by
  have hsession : (s.station i).state ∈ [.opening, .running, .held, .closing, .jammed] := by
    revert h
    cases (s.station i).state <;> decide
  rw [readerEvent_ownCard hx hsession hk,
    restartIdle_of_timeless (fun e => by simp [e] at h) (fun e => by simp [e] at h)]

/-- The session's own card in RUNNING and HELD. -/
theorem readerEvent_ownCard_active (hx : style = (s.station i).config.style)
    (h : (s.station i).state = .running ∨ (s.station i).state = .held) (hk : (s.station i).sessionToken = some k) :
    s.readerEvent i (.card k kind style) = (s.restartIdle i).ownCardRunning i k := by
  rw [readerEvent_ownCard hx (by rcases h with h | h <;> simp [h]) hk]
  exact ownCard_active (by simpa using h)

/-! ### Removals (R86) and keys (R87) -/

theorem cardOutEvent_opening (hx : (u.station i).config.style = .inserted) (h : (u.station i).state = .opening) :
    u.cardOutEvent i = u.cancelWalkup i := by
  unfold State.cardOutEvent
  rw [hx, h]

theorem cardOutEvent_session (hx : (u.station i).config.style = .inserted)
    (h : (u.station i).state ∈ [.running, .held, .jammed]) : u.cardOutEvent i = u.sessionCardOut i := by
  unfold State.cardOutEvent
  rw [hx]
  generalize (u.station i).state = x at h
  cases x
  case running | held | jammed => rfl
  all_goals exact absurd h (by decide)

theorem sessionCardOut_token (h : (u.station i).sessionToken ≠ none) :
    u.sessionCardOut i = u.requestEnd i .cardRemoved := if_pos (Option.isSome_iff_ne_none.2 h)

theorem sessionCardOut_tokenless (h : (u.station i).sessionToken = none) : u.sessionCardOut i = u :=
  if_neg (by simp [h])

theorem keyEvent_opening (h : (u.station i).state = .opening) : u.keyEvent i key = u.cancelWalkup i := by
  unfold State.keyEvent
  rw [h]

theorem keyEvent_end (h : (u.station i).state ∈ [.running, .held, .jammed]) :
    u.keyEvent i .endKey = u.requestEnd i .endKey := by
  unfold State.keyEvent
  generalize (u.station i).state = x at h
  cases x
  case running | held | jammed => rfl
  all_goals exact absurd h (by decide)

theorem keyEvent_cancel (h : (u.station i).state ≠ .opening) : u.keyEvent i .cancel = u := by
  unfold State.keyEvent
  generalize (u.station i).state = x at h
  cases x
  case opening => exact absurd rfl h
  all_goals rfl

/-! ### The obligation -/

/-- Settles O58: the event handed on with the idle timer restarted, then each kind of event by station state. -/
theorem readerEventsByStationState : Obligations.ReaderEventsByStationState := by
  intro s i e live hlive
  rw [← restartIdle_eq] at hlive
  subst hlive
  have htimeless : ∀ {l : List StationState}, (s.station i).state ∈ l → .running ∉ l → .held ∉ l →
      s.restartIdle i = s := fun h hr hh =>
    restartIdle_of_timeless (fun e => hr (e ▸ h)) (fun e => hh (e ▸ h))
  refine ⟨fun h => readerEvent_disabled h e, ?_, ?_, ?_, ?_, ?_⟩
  · rintro k kind style rfl h
    rw [readerEvent_card (by simp [h]), restartIdle_of_timeless (by simp [h]) (by simp [h])]
    exact cardEvent_outOfService h
  · rintro k kind style rfl hd ho hx
    rw [readerEvent_card hd]
    exact cardEvent_otherStyle (by simpa using ho) (by simpa using hx)
  · rintro k kind style rfl hx hs
    refine ⟨fun hk => ?_, fun hk => ⟨fun h => ?_, fun h => ?_, fun h => ?_,
      fun h => ⟨fun hi => ?_, fun ht hn => ?_, fun ht hn => ?_⟩⟩⟩
    · rw [readerEvent_card_session hx hs]
      exact cardInSession_other (by simpa using hk)
    · rw [readerEvent_ownCard_timeless hx (by simp [h]) hk, ownCard_opening h]
    · rw [readerEvent_ownCard_timeless hx (by simp [h]) hk, ownCard_closing h]
    · rw [readerEvent_ownCard_timeless hx (by simp [h]) hk, ownCard_jammed h]
    · rw [readerEvent_ownCard_active hx h hk]
      exact ownCardRunning_inserted (by simpa [hx] using hi)
    · rw [readerEvent_ownCard_active hx h hk]
      exact ownCardRunning_unbound (by simpa [hx] using ht) (by simpa using hn)
    · rw [readerEvent_ownCard_active hx h hk]
      exact ownCardRunning_bound (by simpa [hx] using ht) (by simpa using hn)
  · rintro rfl
    rw [readerEvent_cardOut]
    refine ⟨fun hx => cardOutEvent_tap (by simpa using hx), fun hx => ⟨fun h => ?_, fun h hk => ?_, fun h hk => ?_,
      fun h => ?_⟩⟩
    · rw [restartIdle_of_timeless (by simp [h]) (by simp [h]), cardOutEvent_opening hx h]
    · rw [cardOutEvent_session (by simpa using hx) (by simpa using h)]
      exact sessionCardOut_token (by simpa using hk)
    · rw [cardOutEvent_session (by simpa using hx) (by simpa using h)]
      exact sessionCardOut_tokenless (by simpa using hk)
    · rw [htimeless h (by decide) (by decide), cardOutEvent_sessionless (List.mem_cons_of_mem _ h)]
  · rintro key rfl
    rw [readerEvent_key]
    refine ⟨fun h => ?_, ?_, ?_, fun h => ?_⟩
    · rw [restartIdle_of_timeless (by simp [h]) (by simp [h]), keyEvent_opening h]
    · rintro h rfl
      exact keyEvent_end (by simpa using h)
    · rintro h rfl
      exact keyEvent_cancel fun e => by simp [show (s.station i).state = .opening by simpa using e] at h
    · rw [htimeless h (by decide) (by decide), keyEvent_sessionless (List.mem_cons_of_mem _ h)]

end Sys2Proof.Machine
end

section
/-! SUPPORT. How every command and every step ends for the output pins: nothing done, the pins driven anew, a pin level
noted in reset, or 0.1 ms passed; and that each of these leaves the pins as the state demands (O5). -/

namespace Sys2Proof.Machine

variable {s t : State}

/-! ### How a command ends -/

/-- The state as it was, or one whose pins are driven anew. -/
def EndsDriven (s : State) (o : Host.Outcome State Fault Refusal) : Prop :=
  o = .next s ∨ ∃ u : State, o = .next u.drive

theorem event_endsDriven (s after : State) : EndsDriven s (s.event after) := by
  unfold State.event
  split
  · exact .inl rfl
  · exact .inr ⟨after, rfl⟩

theorem hostCommand_endsDriven (s : State) (i : Instr) (body : State → State × Response) :
    EndsDriven s (s.hostCommand i body) := by
  rcases hostCommand_cases s i body with ⟨_, h⟩ | ⟨_, _, h⟩ | ⟨_, h⟩
  · exact .inl h
  · exact .inr ⟨_, h⟩
  · exact .inr ⟨_, h⟩

/-- A level change in reset is noted at its pin (log 11); every other one ends as an event does. -/
theorem execLineLevelChange_ends (i : StationId) (l : InputLine) (high : Bool) (s : State) :
    EndsDriven s (execLineLevelChange i l high s) ∨
      (s.resetLow = true ∧ execLineLevelChange i l high s =
        .next (s.modifyStation i fun st => { st with pins := st.pins.put l high })) := by
  unfold execLineLevelChange
  split_ifs with h hr
  · exact .inl (.inl rfl)
  · exact .inr ⟨hr, rfl⟩
  · exact .inl (.inr ⟨_, rfl⟩)

/-- Every command that is not a level change in reset leaves the state as it was or drives the pins. -/
theorem exec_ends (c : Instr) (s : State) :
    EndsDriven s (exec c s) ∨
      (s.resetLow = true ∧ ∃ i l high, exec c s =
        .next (s.modifyStation i fun st => { st with pins := st.pins.put l high })) := by
  cases c
  case lineLevelChange i l high =>
    exact (execLineLevelChange_ends i l high s).imp_right fun ⟨hr, e⟩ => ⟨hr, i, l, high, e⟩
  case deviceReset => exact .inl (.inr ⟨_, rfl⟩)
  case resetRelease => exact .inl (.inr ⟨_, rfl⟩)
  case selectPeriodStart | selectPeriodEnd | retryOfHeldStations | filterTimerExpiry | permitDelayExpiry |
      idleTimerExpiry | drainTimerExpiry | jamTimeout | authTimerExpiry | pollPeriodStart | periodTimerExpiry |
      broadcastTransferEnd | slotStart | displayTransferEnd | pollTransferEnd | answerLimitExpiry |
      answerReceived | clockReleased =>
    exact .inl (event_endsDriven s _)
  case listAccounts n => exact .inl (hostCommand_endsDriven s _ fun s => (s, s.listAccountsResponse n))
  case findToken k => exact .inl (hostCommand_endsDriven s _ fun s => (s, s.findTokenResponse k))
  case readTariff l => exact .inl (hostCommand_endsDriven s _ fun s => (s, s.readTariffResponse l))
  case readSchedule n => exact .inl (hostCommand_endsDriven s _ fun s => (s, s.readScheduleResponse n))
  case readStationAlarms n => exact .inl (hostCommand_endsDriven s _ fun s => alarmsWork n s.makeOwedRetries)
  case readReader n => exact .inl (hostCommand_endsDriven s _ fun s => readReaderWork n s.makeOwedRetries)
  case resetReaderBus => exact .inl (hostCommand_endsDriven s _ fun s => (s.resetBus, bare .ok))
  all_goals exact .inl (hostCommand_endsDriven s _ _)

/-! ### The pins -/

/-- What the pins depend on is as it was, the pins too. -/
theorem pinsLaw_congr (h : PinsLaw s) (hr : t.resetLow = s.resetLow) (hl : t.link = s.link)
    (ha : t.attnCause = s.attnCause)
    (hp : ∀ i, (t.station i).permit = (s.station i).permit ∧
      (t.station i).permitCondition = (s.station i).permitCondition) : PinsLaw t := by
  obtain ⟨hrdy, hattn, hmiso, hpermit⟩ := h
  unfold PinsLaw
  rw [hr, hl, ha]
  exact ⟨hrdy, hattn, hmiso, fun i => by rw [(hp i).1, (hp i).2]; exact hpermit i⟩

/-- In reset every pin is low or released whatever the state holds (R193). -/
theorem pinsLaw_inReset (h : PinsLaw s) (hz : s.resetLow = true) (hr : t.resetLow = true) (hl : t.link = s.link)
    (hp : ∀ i, (t.station i).permit = (s.station i).permit) : PinsLaw t := by
  obtain ⟨hrdy, hattn, hmiso, hpermit⟩ := h
  simp only [hz, Bool.not_true, Bool.false_and] at hrdy hattn hmiso hpermit
  unfold PinsLaw
  simp only [hr, hl, hp, Bool.not_true, Bool.false_and]
  exact ⟨hrdy, hattn, hmiso, hpermit⟩

theorem permit_modifyStation {f : Station → Station} (hf : ∀ st, (f st).permit = st.permit) (i k : StationId) :
    ((s.modifyStation i f).station k).permit = (s.station k).permit := by
  rw [State.station_modifyStation]
  split
  · next e => rw [e, hf]
  · rfl

theorem exec_pinsLaw {c : Instr} (h : PinsLaw s) (e : exec c s = .next t) : PinsLaw t := by
  rcases exec_ends c s with (g | ⟨u, g⟩) | ⟨hz, i, l, high, g⟩ <;> cases g.symm.trans e
  · exact h
  · exact drive_pinsLaw u
  · exact pinsLaw_inReset h hz hz rfl fun k => permit_modifyStation (by intro; rfl) i k

/-! ### Time (log 4) -/

theorem station_tick (hr : s.resetLow = false) (i : StationId) : s.tick.station i = (s.station i).count := by
  unfold State.tick State.station
  rw [if_neg (by simp [hr])]
  exact mapSixteen_get _ _ i

theorem permitCondition_count (st : Station) : st.count.permitCondition = st.permitCondition := by
  have hdelay : (Timer.count st.permitDelay).isNone = st.permitDelay.isNone := by
    cases st.permitDelay <;> rfl
  unfold Station.permitCondition Station.count
  dsimp only
  rw [hdelay]

/-- Time changes no cause of ATTN: it clears no flag and settles no record. -/
theorem attnCause_tick (hr : s.resetLow = false) : s.tick.attnCause = s.attnCause := by
  have hstations : ∀ i, (s.tick.station i).alarms = (s.station i).alarms := fun i => by
    rw [station_tick hr]; rfl
  have haccounts : s.tick.accounts.any Account.isSettled = s.accounts.any Account.isSettled := by
    unfold State.tick
    rw [if_neg (by simp [hr]), List.any_map]
    rfl
  have hreaders : ∀ i, s.tick.reader i = s.reader i := fun i => by
    unfold State.tick; rw [if_neg (by simp [hr])]; rfl
  have hwaiting : s.tick.wau = s.wau := by unfold State.tick; rw [if_neg (by simp [hr])]
  unfold State.attnCause
  simp only [hstations, haccounts, hreaders, hwaiting]

theorem tick_pinsLaw (h : PinsLaw s) : PinsLaw s.tick := by
  cases hr : s.resetLow
  · have hkept : s.tick.resetLow = s.resetLow ∧ s.tick.link = s.link := by
      unfold State.tick; rw [if_neg (by simp [hr])]; exact ⟨rfl, rfl⟩
    refine pinsLaw_congr h hkept.1 hkept.2 (attnCause_tick hr) fun i => ?_
    rw [station_tick hr]
    exact ⟨rfl, permitCondition_count _⟩
  · unfold State.tick
    rw [if_pos hr]
    exact h

/-- The law of the pins is kept by every step. -/
theorem step_pinsLaw (h : PinsLaw s) (e : step s = .next t) : PinsLaw t := by
  unfold step at e
  split at e
  · rcases ownStep_cases s with ⟨status, _, _, g⟩ | ⟨c, _, _, _, g⟩ | ⟨_, _, g⟩ <;> rw [g] at e
    · cases e
      exact drive_pinsLaw _
    · exact exec_pinsLaw h e
    · cases e
      exact tick_pinsLaw h
  · next c rest _ => exact exec_pinsLaw (s := { s with pending := rest }) h e

/-! ### The pins spelled out -/

/-- The four causes of ATTN (R189). -/
theorem attnCause_iff (s : State) : s.attnCause = true ↔
    s.wau.waiting ≠ [] ∨ (∃ a ∈ s.accounts, a.kind = .transient ∧ a.state = .settled) ∨
      (∃ i, (s.station i).alarms ≠ ⟨false, false, false, false, false, false⟩) ∨
      ∃ i, (s.reader i).linkLost = true ∨ (s.reader i).counterSaturated = true := by
  have hstations : allStations.any (fun i => (s.station i).alarms.any) = true ↔
      ∃ i, (s.station i).alarms ≠ ⟨false, false, false, false, false, false⟩ := by
    simp [alarms_any_spelled, mem_allStations]
  have hreaders : allStations.any (fun i => (s.reader i).anyAlarm) = true ↔
      ∃ i, (s.reader i).linkLost = true ∨ (s.reader i).counterSaturated = true := by
    simp [Reader.anyAlarm, mem_allStations]
  unfold State.attnCause
  rw [Bool.or_eq_true, Bool.or_eq_true, Bool.or_eq_true, hstations, hreaders, or_assoc, or_assoc]
  simp [Account.isSettled]

/-- Settles O5: every step keeps the law of the pins, and the law says when each pin is asserted. -/
theorem outputPinsFollowTheState : Obligations.OutputPinsFollowTheState := by
  intro s t h e
  have hlaw := step_pinsLaw h e
  have ⟨hrdy, hattn, hmiso, hpermit⟩ := hlaw
  refine ⟨hlaw, ?_, ?_, ?_, fun i => ⟨?_, fun hmode hdelay => ?_⟩⟩
  · rw [hrdy]; simp
  · rw [hmiso]; simp [Option.isSome_iff_ne_none]
  · rw [hattn, Bool.and_eq_true, attnCause_iff]; simp
  · rw [hpermit, Bool.and_eq_true, permitCondition_iff]; simp
  · have hreleased : (t.station i).permitCondition ≠ true := fun hc => by
      rcases (permitCondition_iff _).1 hc with ⟨_, hl | ⟨_, _, hn⟩ | ⟨_, hn⟩⟩
      · exact hmode hl
      · exact hdelay hn
      · exact hdelay hn
    rw [hpermit, Bool.eq_false_of_not_eq_true hreleased, Bool.and_false]

end Sys2Proof.Machine
end

section
/-! SUPPORT. CONFIGURE STATION: its work by the configuration named and the state of the station, which forms name a
configuration, and how each setting is taken and reported (O35). -/

namespace Sys2Proof.Machine

variable {s : State} {i : StationId} {f : ConfigForm} {c : StationConfig}

/-! ### The work (R102, R103) -/

theorem configureStationWork_unnamed (h : f.named = none) :
    configureStationWork i.val f s = unchanged (bare .invalid) s := by
  refine (withStation_val i _).trans ?_
  rw [h]

/-- The work once a configuration is named: the check of the modes, the check of the state, the re-arming. -/
theorem configureStationWork_named (h : f.named = some c) :
    configureStationWork i.val f s =
      if !c.modesAgree then unchanged (bare .invalid) s
      else if (s.station i).state = .disabled ∨ (s.station i).state = .idle then
        (s.modifyStation i fun st => st.configured c, answer .ok (configBytes c))
      else unchanged (bare .busy) s := by
  refine (withStation_val i _).trans ?_
  rw [h]

theorem modesAgree_iff (c : StationConfig) :
    c.modesAgree = true ↔ c.permitMode = .level ∨ c.countMode ≠ .exitOnly := by
  simp [StationConfig.modesAgree]

/-! ### Numbers that name a setting (Table 9-2, Table 5-2; log 21) -/

theorem countModeOf_code {n : Nat} {m : CountMode} (h : countModeOf n = some m) : m.code = n := by
  unfold countModeOf at h
  split at h <;> cases h <;> rfl

theorem classSourceOf_code {n : Nat} {m : ClassSource} (h : classSourceOf n = some m) : m.code = n := by
  unfold classSourceOf at h
  split at h <;> cases h <;> rfl

theorem permitModeOf_code {n : Nat} {m : PermitMode} (h : permitModeOf n = some m) : m.code = n := by
  unfold permitModeOf at h
  split at h <;> cases h <;> rfl

theorem yesNoOf_toNat {n : Nat} {b : Bool} (h : yesNoOf n = some b) : b.toNat = n := by
  unfold yesNoOf at h
  split at h <;> cases h <;> rfl

theorem styleOf_code {n : Nat} {x : SessionStyle} (h : styleOf n = some x) : x.code = n := by
  unfold styleOf at h
  split at h <;> cases h <;> rfl

theorem sheetClassOf_index {n : Nat} {x : SheetClass} (h : sheetClassOf n = some x) : x.index.val = n := by
  unfold sheetClassOf at h
  split at h
  · cases h
    interval_cases n <;> rfl
  · cases h

/-- The choices whose numbers name a value. -/
theorem exists_countModeOf {n : Nat} (h : n ≤ 2) : ∃ m, countModeOf n = some m := by
  interval_cases n <;> exact ⟨_, rfl⟩

theorem exists_classSourceOf {n : Nat} (h : n ≤ 1) : ∃ m, classSourceOf n = some m := by
  interval_cases n <;> exact ⟨_, rfl⟩

theorem exists_sheetClassOf {n : Nat} (h : n ≤ 7) : ∃ x, sheetClassOf n = some x :=
  ⟨_, if_pos (by omega)⟩

theorem exists_permitModeOf {n : Nat} (h : n ≤ 2) : ∃ m, permitModeOf n = some m := by
  interval_cases n <;> exact ⟨_, rfl⟩

theorem exists_yesNoOf {n : Nat} (h : n ≤ 1) : ∃ b, yesNoOf n = some b := by
  interval_cases n <;> exact ⟨_, rfl⟩

theorem exists_styleOf {n : Nat} (h : n ≤ 1) : ∃ x, styleOf n = some x := by
  interval_cases n <;> exact ⟨_, rfl⟩

theorem CountMode.code_le (m : CountMode) : m.code ≤ 2 := by cases m <;> decide

theorem ClassSource.code_le (m : ClassSource) : m.code ≤ 1 := by cases m <;> decide

theorem PermitMode.code_le (m : PermitMode) : m.code ≤ 2 := by cases m <;> decide

theorem SessionStyle.code_le (x : SessionStyle) : x.code ≤ 1 := by cases x <;> decide

theorem polarityOf_iff (b : Bool) : polarityOf b = .activeLow ↔ b = true := by cases b <;> decide

theorem edgeOf_iff (b : Bool) : edgeOf b = .trailing ↔ b = true := by cases b <;> decide

/-! ### Masks (R198) -/

/-- Bit `k` of a mask is its `k`-th flag. -/
theorem testBit_maskOf (bits : List Bool) (k : Nat) : (maskOf bits).testBit k = bits.getD k false := by
  induction bits generalizing k with
  | nil => simp [maskOf]
  | cons b bits ih =>
    have hb : maskOf (b :: bits) = Nat.bit b (maskOf bits) := by
      cases b
      · simp [maskOf]
      · simp [maskOf]; omega
    rw [hb]
    cases k with
    | zero => simp
    | succ k => simp [Nat.testBit_bit_succ, ih]

/-- A byte is reported again from its eight bits. -/
theorem count_maskOf_byte {m : BitVec 8} {bits : List Bool} (hl : bits.length ≤ 8)
    (h : ∀ k < 8, bits.getD k false = m.getLsbD k) : count 1 (maskOf bits) = [m] := by
  have hm : maskOf bits ≤ 255 := by
    have := (maskOf_lt bits).trans_le (Nat.pow_le_pow_right (by decide) hl)
    omega
  have hc : count 1 (maskOf bits) = [BitVec.ofNat 8 (maskOf bits)] := congrArg (be 1) (Nat.min_eq_left hm)
  rw [hc]
  congr 1
  refine BitVec.eq_of_getLsbD_eq fun k hk => ?_
  rw [BitVec.getLsbD_ofNat, testBit_maskOf, h k hk]
  simp [hk]

/-! ### Forms and the configurations they name (R102) -/

/-- The configuration a form names, setting by setting: the choices by their numbers, the masks bit by bit, the
numeric settings clamped; and bits 2 to 7 of the edge mask clear (log 34). -/
theorem named_eq_some_iff : f.named = some c ↔
    countModeOf f.countMode = some c.countMode ∧ classSourceOf f.classSource = some c.classSource ∧
      sheetClassOf f.fixedClass = some c.fixedClass ∧ permitModeOf f.permitMode = some c.permitMode ∧
      yesNoOf f.walkupAllowed = some c.walkupAllowed ∧ styleOf f.sessionStyle = some c.style ∧
      (f.edgeMask &&& 0xFC#8) = 0#8 ∧ c.permitPolarity = polarityOf (f.polarityMask.getLsbD 0) ∧
      c.polarity = polaritiesOf f.polarityMask ∧ c.feedEdge = edgeOf (f.edgeMask.getLsbD 0) ∧
      c.exitEdge = edgeOf (f.edgeMask.getLsbD 1) ∧ c.filterSteps = clamp 5 255 f.filterSteps ∧
      c.divisor = clamp 1 8 f.divisor ∧ c.tdSteps = min f.tdSteps 255 := by
  unfold ConfigForm.named
  constructor
  · intro h
    split at h
    · next cm cs fc pm wa ss hcm hcs hfc hpm hwa hss =>
      split at h
      · next he =>
        cases h
        exact ⟨hcm, hcs, hfc, hpm, hwa, hss, he, rfl, rfl, rfl, rfl, rfl, rfl, rfl⟩
      · cases h
    · cases h
  · rintro ⟨hcm, hcs, hfc, hpm, hwa, hss, he, hpol, hpols, hfeed, hexit, hfilter, hdiv, htd⟩
    rw [hcm, hcs, hfc, hpm, hwa, hss]
    dsimp only
    rw [if_pos he, ← hpol, ← hpols, ← hfeed, ← hexit, ← hfilter, ← hdiv, ← htd]

/-- A form whose choices all name a value, with no edge bit beyond the second, names a configuration. -/
theorem exists_named (hcm : f.countMode ≤ 2) (hcs : f.classSource ≤ 1) (hfc : f.fixedClass ≤ 7)
    (hpm : f.permitMode ≤ 2) (hwa : f.walkupAllowed ≤ 1) (hss : f.sessionStyle ≤ 1)
    (he : (f.edgeMask &&& 0xFC#8) = 0#8) : ∃ c, f.named = some c := by
  obtain ⟨cm, hcm⟩ := exists_countModeOf hcm
  obtain ⟨cs, hcs⟩ := exists_classSourceOf hcs
  obtain ⟨fc, hfc⟩ := exists_sheetClassOf hfc
  obtain ⟨pm, hpm⟩ := exists_permitModeOf hpm
  obtain ⟨wa, hwa⟩ := exists_yesNoOf hwa
  obtain ⟨ss, hss⟩ := exists_styleOf hss
  unfold ConfigForm.named
  rw [hcm, hcs, hfc, hpm, hwa, hss]
  dsimp only
  rw [if_pos he]
  exact ⟨_, rfl⟩

/-- Each number of the form is the code of the choice it names. -/
theorem named_codes (h : f.named = some c) :
    c.countMode.code = f.countMode ∧ c.classSource.code = f.classSource ∧
      c.fixedClass.index.val = f.fixedClass ∧ c.permitMode.code = f.permitMode ∧
      c.walkupAllowed.toNat = f.walkupAllowed ∧ c.style.code = f.sessionStyle := by
  obtain ⟨hcm, hcs, hfc, hpm, hwa, hss, -⟩ := named_eq_some_iff.1 h
  exact ⟨countModeOf_code hcm, classSourceOf_code hcs, sheetClassOf_index hfc, permitModeOf_code hpm,
    yesNoOf_toNat hwa, styleOf_code hss⟩

theorem named_none (h : 2 < f.countMode ∨ 1 < f.classSource ∨ 7 < f.fixedClass ∨ 2 < f.permitMode ∨
    1 < f.walkupAllowed ∨ 1 < f.sessionStyle ∨ (f.edgeMask &&& 0xFC#8) ≠ 0#8) : f.named = none := by
  refine Option.eq_none_iff_forall_ne_some.2 fun c hc => ?_
  obtain ⟨hcm, hcs, hfc, hpm, hwa, hss⟩ := named_codes hc
  obtain ⟨-, -, -, -, -, -, he, -⟩ := named_eq_some_iff.1 hc
  have hcm' := c.countMode.code_le
  have hcs' := c.classSource.code_le
  have hfc' := c.fixedClass.index.isLt
  have hpm' := c.permitMode.code_le
  have hwa' := c.walkupAllowed.toNat_le
  have hss' := c.style.code_le
  rcases h with h | h | h | h | h | h | h
  case inr.inr.inr.inr.inr.inr => exact h he
  all_goals omega

/-! ### The configuration reported (R197) -/

theorem polarityOf_beq (b : Bool) : (polarityOf b == .activeLow) = b := by cases b <;> rfl

theorem edgeOf_beq (b : Bool) : (edgeOf b == .trailing) = b := by cases b <;> rfl

theorem count_eq_be {k n : Nat} (h : n ≤ 256 ^ k - 1) : count k n = be k n := by
  unfold count
  rw [Nat.min_eq_left h]

/-- Bits 2 to 7 of an edge mask that names a configuration are clear. -/
theorem edgeMask_high {m : BitVec 8} (h : (m &&& 0xFC#8) = 0#8) {k : Nat} (hl : 2 ≤ k) (hu : k < 8) :
    m.getLsbD k = false := by
  have hk := congrArg (fun x => x.getLsbD k) h
  have hmask : (0xFC#8).getLsbD k = true := by interval_cases k <;> rfl
  simpa [hmask] using hk

/-- The configuration named, reported in the 13 bytes of its form. -/
theorem configBytes_named (h : f.named = some c) : configBytes c =
    [f.polarityMask, f.edgeMask] ++ be 2 c.filterSteps ++ be 1 c.divisor ++ be 1 f.countMode ++
      be 1 f.classSource ++ be 1 f.fixedClass ++ be 1 f.permitMode ++ be 2 c.tdSteps ++
      be 1 f.walkupAllowed ++ be 1 f.sessionStyle := by
  obtain ⟨hcm, hcs, hfc, hpm, hwa, hss⟩ := named_codes h
  obtain ⟨-, -, -, -, -, -, he, hpol, hpols, hfeed, hexit, hfilter, hdiv, htd⟩ := named_eq_some_iff.1 h
  have hfilter' : c.filterSteps ≤ 255 := by rw [hfilter]; unfold clamp; omega
  have hdiv' : c.divisor ≤ 8 := by rw [hdiv]; unfold clamp; omega
  have htd' : c.tdSteps ≤ 255 := by omega
  have hcm' := c.countMode.code_le
  have hcs' := c.classSource.code_le
  have hfc' := c.fixedClass.index.isLt
  have hpm' := c.permitMode.code_le
  have hss' := c.style.code_le
  unfold configBytes flag
  dsimp only
  rw [count_maskOf_byte (m := f.polarityMask) (by simp), count_maskOf_byte (m := f.edgeMask) (by simp),
    hcm, hcs, hfc, hpm, hwa, hss]
  iterate 8 rw [count_eq_be (by omega)]
  · rfl
  · intro k hk
    rw [hfeed, hexit, edgeOf_beq, edgeOf_beq]
    by_cases hl : 2 ≤ k
    · rw [edgeMask_high he hl hk]
      exact List.getD_eq_default _ _ hl
    · interval_cases k <;> rfl
  · intro k hk
    rw [hpol, hpols]
    simp only [polaritiesOf, polarityOf_beq]
    interval_cases k <;> rfl

/-! ### The obligation -/

/-- Settles O35: the work by its checks in order, then what forms name and how a named configuration reads. -/
theorem configureStationRearmsThePort : Obligations.ConfigureStationRearmsThePort := by
  refine ⟨fun s i f hr => ⟨fun h => refuses_of_work hr rfl (configureStationWork_unnamed h), fun c h =>
    ⟨fun hp hc => ?_, fun hm => ⟨fun hd hi => ?_, fun hs => ?_⟩⟩⟩,
    fun f => ⟨named_none, exists_named, fun c h => ?_⟩⟩
  · have hm : c.modesAgree = false := by simp [StationConfig.modesAgree, hp, hc]
    exact refuses_of_work hr rfl ((configureStationWork_named h).trans (by rw [hm]; rfl))
  · refine refuses_of_work hr rfl ((configureStationWork_named h).trans ?_)
    rw [(modesAgree_iff c).2 hm, if_neg (by simp), if_neg (by simp [hd, hi])]
  · have hw := configureStationWork_named (s := s) (i := i) h
    rw [(modesAgree_iff c).2 hm, if_neg (by simp), if_pos hs] at hw
    exact (answers_modifyStation hr rfl hw).imp fun t ⟨hself, hothers⟩ => ⟨hothers, hself⟩
  · obtain ⟨hcm, hcs, hfc, hpm, hwa, hss⟩ := named_codes h
    obtain ⟨-, -, -, -, -, -, -, hpol, hpols, hfeed, hexit, hfilter, hdiv, htd⟩ := named_eq_some_iff.1 h
    rw [hpol, hpols, hfeed, hexit]
    exact ⟨hfilter, hdiv, htd, hcm, hcs, hfc, hpm, hwa, hss, polarityOf_iff _, polarityOf_iff _,
      polarityOf_iff _, polarityOf_iff _, polarityOf_iff _, polarityOf_iff _, polarityOf_iff _,
      polarityOf_iff _, edgeOf_iff _, edgeOf_iff _, configBytes_named h⟩

end Sys2Proof.Machine
end

section
/-! SUPPORT. The lines of a station: a level change and its filter timer, the expiry of a filter timer, and what the
edges of READY, FEED, EXIT and JAM do (O45, O46). -/

namespace Sys2Proof.Machine

variable {s u : State} {i : StationId} {st : Station}

/-! ### Events at one station -/

/-- An event that replaces one station. -/
theorem happens_setStation {c : Instr} (hr : s.resetLow = false) (hx : exec c s = s.event (s.setStation i st)) :
    Happens c s [.stations] fun t =>
      KeepsOtherStations i s t ∧ t.station i = { st with permit := (t.station i).permit } := by
  refine happens_of_event hr hx (keepsAllBut_modifyStation s i fun _ => st)
    ⟨keepsOtherStations_drive (keepsOtherStations_modifyStation s i fun _ => st), ?_⟩
  rw [State.station_drive, State.station_setStation_self]

theorem Happens.imp {c : Instr} {changed : List Part} {holds holds' : State → Prop}
    (h : Happens c s changed holds) (hi : ∀ t, holds t → holds' t) : Happens c s changed holds' := by
  obtain ⟨t, hx, hk, hp, hh⟩ := h
  exact ⟨t, hx, hk, hp, hi t hh⟩

/-- An event that replaces one station, its PERMIT pin apart. -/
theorem happens_undriven {c : Instr} (hr : s.resetLow = false) (hx : exec c s = s.event (s.setStation i st)) :
    Happens c s [.stations] fun t => KeepsOtherStations i s t ∧ (t.station i).undriven = st.undriven :=
  (happens_setStation hr hx).imp fun _ ⟨hothers, hself⟩ => ⟨hothers, by rw [hself]; rfl⟩

/-! ### Lines by name -/

theorem PerFiltered.get_put_self {α : Type} (p : PerFiltered α) (f : FilteredLine) (x : α) :
    (p.put f x).get f = x := by cases f <;> rfl

theorem PerFiltered.get_put_ne {α : Type} (p : PerFiltered α) {f g : FilteredLine} (h : g ≠ f) (x : α) :
    (p.put f x).get g = p.get g := by
  cases f <;> cases g <;> first | rfl | exact absurd rfl h

/-! ### A level change (R97, R99; log 25) -/

/-- On a filtered line the timer runs with the filter duration, or stops where raw level and state agree. -/
theorem levelChange_filtered {l : InputLine} {f : FilteredLine} (h : inputFiltered l = some f) (high : Bool) :
    st.levelChange l high =
      { st with
        pins := st.pins.put l high
        filterTimers := st.filterTimers.put f
          (if ({ st with pins := st.pins.put l high } : Station).raw l = st.filtered.get f then none
           else some st.config.filterSteps) } := by
  unfold Station.levelChange
  rw [h]

/-- A class line has no filter. -/
theorem levelChange_class {l : InputLine} (h : inputFiltered l = none) (high : Bool) :
    st.levelChange l high = { st with pins := st.pins.put l high } := by
  unfold Station.levelChange
  rw [h]

theorem exec_lineLevelChange {l : InputLine} {high : Bool} (hr : s.resetLow = false)
    (h : (s.station i).pins.get l ≠ high) :
    exec (.lineLevelChange i l high) s = s.event (s.setStation i ((s.station i).levelChange l high)) := by
  show execLineLevelChange i l high s = _
  unfold execLineLevelChange State.event
  simp [h, hr]
  rfl

/-- Settles O45: a level that stands changes nothing; another reaches the filter timer of its line alone. -/
theorem lineLevelChangeStartsTheFilter : Obligations.LineLevelChangeStartsTheFilter := by
  intro s i l high hr
  refine ⟨fun h => if_pos h, fun h => (happens_setStation hr (exec_lineLevelChange hr h)).imp
    fun t ⟨hothers, hself⟩ => ⟨hothers, ?_⟩⟩
  cases hl : inputFiltered l with
  | none =>
    rw [levelChange_class hl] at hself
    rw [hself]
    exact ⟨rfl, rfl, fun f hf => (by cases hf), fun _ => rfl, rfl⟩
  | some f =>
    rw [levelChange_filtered hl] at hself
    rw [hself]
    refine ⟨rfl, rfl, fun g hg => ?_, fun hn => (by cases hn), rfl⟩
    cases hg
    exact ⟨PerFiltered.get_put_self _ _ _, fun g hne => PerFiltered.get_put_ne _ hne _⟩

/-! ### The expiry of a filter timer (R99) -/

variable {f : FilteredLine}

/-- A running timer that expires where raw level and filtered state agree changes no state of the line. -/
theorem filterExpiry_level {k : Nat} (ht : (s.station i).filterTimers.get f = some k)
    (h : (s.station i).raw (filteredInput f) = (s.station i).filtered.get f) :
    s.filterExpiry i f = s.setStation i ((s.station i).follow f) := by
  unfold State.filterExpiry
  simp only [ht, h]
  rfl

/-- A running timer that expires where they differ is an edge of the line. -/
theorem filterExpiry_edge {k : Nat} (ht : (s.station i).filterTimers.get f = some k)
    (h : (s.station i).raw (filteredInput f) ≠ (s.station i).filtered.get f) :
    s.filterExpiry i f =
      (s.setStation i ((s.station i).follow f)).lineEdge i f ((s.station i).raw (filteredInput f)) := by
  unfold State.filterExpiry
  simp only [ht, h]
  rfl

/-! ### Counted edges (R100, R101, R104) -/

theorem counts_iff (e : CountingEdge) (active : Bool) :
    e.counts active = true ↔ e = if active then .leading else .trailing := by
  cases e <;> cases active <;> decide

theorem not_counts_iff (e : CountingEdge) (active : Bool) :
    e.counts active = false ↔ e = if active then .trailing else .leading := by
  cases e <;> cases active <;> decide

theorem countPulse_below {n d : Nat} (h : n + 1 < d) : countPulse n d = (n + 1, false) := if_neg (by omega)

theorem countPulse_completes {n d : Nat} (h : d ≤ n + 1) : countPulse n d = (0, true) := if_pos h

theorem feedPulse_uncounted (h : (s.station i).config.countMode = .exitOnly) : s.feedPulse i = s := by
  unfold State.feedPulse
  simp only [h]

theorem feedPulse_below (hm : (s.station i).config.countMode ≠ .exitOnly)
    (h : (s.station i).feedCounter + 1 < (s.station i).config.divisor) :
    s.feedPulse i = s.setStation i { s.station i with feedCounter := (s.station i).feedCounter + 1 } := by
  unfold State.feedPulse
  dsimp only
  split
  · next e => exact absurd e hm
  · rw [countPulse_below h]
    rfl

theorem feedPulse_completes (hm : (s.station i).config.countMode ≠ .exitOnly)
    (h : (s.station i).config.divisor ≤ (s.station i).feedCounter + 1) :
    s.feedPulse i = (s.setStation i { s.station i with feedCounter := 0 }).completedFeed i := by
  unfold State.feedPulse
  dsimp only
  split
  · next e => exact absurd e hm
  · rw [countPulse_completes h]
    rfl

theorem exitPulse_uncounted (h : (s.station i).config.countMode = .feedOnly) : s.exitPulse i = s := by
  unfold State.exitPulse
  simp only [h]

theorem exitPulse_below (hm : (s.station i).config.countMode ≠ .feedOnly)
    (h : (s.station i).exitCounter + 1 < (s.station i).config.divisor) :
    s.exitPulse i = s.setStation i { s.station i with exitCounter := (s.station i).exitCounter + 1 } := by
  unfold State.exitPulse
  dsimp only
  rw [countPulse_below h]
  split
  · next e => exact absurd e hm
  · rfl
  · rfl

theorem exitPulse_tracked (hm : (s.station i).config.countMode = .tracked)
    (h : (s.station i).config.divisor ≤ (s.station i).exitCounter + 1) :
    s.exitPulse i = (s.setStation i { s.station i with exitCounter := 0 }).completedExit i := by
  unfold State.exitPulse
  simp only [countPulse_completes h, hm]
  rfl

theorem exitPulse_exitOnly (hm : (s.station i).config.countMode = .exitOnly)
    (h : (s.station i).config.divisor ≤ (s.station i).exitCounter + 1) :
    s.exitPulse i = (s.setStation i { s.station i with exitCounter := 0 }).completedFeed i := by
  unfold State.exitPulse
  simp only [countPulse_completes h, hm]
  rfl

/-! ### JAM (R124, R128) -/

theorem jamActivation_active (h : (s.station i).state ∈ [.running, .held, .closing]) :
    s.jamActivation i = s.jamEntry i .jamLine := by
  unfold State.jamActivation
  split
  · rfl
  · rfl
  · rfl
  · simp_all

theorem jamActivation_other (h : (s.station i).state ∉ [.running, .held, .closing]) : s.jamActivation i = s := by
  unfold State.jamActivation
  split
  · simp_all
  · simp_all
  · simp_all
  · rfl

theorem jamRelease_jamLine (hs : (s.station i).state = .jammed) (hc : (s.station i).jamCause = some .jamLine) :
    s.jamRelease i = s.jamClear i := if_pos ⟨hs, hc⟩

theorem jamRelease_other (h : (s.station i).state ≠ .jammed ∨ (s.station i).jamCause ≠ some .jamLine) :
    s.jamRelease i = s := if_neg (by tauto)

/-! ### The edges of the lines -/

variable {active : Bool}

theorem lineEdge_feed (h : (s.station i).config.feedEdge = if active then .leading else .trailing) :
    s.lineEdge i .feed active = s.feedPulse i := if_pos ((counts_iff _ _).2 h)

theorem lineEdge_exit (h : (s.station i).config.exitEdge = if active then .leading else .trailing) :
    s.lineEdge i .exit active = s.exitPulse i := if_pos ((counts_iff _ _).2 h)

/-- READY, an edge that is not counted and a line that is not counted do nothing beyond the filtered state. -/
theorem lineEdge_uncounted
    (h : f = .ready ∨
      (f = .feed ∧ (s.station i).config.feedEdge = (if active then .trailing else .leading)) ∨
      (f = .exit ∧ (s.station i).config.exitEdge = (if active then .trailing else .leading)) ∨
      (f = .feed ∧ (s.station i).config.countMode = .exitOnly) ∨
      (f = .exit ∧ (s.station i).config.countMode = .feedOnly)) : s.lineEdge i f active = s := by
  rcases h with rfl | ⟨rfl, h⟩ | ⟨rfl, h⟩ | ⟨rfl, h⟩ | ⟨rfl, h⟩
  · rfl
  · exact if_neg (by rw [(not_counts_iff _ _).2 h]; simp)
  · exact if_neg (by rw [(not_counts_iff _ _).2 h]; simp)
  · show (if _ then _ else _) = _
    rw [feedPulse_uncounted h, ite_self]
  · show (if _ then _ else _) = _
    rw [exitPulse_uncounted h, ite_self]

/-! ### The obligation -/

/-- An expiry that leaves `s` with one station replaced. -/
theorem happens_filterExpiry (hr : s.resetLow = false) (h : s.filterExpiry i f = s.setStation i st) :
    Happens (.filterTimerExpiry i f) s [.stations] fun t =>
      KeepsOtherStations i s t ∧ (t.station i).undriven = st.undriven :=
  happens_undriven hr (congrArg s.event h)

theorem exec_filterExpiry (hr : s.resetLow = false) (h : s.filterExpiry i f = u) :
    exec (.filterTimerExpiry i f) s = .next u.drive := by
  show s.event (s.filterExpiry i f) = _
  unfold State.event
  rw [if_neg (by simp [hr]), h]

/-- Settles O46: the station as its line follows, then the edge of each line by what it counts or clears. -/
theorem filterExpiryFollowsTheLine : Obligations.FilterExpiryFollowsTheLine := by
  refine ⟨?_, ?_⟩
  · rintro s i f k active hr ht rfl followed rfl
    obtain ⟨u, hu⟩ : ∃ u, u = s.setStation i ((s.station i).follow f) := ⟨_, rfl⟩
    have hself : u.station i = (s.station i).follow f := by rw [hu]; exact State.station_setStation_self s i _
    have hedge := fun hl => hu ▸ filterExpiry_edge (s := s) (i := i) (f := f) ht hl
    refine ⟨fun h => ?_, ?_, ?_⟩
    · refine happens_filterExpiry (st := (s.station i).follow f) hr ?_
      by_cases hl : (s.station i).raw (filteredInput f) = (s.station i).filtered.get f
      · exact filterExpiry_level ht hl
      · rw [← hu]
        exact (hedge hl).trans (lineEdge_uncounted (hself ▸ h.imp_right fun h => h.resolve_left hl))
    · rintro rfl hl he hm hd
      refine happens_filterExpiry hr ((hedge hl).trans ?_)
      rw [lineEdge_feed (hself ▸ he), feedPulse_below (hself ▸ hm) (hself ▸ hd), hself, hu, setStation_setStation]
      rfl
    · rintro rfl hl he hm hd
      refine happens_filterExpiry hr ((hedge hl).trans ?_)
      rw [lineEdge_exit (hself ▸ he), exitPulse_below (hself ▸ hm) (hself ▸ hd), hself, hu, setStation_setStation]
      rfl
  · rintro s i f k active u hr ht rfl hl hu
    have hself : u.station i = (s.station i).follow f := by rw [hu]; exact State.station_setStation_self s i _
    have hedge : s.filterExpiry i f = u.lineEdge i f ((s.station i).raw (filteredInput f)) := by
      rw [hu]; exact filterExpiry_edge ht hl
    refine ⟨?_, ?_, ?_, ?_, ?_⟩
    · rintro rfl he hd hm
      refine exec_filterExpiry hr (hedge.trans ?_)
      rw [lineEdge_feed (hself ▸ he), feedPulse_completes (hself ▸ hm) (hself ▸ hd)]
    · rintro rfl he hd
      rw [lineEdge_exit (hself ▸ he)] at hedge
      exact ⟨fun hm => exec_filterExpiry hr (hedge.trans
          (exitPulse_tracked (hself ▸ hm) (hself ▸ hd))),
        fun hm => exec_filterExpiry hr (hedge.trans
          (exitPulse_exitOnly (hself ▸ hm) (hself ▸ hd)))⟩
    · rintro rfl ha hs
      rw [ha] at hedge
      exact exec_filterExpiry hr (hedge.trans (jamActivation_active (hself ▸ hs)))
    · rintro rfl ha hs hc
      rw [ha] at hedge
      exact exec_filterExpiry hr (hedge.trans (jamRelease_jamLine (hself ▸ hs) (hself ▸ hc)))
    · rintro rfl (⟨ha, hs⟩ | ⟨ha, hs⟩) <;> rw [ha] at hedge
      · exact exec_filterExpiry hr (hedge.trans (jamActivation_other (hself ▸ hs)))
      · exact exec_filterExpiry hr (hedge.trans (jamRelease_other (hself ▸ hs)))

end Sys2Proof.Machine
end

section
/-! SUPPORT. A completed exit by station state: a stray exit counted, or the head of a list billed, written as one
station replaced and one display shown (O48). -/

namespace Sys2Proof.Machine

variable {s u : State} {i : StationId} {st : Station} {j : Job} {x : Sheet} {rest : List Sheet}

/-! ### One station replaced, one display shown -/

theorem setStation_station (s : State) (i : StationId) : s.setStation i (s.station i) = s := by
  unfold State.setStation State.station
  rw [show s.stations.set i.val s.stations[i] = s.stations from Vector.set_getElem_self _]

theorem modifyJob_eq (f : Job → Job) (hj : (s.station i).job = some j) :
    s.modifyJob i f = s.setStation i { s.station i with job := some (f j) } := by
  show s.setStation i { s.station i with job := (s.station i).job.map f } = _
  rw [hj]
  rfl

theorem modifyStation_eq (s : State) (i : StationId) (f : Station → Station) :
    s.modifyStation i f = s.setStation i (f (s.station i)) := rfl

/-- A station replaced touches the stations alone. -/
theorem setStation_frame (s : State) (i : StationId) (st : Station) :
    KeepsAllBut [.stations] s (s.setStation i st) ∧ KeepsOtherStations i s (s.setStation i st) ∧
      (s.setStation i st).station i = st :=
  ⟨keepsAllBut_modifyStation s i fun _ => st, keepsOtherStations_modifyStation s i fun _ => st,
    State.station_setStation_self s i st⟩

/-- A station replaced and a display shown at it touch the stations and the readers alone. -/
theorem setStation_placeDisplay_frame (s : State) (i : StationId) (st : Station) (d : Display) :
    KeepsAllBut [.stations, .readers] s ((s.setStation i st).placeDisplay i d) ∧
      KeepsOtherStations i s ((s.setStation i st).placeDisplay i d) ∧
      KeepsOtherReaders i s ((s.setStation i st).placeDisplay i d) ∧
      ((s.setStation i st).placeDisplay i d).station i = st ∧
      ShownOn i d s ((s.setStation i st).placeDisplay i d) := by
  obtain ⟨hkept, hothers, hself⟩ := setStation_frame s i st
  exact ⟨keepsAllBut_trans (keepsAllBut_mono hkept (by decide))
      (keepsAllBut_mono (keepsAllBut_placeDisplay _ i d) (by decide)),
    hothers, keepsOtherReaders_placeDisplay (s.setStation i st) i d, hself, shownOn_placeDisplay rfl rfl rfl⟩

theorem setStation_placeDisplay (s : State) (i : StationId) (st : Station) (d : Display) :
    (s.placeDisplay i d).setStation i st = (s.setStation i st).placeDisplay i d := rfl

/-! ### The idle timer (R71) -/

/-- The idle timer a job has once a sheet has moved: restarted in RUNNING and HELD, as it was elsewhere. -/
def State.idleAfter (s : State) (i : StationId) (j : Job) : Timer :=
  if (s.station i).state = .running ∨ (s.station i).state = .held then some (s.globals.idleTimeout * 10000)
  else j.idleTimer

theorem restartIdle_job (hj : (s.station i).job = some j) :
    s.restartIdle i = s.setStation i { s.station i with job := some { j with idleTimer := s.idleAfter i j } } := by
  rw [restartIdle_eq]
  unfold State.idleAfter
  split
  · rw [hj]
    rfl
  · rw [show ({ s.station i with job := some { j with idleTimer := j.idleTimer } } : Station) = s.station i by
      rw [← hj], setStation_station]

/-! ### A sheet billed, a stray exit (R52, R108, R111) -/

/-- A job with one sheet more counted as billed (R52). -/
def Job.addBilled (j : Job) (x : Sheet) : Job :=
  { j with
    billed := j.billed.set x.cls.index (min (j.billed[x.cls.index] + 1) 4294967295)
    billedImpressions := min (j.billedImpressions + x.impressions) 4294967295 }

theorem billSheet_eq (x : Sheet) (hj : (s.station i).job = some j) :
    s.billSheet i x =
      (s.setStation i { s.station i with job := some (j.addBilled x) }).placeDisplay i
        (.charge (toCents j.accrued)) := by
  unfold State.billSheet State.placeCharge
  dsimp only
  rw [modifyJob_eq _ hj, State.station_setStation_self, Option.map_some, Option.getD_some]
  rfl

theorem strayExitOfJob_eq (hj : (s.station i).job = some j) :
    s.strayExitOfJob i = s.setStation i { s.station i with
      job := some { j with strayExits := min (j.strayExits + 1) 65535 }
      alarms := { (s.station i).alarms with strayExit := true } } := by
  unfold State.strayExitOfJob State.modifyAlarms
  dsimp only
  rw [modifyJob_eq _ hj, modifyStation_setStation]
  rfl

theorem exitFromPath_empty (h : (s.station i).path = []) : s.exitFromPath i = s.strayExitOfJob i := by
  unfold State.exitFromPath
  rw [h]

theorem exitFromDisputed_empty (h : (s.station i).disputed = []) : s.exitFromDisputed i = s.strayExitOfJob i := by
  unfold State.exitFromDisputed
  rw [h]

theorem exitFromPath_head (hj : (s.station i).job = some j) (h : (s.station i).path = x :: rest) :
    s.exitFromPath i =
      (s.setStation i { s.station i with path := rest, job := some (j.addBilled x) }).placeDisplay i
        (.charge (toCents j.accrued)) := by
  unfold State.exitFromPath
  rw [h]
  dsimp only
  rw [modifyStation_eq, billSheet_eq x (by rw [State.station_setStation_self]; exact hj), setStation_setStation,
    State.station_setStation_self]

theorem exitFromDisputed_head (hj : (s.station i).job = some j) (h : (s.station i).disputed = x :: rest) :
    s.exitFromDisputed i =
      (s.setStation i { s.station i with disputed := rest, job := some (j.addBilled x) }).placeDisplay i
        (.charge (toCents j.accrued)) := by
  unfold State.exitFromDisputed
  rw [h]
  dsimp only
  rw [modifyStation_eq, billSheet_eq x (by rw [State.station_setStation_self]; exact hj), setStation_setStation,
    State.station_setStation_self]

/-! ### A completed exit by station state (R109, R120, R126) -/

theorem completedExit_jobless (h : (s.station i).state ∈ [.disabled, .idle, .opening, .outOfService]) :
    s.completedExit i = s.setStation i { s.station i with
      strayExits := min ((s.station i).strayExits + 1) 65535
      alarms := { (s.station i).alarms with strayExit := true } } := by
  unfold State.completedExit
  split
  case h_1 | h_2 | h_3 | h_4 => simp_all
  all_goals rfl

theorem completedExit_active (h : (s.station i).state = .running ∨ (s.station i).state = .held) :
    s.completedExit i = (s.exitFromPath i).restartIdle i := by
  unfold State.completedExit
  rcases h with h | h <;> rw [h]

theorem completedExit_closing (h : (s.station i).state = .closing) : s.completedExit i = s.exitInClosing i := by
  unfold State.completedExit
  rw [h]

theorem completedExit_jammed (h : (s.station i).state = .jammed) : s.completedExit i = s.exitFromDisputed i := by
  unfold State.completedExit
  rw [h]

theorem idleAfter_other (hr : (s.station i).state ≠ .running) (hh : (s.station i).state ≠ .held) :
    s.idleAfter i j = j.idleTimer := if_neg (by simp [hr, hh])

/-- An exit that finds no sheet: a stray exit of the job, the idle timer restarted where it runs (R71, R111). -/
theorem completedExit_stray (hj : (s.station i).job = some j)
    (hs : (s.station i).state ∈ [.running, .held, .jammed])
    (h : (if (s.station i).state = .jammed then (s.station i).disputed else (s.station i).path) = []) :
    s.completedExit i = s.setStation i { s.station i with
      job := some { j with strayExits := min (j.strayExits + 1) 65535, idleTimer := s.idleAfter i j }
      alarms := { (s.station i).alarms with strayExit := true } } := by
  by_cases hx : (s.station i).state = .jammed
  · rw [if_pos hx] at h
    rw [completedExit_jammed hx, exitFromDisputed_empty h, strayExitOfJob_eq hj,
      idleAfter_other (by simp [hx]) (by simp [hx])]
  · rw [if_neg hx] at h
    have ha : (s.station i).state = .running ∨ (s.station i).state = .held := by simpa [hx] using hs
    rw [completedExit_active ha, exitFromPath_empty h, strayExitOfJob_eq hj,
      restartIdle_job (by rw [State.station_setStation_self]), setStation_setStation, State.station_setStation_self]
    unfold State.idleAfter
    rw [State.station_setStation_self]
    rfl

/-- An exit that leaves the job open bills the head of the path (R109, R120). -/
theorem completedExit_head (hj : (s.station i).job = some j) (h : (s.station i).path = x :: rest)
    (hs : (s.station i).state = .running ∨ (s.station i).state = .held ∨
      ((s.station i).state = .closing ∧ rest ≠ [])) :
    s.completedExit i =
      (s.setStation i { s.station i with
        path := rest, job := some { j.addBilled x with idleTimer := s.idleAfter i j } }).placeDisplay i
          (.charge (toCents j.accrued)) := by
  by_cases ha : (s.station i).state = .running ∨ (s.station i).state = .held
  · rw [completedExit_active ha, exitFromPath_head hj h,
      restartIdle_job (by rw [State.station_placeDisplay, State.station_setStation_self]),
      setStation_placeDisplay, setStation_setStation, State.station_placeDisplay, State.station_setStation_self]
    unfold State.idleAfter
    rw [State.station_placeDisplay, State.station_setStation_self]
    rfl
  · obtain ⟨hc, hrest⟩ : (s.station i).state = .closing ∧ rest ≠ [] := by tauto
    rw [completedExit_closing hc, idleAfter_other (by simp [hc]) (by simp [hc])]
    unfold State.exitInClosing
    rw [h, if_neg (by simpa using hrest), exitFromPath_head hj h]
    rfl

/-- An exit during a jam bills the head of the disputed list (R126). -/
theorem completedExit_disputed (hj : (s.station i).job = some j) (hs : (s.station i).state = .jammed)
    (h : (s.station i).disputed = x :: rest) :
    s.completedExit i =
      (s.setStation i { s.station i with
        disputed := rest, job := some { j.addBilled x with idleTimer := s.idleAfter i j } }).placeDisplay i
          (.charge (toCents j.accrued)) := by
  rw [completedExit_jammed hs, exitFromDisputed_head hj h, idleAfter_other (by simp [hs]) (by simp [hs])]
  rfl

/-- The exit that empties the path in CLOSING stops the drain timer and settles (R120, R122). -/
theorem completedExit_last (hj : (s.station i).job = some j) (hs : (s.station i).state = .closing)
    (h : (s.station i).path = [x]) :
    s.completedExit i =
      ((s.setStation i { s.station i with
        path := [], drainTimer := none
        job := some { j.addBilled x with idleTimer := s.idleAfter i j } }).placeDisplay i
          (.charge (toCents j.accrued))).settle i .idle := by
  rw [completedExit_closing hs, idleAfter_other (by simp [hs]) (by simp [hs])]
  unfold State.exitInClosing
  rw [h, if_pos (by rfl), exitFromPath_head hj h]
  unfold State.modifyStation
  rw [setStation_placeDisplay, setStation_setStation, State.station_placeDisplay, State.station_setStation_self]
  rfl

/-! ### The obligation -/

/-- Settles O48: in each state the exit is one station replaced, with CHARGE shown where a sheet is billed. -/
theorem completedExitByState : Obligations.CompletedExitByState := by
  refine fun s i => ⟨fun h => ?_, fun j hj restarted hrestarted => ?_⟩
  · rw [completedExit_jobless h]
    exact setStation_frame s i _
  obtain rfl : restarted = s.idleAfter i j := hrestarted
  refine ⟨fun hs h => ?_, fun x rest billedJob hb => ⟨fun hs h => ?_, fun hs h => ?_, fun hs h => ?_⟩⟩
  · rw [completedExit_stray hj hs h]
    exact setStation_frame s i _
  · rw [completedExit_head hj h hs, hb]
    exact setStation_placeDisplay_frame s i _ _
  · rw [completedExit_disputed hj hs h, hb]
    exact setStation_placeDisplay_frame s i _ _
  · obtain ⟨hkept, hothers, hreaders, hself, hshown⟩ := setStation_placeDisplay_frame s i
      { s.station i with
        path := [], drainTimer := none, job := some { j.addBilled x with idleTimer := s.idleAfter i j } }
      (.charge (toCents j.accrued))
    exact ⟨_, completedExit_last hj hs h, hkept, hothers, hreaders, hshown, hself.trans (by rw [hb]; rfl)⟩

end Sys2Proof.Machine
end

section
/-! SUPPORT. A completed feed by station state: the permit delay started, then an unauthorised or unpriced feed counted,
a path overflow, or a sheet priced, queued or billed, and the cover test that follows in RUNNING and HELD (O47). -/

namespace Sys2Proof.Machine

variable {s u q : State} {i : StationId} {j k : Job} {c : SheetClass} {x : Sheet}

/-! ### The permit delay (R114) -/

/-- The station whose permit delay a completed feed has started or restarted, under INTERLOCKED and PARTIAL. -/
def State.delayed (s : State) (i : StationId) : Station :=
  if (s.station i).config.permitMode = .level then s.station i
  else { s.station i with
    permitDelay := some
      (if (s.station i).config.tdSteps = 0 then 10 - s.subMs else (s.station i).config.tdSteps * 100) }

theorem startPermitDelay_eq (s : State) (i : StationId) : s.startPermitDelay i = s.setStation i (s.delayed i) := by
  have hms : (s.station i).config.tdSteps * 10 * Config.stepsPerMs = (s.station i).config.tdSteps * 100 := by
    unfold Config.stepsPerMs
    omega
  unfold State.startPermitDelay State.delayed
  split
  · next h => rw [if_pos h, setStation_station]
  · next h =>
    rw [if_neg h, ← hms]
    rfl

/-- Nothing but the delay itself is touched. -/
theorem delayed_eq (s : State) (i : StationId) :
    s.delayed i = { s.station i with permitDelay := (s.delayed i).permitDelay } := by
  unfold State.delayed
  split <;> rfl

/-- What a feed looks at in the delayed station is as it was. -/
theorem delayed_alike (s : State) (i : StationId) :
    (s.delayed i).unauthorisedFeeds = (s.station i).unauthorisedFeeds ∧
      (s.delayed i).alarms = (s.station i).alarms ∧ (s.delayed i).job = (s.station i).job ∧
      (s.delayed i).path = (s.station i).path ∧ (s.delayed i).disputed = (s.station i).disputed ∧
      (s.delayed i).config = (s.station i).config := by
  rw [delayed_eq]
  exact ⟨rfl, rfl, rfl, rfl, rfl, rfl⟩

/-! ### Feeds that price nothing (R110, R121, R127) -/

theorem unpricedFeed_eq (hj : (s.station i).job = some j) :
    s.unpricedFeed i = s.setStation i { s.station i with
      job := some { j with unpricedFeeds := min (j.unpricedFeeds + 1) 65535 } } := modifyJob_eq _ hj

theorem jamEntry_eq (cause : JamCause) (hj : (s.station i).job = some j) :
    s.jamEntry i cause =
      (s.setStation i { s.station i with
        state := .jammed, jamCause := some cause, drainTimer := none, path := []
        disputed := (s.station i).disputed ++ (s.station i).path
        jamTimer := some (s.globals.jamTimeout * 600000)
        alarms := { (s.station i).alarms with jamEntered := true }
        job := some { j with idleTimer := none, jams := min (j.jams + 1) 65535 } }).placeDisplay i
          (.jam ((s.station i).disputed ++ (s.station i).path).length) := by
  unfold State.jamEntry
  dsimp only
  rw [modifyJob_eq (j := j) _ (by rw [State.station_modifyStation_self]; exact hj), State.station_setStation_self,
    State.station_modifyStation_self]
  unfold State.modifyStation
  rw [setStation_setStation]
  rfl

theorem pathOverflow_eq (hj : (s.station i).job = some j) :
    s.pathOverflow i =
      (s.setStation i { s.station i with
        state := .jammed, jamCause := some .pathOverflow, drainTimer := none, path := []
        disputed := (s.station i).disputed ++ (s.station i).path
        jamTimer := some (s.globals.jamTimeout * 600000)
        alarms := { (s.station i).alarms with pathOverflow := true, jamEntered := true }
        job := some { j with
          unpricedFeeds := min (j.unpricedFeeds + 1) 65535, idleTimer := none
          jams := min (j.jams + 1) 65535 } }).placeDisplay i
            (.jam ((s.station i).disputed ++ (s.station i).path).length) := by
  unfold State.pathOverflow State.modifyAlarms
  dsimp only
  rw [unpricedFeed_eq hj, modifyStation_setStation, jamEntry_eq _ (by rw [State.station_setStation_self]),
    setStation_setStation, State.station_setStation_self]
  rfl

theorem pathIsFull_iff (st : Station) :
    st.pathIsFull = true ↔ st.config.countMode = .tracked ∧ 8 ≤ st.path.length + st.disputed.length := by
  unfold Station.pathIsFull
  rw [Bool.and_eq_true, beq_iff_eq, decide_eq_true_iff]
  rfl

/-! ### A feed by station state (Table 5-4) -/

theorem completedFeed_jobless (h : (s.station i).state ∈ [.disabled, .idle, .opening, .outOfService]) :
    s.completedFeed i = (s.setStation i (s.delayed i)).unauthorisedFeed i := by
  unfold State.completedFeed
  rw [startPermitDelay_eq]
  dsimp only
  split
  case h_1 | h_2 | h_3 | h_4 => rfl
  all_goals simp_all

theorem completedFeed_jammed (h : (s.station i).state = .jammed) :
    s.completedFeed i = (s.setStation i (s.delayed i)).unpricedFeed i := by
  unfold State.completedFeed
  rw [startPermitDelay_eq, h]

theorem completedFeed_open (h : (s.station i).state ∈ [.running, .held, .closing]) :
    s.completedFeed i = (s.setStation i (s.delayed i)).feedWithJob i := by
  unfold State.completedFeed
  rw [startPermitDelay_eq]
  dsimp only
  split
  case h_5 | h_6 | h_7 => rfl
  all_goals simp_all

/-! ### A sheet priced, queued or billed (R107) -/

/-- What a pricing does to the accounts does not depend on the stations. -/
theorem accounts_priceSheet_setStation (s : State) (i : StationId) (st : Station) (j : Job) (c : SheetClass) :
    ((s.setStation i st).priceSheet i j c).accounts = (s.priceSheet i j c).accounts := by
  have hsheet : (s.setStation i st).pricedSheet j c = s.pricedSheet j c := rfl
  unfold State.priceSheet State.forceHold State.raiseHold
  rw [hsheet]
  dsimp only
  split_ifs <;> rfl

variable {st : Station} {d : Timer}

theorem state_of_delayed (hst : s.station i = { st with permitDelay := d }) : (s.station i).state = st.state := by
  rw [hst]

/-- In TRACKED mode the sheet joins the path (R108). -/
theorem queueOrBill_tracked (hst : s.station i = { st with permitDelay := d })
    (hm : st.config.countMode = .tracked) (hj : st.job = some j) :
    (s.queueOrBill i x).restartIdle i = s.setStation i { st with
      permitDelay := d, path := st.path ++ [x], job := some { j with idleTimer := s.idleAfter i j } } := by
  have hq : s.queueOrBill i x = s.setStation i { st with permitDelay := d, path := st.path ++ [x] } := by
    unfold State.queueOrBill State.modifyStation
    rw [hst]
    dsimp only
    rw [hm]
  rw [hq, restartIdle_job (j := j) (by rw [State.station_setStation_self]; exact hj), setStation_setStation,
    State.station_setStation_self]
  unfold State.idleAfter
  rw [State.station_setStation_self, hst]
  rfl

/-- In the other modes it is billed at once (R108). -/
theorem queueOrBill_untracked (hst : s.station i = { st with permitDelay := d })
    (hm : st.config.countMode ≠ .tracked) (hj : st.job = some j) :
    (s.queueOrBill i x).restartIdle i =
      (s.setStation i { st with
        permitDelay := d, job := some { j.addBilled x with idleTimer := s.idleAfter i j } }).placeDisplay i
          (.charge (toCents j.accrued)) := by
  have hq : s.queueOrBill i x = s.billSheet i x := by
    rcases queueOrBill_cases s i x with ⟨h, -⟩ | ⟨-, h⟩
    · exact absurd (by rw [hst] at h; exact h) hm
    · exact h
  rw [hq, billSheet_eq x (by rw [hst]; exact hj),
    restartIdle_job (by rw [State.station_placeDisplay, State.station_setStation_self]),
    setStation_placeDisplay, setStation_setStation, State.station_placeDisplay, State.station_setStation_self]
  unfold State.idleAfter
  rw [State.station_placeDisplay, State.station_setStation_self, hst]
  rfl

/-! ### The cover test after a pricing (R59, R62, R64) -/

theorem enterHeld_eq (hj : (s.station i).job = some j) :
    s.enterHeld i =
      (s.setStation i { s.station i with state := .held }).placeDisplay i
        (.stoppedNoCredit (toCents j.headroom)) := by
  have hleft : ((s.station i).job.map fun j => toCents j.headroom).getD 0 = toCents j.headroom := by
    rw [hj, Option.map_some, Option.getD_some]
  unfold State.enterHeld State.placeStopped
  rw [State.station_enter_self]
  dsimp only
  rw [hleft]
  rfl

theorem coverAfterPricing_closing (h : (s.station i).state = .closing) : s.coverAfterPricing i = s := by
  unfold State.coverAfterPricing
  rw [h]

theorem coverAfterPricing_running (h : (s.station i).state = .running) (hc : (s.coverTest i).2 = true) :
    s.coverAfterPricing i = (s.coverTest i).1 := by
  unfold State.coverAfterPricing
  rw [h]
  exact if_pos hc

theorem coverAfterPricing_held (h : (s.station i).state = .held) (hc : (s.coverTest i).2 = true) :
    s.coverAfterPricing i = (s.coverTest i).1.enterRunning i := by
  unfold State.coverAfterPricing
  rw [h]
  exact if_pos hc

/-- A job that is not covered stops its station, or leaves it HELD, with STOPPED_NO_CREDIT either way. -/
theorem coverAfterPricing_failed (h : (s.station i).state = .running ∨ (s.station i).state = .held)
    (hc : (s.coverTest i).2 = false) : s.coverAfterPricing i = s.enterHeld i := by
  unfold State.coverAfterPricing
  rcases h with h | h <;> rw [h] <;> dsimp only <;> rw [coverTest_failed hc, hc, if_neg (by decide)]
  have hsame : s.enter i .held = s := by
    show s.setStation i { s.station i with state := .held } = s
    rw [← h, setStation_station]
  unfold State.enterHeld
  rw [hsame]

/-- HELD goes on in RUNNING with CHARGE, on what the cover test left (R64). -/
theorem enterRunning_frame (s : State) (hj : (s.station i).job = some j) :
    KeepsAllBut [.stations, .readers] (s.coverTest i).1 ((s.coverTest i).1.enterRunning i) ∧
      KeepsOtherStations i s ((s.coverTest i).1.enterRunning i) ∧
      KeepsOtherReaders i s ((s.coverTest i).1.enterRunning i) ∧
      ((s.coverTest i).1.enterRunning i).station i = { (s.coverTest i).1.station i with state := .running } ∧
      ShownOn i (.charge (toCents j.accrued)) s ((s.coverTest i).1.enterRunning i) := by
  obtain ⟨hself, hshown⟩ := enterRunning_covered s hj
  obtain ⟨hkept, hothers, hreaders, -⟩ := setStation_placeDisplay_frame (s.coverTest i).1 i
    { (s.coverTest i).1.station i with state := .running } (.charge _)
  exact ⟨hkept, fun k hk => (hothers k hk).trans (congrArg _ (station_coverTest_other s hk)),
    fun k hk => (hreaders k hk).trans (reader_coverTest s i k), hself, hshown⟩

theorem reader_setStation (s : State) (i : StationId) (st : Station) (n : StationId) :
    (s.setStation i st).reader n = s.reader n := rfl

theorem state_queueOrBill (s : State) (i : StationId) (x : Sheet) :
    ((s.queueOrBill i x).station i).state = (s.station i).state := by
  rcases queueOrBill_cases s i x with ⟨-, h⟩ | ⟨-, h⟩ <;> rw [h]
  · rw [State.station_modifyStation_self]
  · unfold State.billSheet State.placeCharge
    rw [State.station_placeDisplay, State.station_modifyJob_self]

/-! ### A pricing after the permit delay is started -/

/-- The state once the permit delay is started and the sheet priced. -/
def State.delayedPricing (s : State) (i : StationId) (j : Job) (c : SheetClass) : State :=
  (s.setStation i (s.delayed i)).priceSheet i j c

theorem delayedPricing_frame (s : State) (i : StationId) (j : Job) (c : SheetClass) :
    KeepsAllBut [.accounts, .stations] s (s.delayedPricing i j c) ∧
      KeepsOtherStations i s (s.delayedPricing i j c) ∧
      (s.delayedPricing i j c).accounts = (s.priceSheet i j c).accounts := by
  obtain ⟨hkept, hothers, -⟩ := setStation_frame s i (s.delayed i)
  obtain ⟨hpriced, hapart⟩ := priceSheet_frame (s.setStation i (s.delayed i)) i j c
  exact ⟨keepsAllBut_trans (keepsAllBut_mono hkept (by decide)) hpriced, keepsOtherStations_trans hothers hapart,
    accounts_priceSheet_setStation s i _ j c⟩

theorem station_delayedPricing (hj : (s.station i).job = some j) :
    (s.delayedPricing i j c).station i =
      { (s.priceSheet i j c).station i with permitDelay := (s.delayed i).permitDelay } := by
  have hsheet : (s.setStation i (s.delayed i)).pricedSheet j c = s.pricedSheet j c := rfl
  have hself : (s.setStation i (s.delayed i)).station i =
      { s.station i with permitDelay := (s.delayed i).permitDelay } :=
    (State.station_setStation_self s i _).trans (delayed_eq s i)
  unfold State.delayedPricing
  rw [station_priceSheet _ i j c (by rw [hself]; exact hj), station_priceSheet s i j c hj, hself, hsheet]

/-- A pricing leaves the state, the configuration and the path of its station. -/
theorem priceSheet_alike (c : SheetClass) (hj : (s.station i).job = some j) :
    ((s.priceSheet i j c).station i).state = (s.station i).state ∧
      ((s.priceSheet i j c).station i).config = (s.station i).config ∧
      ((s.priceSheet i j c).station i).path = (s.station i).path := by
  rw [station_priceSheet s i j c hj]
  exact ⟨rfl, rfl, rfl⟩

/-- The idle timer of a job whose feed is priced: as it was in CLOSING, restarted in RUNNING and HELD. -/
theorem idleAfter_delayedPricing (c : SheetClass) (hj : (s.station i).job = some j)
    (hs : (s.station i).state ∈ [.running, .held, .closing]) :
    (s.delayedPricing i j c).idleAfter i k =
      if (s.station i).state = .closing then k.idleTimer else some (s.globals.idleTimeout * 10000) := by
  have hglobals : (s.delayedPricing i j c).globals = s.globals :=
    (delayedPricing_frame s i j c).1 .globals (by decide)
  have hstate : ((s.delayedPricing i j c).station i).state = (s.station i).state :=
    (state_of_delayed (station_delayedPricing hj)).trans (priceSheet_alike c hj).1
  unfold State.idleAfter
  rw [hstate, hglobals]
  simp only [List.mem_cons, List.not_mem_nil, or_false] at hs
  rcases hs with h | h | h <;> rw [h] <;> rfl

/-- The state before the cover test. -/
def State.beforeCover (s : State) (i : StationId) (j : Job) (c : SheetClass) : State :=
  ((s.delayedPricing i j c).queueOrBill i (s.pricedSheet j c)).restartIdle i

theorem beforeCover_tracked (hm : (s.station i).config.countMode = .tracked) (hj : (s.station i).job = some j)
    (hk : ((s.priceSheet i j c).station i).job = some k) :
    s.beforeCover i j c = (s.delayedPricing i j c).setStation i { (s.priceSheet i j c).station i with
      permitDelay := (s.delayed i).permitDelay, path := (s.station i).path ++ [s.pricedSheet j c]
      job := some { k with idleTimer := (s.delayedPricing i j c).idleAfter i k } } := by
  obtain ⟨-, hconfig, hpath⟩ := priceSheet_alike c hj
  rw [← hpath]
  exact queueOrBill_tracked (station_delayedPricing hj) (by rw [hconfig]; exact hm) hk

theorem beforeCover_untracked (hm : (s.station i).config.countMode ≠ .tracked) (hj : (s.station i).job = some j)
    (hk : ((s.priceSheet i j c).station i).job = some k) :
    s.beforeCover i j c =
      ((s.delayedPricing i j c).setStation i { (s.priceSheet i j c).station i with
        permitDelay := (s.delayed i).permitDelay
        job := some
          { k.addBilled (s.pricedSheet j c) with
            idleTimer := (s.delayedPricing i j c).idleAfter i k } }).placeDisplay i (.charge (toCents k.accrued)) := by
  obtain ⟨-, hconfig, -⟩ := priceSheet_alike c hj
  exact queueOrBill_untracked (station_delayedPricing hj) (by rw [hconfig]; exact hm) hk

theorem completedFeed_priced (hj : (s.station i).job = some j)
    (hs : (s.station i).state ∈ [.running, .held, .closing]) (hf : (s.station i).pathIsFull = false) :
    s.completedFeed i = (s.beforeCover i j (s.station i).sheetClass).coverAfterPricing i := by
  have hself : (s.setStation i (s.delayed i)).station i =
      { s.station i with permitDelay := (s.delayed i).permitDelay } :=
    (State.station_setStation_self s i _).trans (delayed_eq s i)
  rw [completedFeed_open hs]
  unfold State.feedWithJob
  rw [hself, if_neg (by rw [Bool.not_eq_true]; exact hf)]
  unfold State.pricingRequest
  rw [hself]
  dsimp only
  rw [hj]
  rfl

/-- What the pricing leaves when the sheet is in the path or billed: the frame, the table and the display. -/
theorem beforeCover_frame (hj : (s.station i).job = some j)
    (hk : ((s.priceSheet i j c).station i).job = some k) :
    KeepsAllBut [.accounts, .stations, .readers] s (s.beforeCover i j c) ∧
      KeepsOtherStations i s (s.beforeCover i j c) ∧ KeepsOtherReaders i s (s.beforeCover i j c) ∧
      (s.beforeCover i j c).accounts = (s.priceSheet i j c).accounts ∧
      ((s.station i).config.countMode = .tracked → (s.beforeCover i j c).reader i = s.reader i) ∧
      ((s.station i).config.countMode ≠ .tracked →
        ShownOn i (.charge (toCents k.accrued)) s (s.beforeCover i j c)) := by
  obtain ⟨hkept, hothers, haccounts⟩ := delayedPricing_frame s i j c
  have hreaders : ∀ n, (s.delayedPricing i j c).reader n = s.reader n := hkept .readers (by decide)
  have hbus : (s.delayedPricing i j c).bus = s.bus := hkept .bus (by decide)
  have hwide := keepsAllBut_mono hkept (qs := [.accounts, .stations, .readers]) (by decide)
  by_cases hm : (s.station i).config.countMode = .tracked
  · rw [beforeCover_tracked hm hj hk]
    obtain ⟨hq, hapart, -⟩ := setStation_frame (s.delayedPricing i j c) i _
    exact ⟨keepsAllBut_trans hwide (keepsAllBut_mono hq (by decide)), keepsOtherStations_trans hothers hapart,
      fun n _ => (reader_setStation _ i _ n).trans (hreaders n),
      (State.setStation_accounts _ i _).trans haccounts,
      fun _ => (reader_setStation _ i _ i).trans (hreaders i), fun h => absurd hm h⟩
  · rw [beforeCover_untracked hm hj hk]
    obtain ⟨hq, hapart, hsilent, -⟩ := setStation_placeDisplay_frame (s.delayedPricing i j c) i _ _
    exact ⟨keepsAllBut_trans hwide (keepsAllBut_mono hq (by decide)), keepsOtherStations_trans hothers hapart,
      fun n hn => (hsilent n hn).trans (hreaders n),
      (State.placeDisplay_accounts _ i _).trans ((State.setStation_accounts _ i _).trans haccounts),
      fun h => absurd h hm, fun _ => shownOn_placeDisplay rfl ((reader_setStation _ i _ i).trans (hreaders i))
        ((State.setStation_bus _ i _).trans hbus)⟩

theorem figures_idleTimer (j : Job) (d : Timer) :
    ({ j with idleTimer := d } : Job).accrued = j.accrued ∧
      ({ j with idleTimer := d } : Job).headroom = j.headroom := ⟨rfl, rfl⟩

/-- The job before the cover test has the figures that the test and the displays look at as the pricing left them. -/
theorem beforeCover_job (hj : (s.station i).job = some j) (hk : ((s.priceSheet i j c).station i).job = some k) :
    ∃ m, ((s.beforeCover i j c).station i).job = some m ∧ m.accrued = k.accrued ∧ m.headroom = k.headroom := by
  by_cases hm : (s.station i).config.countMode = .tracked
  · rw [beforeCover_tracked hm hj hk, State.station_setStation_self]
    exact ⟨_, rfl, figures_idleTimer k _⟩
  · rw [beforeCover_untracked hm hj hk, State.station_placeDisplay, State.station_setStation_self]
    exact ⟨_, rfl, figures_idleTimer (k.addBilled _) _⟩

theorem state_beforeCover (hj : (s.station i).job = some j) :
    ((s.beforeCover i j c).station i).state = (s.station i).state := by
  unfold State.beforeCover
  rw [state_restartIdle, state_queueOrBill, state_of_delayed (station_delayedPricing hj)]
  exact (priceSheet_alike c hj).1

/-- What becomes of the state before the cover test, by the state of the station and the outcome of the test. -/
theorem coverAfterPricing_facts {m : Job} (hm : (q.station i).job = some m)
    (hs : (q.station i).state ∈ [.running, .held, .closing]) :
    ((q.station i).state = .closing → q.coverAfterPricing i = q) ∧
      ((q.station i).state = .running → (q.coverTest i).2 = true → q.coverAfterPricing i = (q.coverTest i).1) ∧
      ((q.station i).state = .held → (q.coverTest i).2 = true →
        KeepsAllBut [.stations, .readers] (q.coverTest i).1 (q.coverAfterPricing i) ∧
          KeepsOtherStations i q (q.coverAfterPricing i) ∧ KeepsOtherReaders i q (q.coverAfterPricing i) ∧
          (q.coverAfterPricing i).station i = { (q.coverTest i).1.station i with state := .running } ∧
          ShownOn i (.charge (toCents m.accrued)) q (q.coverAfterPricing i)) ∧
      ((q.station i).state ≠ .closing → (q.coverTest i).2 = false →
        KeepsAllBut [.stations, .readers] q (q.coverAfterPricing i) ∧
          KeepsOtherStations i q (q.coverAfterPricing i) ∧ KeepsOtherReaders i q (q.coverAfterPricing i) ∧
          (q.coverAfterPricing i).station i = { q.station i with state := .held } ∧
          ShownOn i (.stoppedNoCredit (toCents m.headroom)) q (q.coverAfterPricing i)) := by
  refine ⟨coverAfterPricing_closing, coverAfterPricing_running, fun h hc => ?_, fun h hc => ?_⟩
  · rw [coverAfterPricing_held h hc]
    exact enterRunning_frame q hm
  · have hactive : (q.station i).state = .running ∨ (q.station i).state = .held := by simpa [h] using hs
    rw [coverAfterPricing_failed hactive hc, enterHeld_eq hm]
    exact setStation_placeDisplay_frame q i _ _

/-! ### The obligation -/

theorem addBilled_idleTimer (j : Job) (x : Sheet) (d : Timer) :
    { j.addBilled x with idleTimer := d } =
      { j with
        billed := j.billed.set x.cls.index (min (j.billed[x.cls.index] + 1) 4294967295)
        billedImpressions := min (j.billedImpressions + x.impressions) 4294967295, idleTimer := d } := rfl

theorem completedFeed_unauthorised (h : (s.station i).state ∈ [.disabled, .idle, .opening, .outOfService]) :
    s.completedFeed i = s.setStation i { s.delayed i with
      unauthorisedFeeds := min ((s.station i).unauthorisedFeeds + 1) 65535
      alarms := { (s.station i).alarms with unauthorisedFeed := true } } := by
  obtain ⟨hfeeds, halarms, -⟩ := delayed_alike s i
  rw [completedFeed_jobless h, ← hfeeds, ← halarms]
  exact modifyStation_setStation s i _ _

theorem completedFeed_unpriced (hj : (s.station i).job = some j) (h : (s.station i).state = .jammed) :
    s.completedFeed i = s.setStation i { s.delayed i with
      job := some { j with unpricedFeeds := min (j.unpricedFeeds + 1) 65535 } } := by
  obtain ⟨-, -, hjob, -⟩ := delayed_alike s i
  rw [completedFeed_jammed h, unpricedFeed_eq (by rw [State.station_setStation_self, hjob]; exact hj),
    setStation_setStation, State.station_setStation_self]

theorem completedFeed_overflow (hj : (s.station i).job = some j)
    (hs : (s.station i).state ∈ [.running, .held, .closing]) (hf : (s.station i).pathIsFull = true) :
    s.completedFeed i =
      (s.setStation i { s.delayed i with
        state := .jammed, jamCause := some .pathOverflow, drainTimer := none, path := []
        disputed := (s.station i).disputed ++ (s.station i).path
        jamTimer := some (s.globals.jamTimeout * 600000)
        alarms := { (s.station i).alarms with pathOverflow := true, jamEntered := true }
        job := some { j with
          unpricedFeeds := min (j.unpricedFeeds + 1) 65535, idleTimer := none
          jams := min (j.jams + 1) 65535 } }).placeDisplay i
            (.jam ((s.station i).disputed ++ (s.station i).path).length) := by
  obtain ⟨-, halarms, hjob, hpath, hdisputed, hconfig⟩ := delayed_alike s i
  have hfull : (s.delayed i).pathIsFull = true := by
    rw [pathIsFull_iff] at hf ⊢
    rw [hconfig, hpath, hdisputed]
    exact hf
  rw [completedFeed_open hs]
  unfold State.feedWithJob
  rw [State.station_setStation_self, if_pos hfull,
    pathOverflow_eq (by rw [State.station_setStation_self, hjob]; exact hj), setStation_setStation,
    State.station_setStation_self, halarms, hpath, hdisputed]
  rfl

/-- Settles O47: each state's feed as one station replaced; a priced one by the state before the cover test. -/
theorem completedFeedByState : Obligations.CompletedFeedByState := by
  intro s i delayed hdelayed
  obtain rfl : delayed = s.delayed i := hdelayed
  refine ⟨fun h => ?_, fun j hj => ⟨fun h => ?_, fun hs => ⟨fun hm hfull => ?_,
    fun hroom priced x k restarted hpriced hx hk hrestarted => ?_⟩⟩⟩
  · rw [completedFeed_unauthorised h]
    exact setStation_frame s i _
  · rw [completedFeed_unpriced hj h]
    exact setStation_frame s i _
  · rw [completedFeed_overflow hj hs ((pathIsFull_iff _).2 ⟨hm, hfull⟩)]
    exact setStation_placeDisplay_frame s i _ _
  · have hfree : (s.station i).pathIsFull = false := by
      rw [← Bool.not_eq_true, pathIsFull_iff]
      rintro ⟨hm, hfull⟩
      rcases hroom with h | h
      · exact h hm
      · omega
    subst hpriced hx
    obtain ⟨hkept, hothers, hreaders, haccounts, hsilent, hcharge⟩ := beforeCover_frame hj hk
    obtain ⟨m, hm, haccrued, hheadroom⟩ := beforeCover_job hj hk
    have hidle := (idleAfter_delayedPricing (k := k) (s.station i).sheetClass hj hs).trans hrestarted.symm
    have hstate := state_beforeCover (c := (s.station i).sheetClass) hj
    obtain ⟨hclosing, hrunning, hheld, hfailed⟩ := coverAfterPricing_facts hm (by rw [hstate]; exact hs)
    rw [hstate, ← completedFeed_priced hj hs hfree] at hclosing hrunning hheld hfailed
    rw [haccrued] at hheld
    rw [hheadroom] at hfailed
    refine ⟨_, hkept, hothers, hreaders, haccounts, fun h => ⟨hsilent h, ?_⟩, fun h => ⟨hcharge h, ?_⟩,
      hclosing, hrunning, hheld, hfailed⟩
    · rw [beforeCover_tracked h hj hk, State.station_setStation_self, hidle]
    · rw [beforeCover_untracked h hj hk, State.station_placeDisplay, State.station_setStation_self, hidle,
        addBilled_idleTimer]

end Sys2Proof.Machine
end

section
/-! SUPPORT. The sheets of a station voided as one state, a display that another takes the place of, and a settlement
made of the state that the voids left (O40, O41, O49, O50). -/

namespace Sys2Proof.Machine

variable {s m v : State} {i : StationId} {j k : Job} {dest : StationState} {f : Station → Station}

/-! ### A display in place of another (R155) -/

theorem placeDisplay_placeDisplay (s : State) (i : StationId) (d e : Display) :
    (s.placeDisplay i d).placeDisplay i e = s.placeDisplay i e := by
  unfold State.placeDisplay
  show ({ s with readers := _ } : State) = { s with readers := _ }
  rw [State.reader_modifyReader_self]
  unfold State.modifyReader
  simp

/-- What is shown counts from any earlier state with the same reader and bus. -/
theorem shownOn_of_before {t : State} {d : Display} (h : ShownOn i d m t) (hr : m.reader i = s.reader i)
    (hb : m.bus = s.bus) : ShownOn i d s t := by
  unfold ShownOn at h ⊢
  rw [h, hr, hb]

/-- A cover test neither looks at displays nor changes one. -/
theorem coverTest_placeDisplay (s : State) (i : StationId) (d : Display) :
    (s.placeDisplay i d).coverTest i = ((s.coverTest i).1.placeDisplay i d, (s.coverTest i).2) := by
  have hraise : ∀ (j : Job) (c : Nat),
      (s.placeDisplay i d).raiseHold i j c = (s.raiseHold i j c).placeDisplay i d := by
    intro j c
    unfold State.raiseHold
    dsimp only
    split <;> rfl
  have hgrant : ∀ j, (s.placeDisplay i d).grantFor j = s.grantFor j := fun _ => rfl
  unfold State.coverTest
  rw [State.station_placeDisplay]
  cases (s.station i).job with
  | none => rfl
  | some j =>
    dsimp only
    rw [hraise, hgrant]
    split_ifs <;> rfl

theorem closeAccount_placeDisplay (s : State) (i : StationId) (d : Display) (c n : Nat) :
    (s.placeDisplay i d).closeAccount c n = (s.closeAccount c n).placeDisplay i d := by
  have hsame : (s.placeDisplay i d).account n = s.account n := rfl
  have hremoved : (s.placeDisplay i d).removeAccount n = (s.removeAccount n).placeDisplay i d := by
    unfold State.removeAccount
    rw [hsame]
    cases s.account n with
    | none => rfl
    | some a =>
      unfold State.leavePayer
      dsimp only
      split <;> rfl
  unfold State.closeAccount
  rw [hsame, hremoved]
  cases s.account n with
  | none => rfl
  | some a =>
    dsimp only
    split_ifs <;> rfl

/-- GOODBYE takes the place of whatever the station showed before it settled (R76). -/
theorem settle_placeDisplay (s : State) (i : StationId) (d : Display) (hj : (s.station i).job = some j) :
    (s.placeDisplay i d).settle i dest = s.settle i dest := by
  have hmoney : (s.placeDisplay i d).settleMoney j = (s.settleMoney j).placeDisplay i d := by
    unfold State.settleMoney
    dsimp only
    split <;> rfl
  have hperiod : ∀ u : State, (u.placeDisplay i d).settlePeriod j = (u.settlePeriod j).placeDisplay i d := by
    intro u
    unfold State.settlePeriod
    dsimp only
    split <;> rfl
  have hstation : ∀ (u : State) (f : Station → Station),
      (u.placeDisplay i d).modifyStation i f = (u.modifyStation i f).placeDisplay i d := fun _ _ => rfl
  have haccount : ∀ (u : State) (n : Nat), (u.placeDisplay i d).account n = u.account n := fun _ _ => rfl
  have hjob : (s.placeDisplay i d).settleJob i dest j = s.settleJob i dest j := by
    unfold State.settleJob
    dsimp only
    rw [hmoney, hperiod, haccount, hstation, closeAccount_placeDisplay]
    split_ifs
    · rw [placeDisplay_placeDisplay]
    · rw [closeAccount_placeDisplay, placeDisplay_placeDisplay]
  rw [settle_eq hj, settle_eq (by rw [State.station_placeDisplay]; exact hj), hjob]

/-! ### A run of voids (R48, R52) -/

/-- The job `k` is `j` once these sheets are voided: the amounts out of accrued, sheets and impressions counted. -/
def Job.Voided (j : Job) (xs : List Sheet) (k : Job) : Prop :=
  k.accrued = xs.foldl (fun acc x => acc - x.amount) j.accrued ∧
    k = { j with
      accrued := k.accrued, voidedSheets := k.voidedSheets, voidedImpressions := k.voidedImpressions } ∧
    (j.voidedSheets + xs.length ≤ 4294967295 → k.voidedSheets = j.voidedSheets + xs.length) ∧
    (j.voidedImpressions + (xs.map Sheet.impressions).sum ≤ 4294967295 →
      k.voidedImpressions = j.voidedImpressions + (xs.map Sheet.impressions).sum)

/-- What the voids of a station's sheets leave: its job so voided, and everything but accounts and stations. -/
theorem voidSheets_job (hj : (s.station i).job = some j) (xs : List Sheet)
    (hv : v = xs.foldl (State.voidSheet i) s) :
    v.board = s.board ∧ KeepsAllBut [.accounts, .stations] s v ∧ KeepsOtherStations i s v ∧
      ∃ k, v.station i = { s.station i with job := some k } ∧ j.Voided xs k := by
  subst hv
  obtain ⟨a, w, hstation, hsheets, himpressions, hkept, hothers⟩ := voidSheets_facts i xs s j hj
  exact ⟨board_foldl _ (fun s x => board_voidSheet s i x) xs s, hkept, hothers, _, hstation, rfl, rfl, hsheets,
    himpressions⟩

/-- This change of a station neither looks at its job nor replaces it. -/
def SparesJob (f : Station → Station) : Prop := ∀ st q, f { st with job := q } = { f st with job := q }

theorem SparesJob.job (hf : SparesJob f) (st : Station) : (f st).job = st.job := by
  have h := congrArg Station.job (hf st st.job)
  exact h

theorem modifyJob_modifyStation (hf : SparesJob f) (s : State) (g : Job → Job) :
    (s.modifyStation i f).modifyJob i g = (s.modifyJob i g).modifyStation i f := by
  have h := hf (s.station i) ((s.station i).job.map g)
  unfold State.modifyJob
  rw [modifyStation_eq s, modifyStation_eq s, modifyStation_setStation, modifyStation_setStation, h, hf.job]

theorem voidSheet_modifyStation (hf : SparesJob f) (s : State)
    (x : Sheet) :
    State.voidSheet i (s.modifyStation i f) x = (State.voidSheet i s x).modifyStation i f := by
  have hjob : ((s.modifyStation i f).station i).job = (s.station i).job :=
    (congrArg Station.job (State.station_modifyStation_self s i f)).trans (hf.job _)
  cases h : (s.station i).job with
  | none =>
    unfold State.voidSheet
    rw [hjob, h]
  | some j =>
    rw [voidSheet_eq h, voidSheet_eq (hjob.trans h), ← modifyJob_modifyStation hf]
    rfl

theorem voidSheets_modifyStation (hf : SparesJob f) (xs : List Sheet)
    (s : State) :
    xs.foldl (State.voidSheet i) (s.modifyStation i f) = (xs.foldl (State.voidSheet i) s).modifyStation i f := by
  induction xs generalizing s with
  | nil => rfl
  | cons x xs ih => rw [List.foldl_cons, List.foldl_cons, voidSheet_modifyStation hf, ih]

/-- What a run of voids and a change of other station fields leave of `s`: the job so voided, the station so changed,
and everything but accounts and stations. -/
theorem voidSheets_modifyStation_facts (hf : SparesJob f) (hj : (s.station i).job = some j) {xs : List Sheet}
    (hv : v = xs.foldl (State.voidSheet i) s) :
    (v.modifyStation i f).board = s.board ∧ KeepsAllBut [.accounts, .stations] s (v.modifyStation i f) ∧
      KeepsOtherStations i s (v.modifyStation i f) ∧
      ∃ k, (v.station i).job = some k ∧ j.Voided xs k ∧
        (v.modifyStation i f).station i = { f (s.station i) with job := some k } := by
  obtain ⟨hboard, hkept, hothers, k, hk, hvoided⟩ := voidSheets_job hj xs hv
  exact ⟨hboard, keepsAllBut_trans hkept (keepsAllBut_mono (keepsAllBut_modifyStation v i f) (by decide)),
    keepsOtherStations_trans hothers (keepsOtherStations_modifyStation v i f), k, by rw [hk], hvoided, by
      rw [State.station_modifyStation_self, hk]; exact hf (s.station i) (some k)⟩

theorem Job.Voided.endRequest {xs : List Sheet} (h : j.Voided xs k) : k.endRequest = j.endRequest := by
  obtain ⟨-, hfields, -⟩ := h
  rw [hfields]

/-- The same with an end cause recorded unless one stands (R68). -/
theorem voidSheets_recordEnd_facts (c : EndCause) (hf : SparesJob f) (hj : (s.station i).job = some j) {xs : List Sheet}
    (hv : v = xs.foldl (State.voidSheet i) s) (hm : m = (v.modifyStation i f).recordEnd i c) :
    ∃ k, (v.station i).job = some k ∧ j.Voided xs k ∧
      m = v.setStation i
        { f (v.station i) with job := some { k with endRequest := some (j.endRequest.getD c) } } ∧
      m.board = s.board ∧ KeepsAllBut [.accounts, .stations] s m ∧
      m.station i =
        { f (s.station i) with job := some { k with endRequest := some (j.endRequest.getD c) } } := by
  obtain ⟨hboard, hkept, -, k, hk, hvoided, hstation⟩ := voidSheets_modifyStation_facts hf hj hv
  have hset := recordEnd_eq c (s := v.modifyStation i f) (i := i) (j := k) (by rw [hstation])
  rw [← hm, hvoided.endRequest] at hset
  refine ⟨k, hk, hvoided, ?_, by rw [hm, board_recordEnd, hboard], ?_, ?_⟩
  · rw [hset, modifyStation_eq, setStation_setStation, State.station_setStation_self]
  · rw [hm]
    exact keepsAllBut_trans hkept (keepsAllBut_mono (keepsAllBut_modifyStation _ i _) (by decide))
  · rw [hset, State.station_setStation_self, hstation]

/-! ### A settlement after voids (R73 to R77) -/

/-- The settlement of the job `k` of a state that differs from `s` in accounts and stations. -/
theorem settle_after (hb : m.board = s.board) (hm : KeepsAllBut [.accounts, .stations] s m)
    (hk : (m.station i).job = some k) (hd : dest ≠ .held) :
    (m.settle i dest).board = s.board ∧
      KeepsAllBut [.accounts, .tokens, .stations, .readers] s (m.settle i dest) ∧
      ShownOn i (.goodbye (settlementCharge k).1) s (m.settle i dest) ∧
      ∃ balanceAfter, (m.settle i dest).station i =
        { m.station i with
          state := dest, sessionToken := none, job := none, lastJob := some (k.lastRecord balanceAfter) } := by
  obtain ⟨hsettled, hshown, hstation⟩ := settle_facts m i dest k hk hd
  exact ⟨(board_settle m i dest).trans hb, keepsAllBut_trans (keepsAllBut_mono hm (by decide)) hsettled,
    shownOn_of_before hshown (hm .readers (by decide) i) (hm .bus (by decide)), hstation⟩

/-- What a command reports of a station that has settled into IDLE. -/
theorem settled_results (hk : (m.station i).job = some k) :
    (m.settle i .idle).stateByte i = [1#8] ∧ (m.settle i .idle).lastCharge i = beCents (settlementCharge k).1 ∧
      ((m.settle i .idle).station i).job = none := by
  obtain ⟨-, -, b, hstation⟩ := settle_facts m i .idle k hk (by decide)
  unfold State.stateByte State.lastCharge
  rw [hstation]
  exact ⟨rfl, rfl, rfl⟩

theorem count_byte {n : Nat} (h : n ≤ 255) : count 1 n = [BitVec.ofNat 8 n] := by
  rw [count_eq_be h]
  rfl

/-- A command that leaves the settlement of `m` is answered, and what it leaves is that settlement, pins apart. -/
theorem answers_settled {c : Instr} {body : State → State × Response} {results : List Byte} {st : Station}
    (hr : s.ready c) (hx : exec c s = s.hostCommand c body)
    (hw : body s = (m.settle i .idle, answer .ok results)) (hb : m.board = s.board)
    (hm : KeepsAllBut [.accounts, .stations] s m) (hst : m.station i = st) (hk : st.job = some k) :
    Answers c s .ok results [.accounts, .tokens, .stations, .readers] fun t =>
      SettledFrom m i .idle t ∧ (t.station i).undriven = ((m.settle i .idle).station i).undriven ∧
        (∃ balanceAfter, (t.station i).undriven =
          ({ st with
              state := .idle, sessionToken := none, job := none
              lastJob := some (k.lastRecord balanceAfter) } : Station).undriven) ∧
        ShownOn i (.goodbye (settlementCharge k).1) s t := by
  subst hst
  obtain ⟨hboard, hkept, hshown, b, hstation⟩ := settle_after hb hm hk (dest := .idle) (by decide)
  obtain ⟨-, hreset, hlink, -⟩ := board_eq hboard
  exact answers_of_result hr hx hw hlink hreset hkept fun l =>
    ⟨settledFrom_answered m i .idle l, undriven_answered rfl l, ⟨b, undriven_answered hstation l⟩, hshown⟩

end Sys2Proof.Machine
end

section
/-! SUPPORT. The expiry of the drain timer, the permit delay and the idle timer (O49). -/

namespace Sys2Proof.Machine

variable {s : State} {i : StationId} {j : Job} {c : EndCause} {left : Nat}

/-- A running drain timer that expires enters the jam of R125 (R122). -/
theorem happens_drainExpiry (hr : s.resetLow = false) (hd : (s.station i).drainTimer = some left)
    (hj : (s.station i).job = some j) :
    Happens (.drainTimerExpiry i) s [.stations, .readers] fun t =>
      KeepsOtherStations i s t ∧ KeepsOtherReaders i s t ∧
        (t.station i).undriven =
          ({ s.station i with
              state := .jammed, jamCause := some .drainTimeout, drainTimer := none, path := []
              disputed := (s.station i).disputed ++ (s.station i).path
              jamTimer := some (s.globals.jamTimeout * 600000)
              alarms := { (s.station i).alarms with jamEntered := true }
              job := some { j with idleTimer := none, jams := min (j.jams + 1) 65535 } } :
            Station).undriven ∧
        (t.station i).permit = false ∧
        ShownOn i (.jam ((s.station i).disputed ++ (s.station i).path).length) s t := by
  have hx : exec (.drainTimerExpiry i) s = s.event (s.jamEntry i .drainTimeout) :=
    congrArg s.event (if_neg (by simp [hd]))
  obtain ⟨hkept, hothers, hreaders, hstation, hshown⟩ := jamEntry_facts s i .drainTimeout j hj
  refine happens_of_event hr hx hkept ⟨keepsOtherStations_drive hothers, hreaders, ?_, ?_, hshown⟩
  · rw [State.drive_undriven, hstation]
  · rw [State.station_drive, hstation]
    exact Bool.and_false _

/-- PERMIT follows its condition once no delay stands against it (R112, R114). -/
theorem happens_permitDelayExpiry (hr : s.resetLow = false) :
    Happens (.permitDelayExpiry i) s [.stations] fun t =>
      KeepsOtherStations i s t ∧
        (t.station i).undriven = ({ s.station i with permitDelay := none } : Station).undriven ∧
        ((t.station i).permit = true ↔
          (s.station i).state = .running ∧
            ((s.station i).config.permitMode = .interlocked → (s.station i).filtered.ready = true)) := by
  refine happens_of_event hr rfl (keepsAllBut_modifyStation s i _)
    ⟨keepsOtherStations_drive (keepsOtherStations_modifyStation s i _), ?_, ?_⟩
  · rw [State.drive_undriven, State.station_modifyStation_self]
  · rw [State.station_drive, State.station_modifyStation_self, State.modifyStation_resetLow, hr]
    unfold Station.permitCondition
    cases (s.station i).config.permitMode <;> simp

/-- An idle timer that runs raises IDLE_TIMEOUT on the job, its timer stopped (R72). -/
theorem idleExpiry_eq (hj : (s.station i).job = some j) (hk : j.idleTimer = some left) :
    s.idleExpiry i =
      (s.setStation i { s.station i with job := some { j with idleTimer := none } }).requestEnd i .idleTimeout := by
  unfold State.idleExpiry
  rw [if_neg (by simp [hj, hk]), modifyJob_eq _ hj]

theorem happens_idleExpiry_drains (hr : s.resetLow = false) (hj : (s.station i).job = some j)
    (hk : j.idleTimer = some left) (hs : (s.station i).state = .running ∨ (s.station i).state = .held)
    (hp : (s.station i).path ≠ []) :
    Happens (.idleTimerExpiry i) s [.stations] fun t =>
      KeepsOtherStations i s t ∧
        (t.station i).undriven =
          ({ s.station i with
              state := .closing, drainTimer := some (s.globals.drainTimeout * 10000)
              job := some
                { j with endRequest := some (j.endRequest.getD .idleTimeout), idleTimer := none } } :
            Station).undriven := by
  refine happens_undriven hr (congrArg s.event ?_)
  rw [idleExpiry_eq hj hk, requestEnd_drains (j := { j with idleTimer := none }) .idleTimeout
      (by rw [State.station_setStation_self]) (by rw [State.station_setStation_self]; exact hs)
      (by rw [State.station_setStation_self]; exact hp),
    State.station_setStation_self, setStation_setStation]
  rfl

/-- What an idle timeout at an empty path settles: the job with the request, its timer stopped. -/
theorem idleExpiry_settles (hj : (s.station i).job = some j) (hk : j.idleTimer = some left)
    (hs : (s.station i).state = .running ∨ (s.station i).state = .held) (hp : (s.station i).path = []) :
    s.idleExpiry i =
      (s.setStation i { s.station i with
        state := .closing
        job := some
          { j with endRequest := some (j.endRequest.getD .idleTimeout), idleTimer := none } }).settle i .idle := by
  rw [idleExpiry_eq hj hk, requestEnd_settles .idleTimeout (j := { j with idleTimer := none })
      (by rw [State.station_setStation_self]) (by rw [State.station_setStation_self]; exact hs)
      (by rw [State.station_setStation_self]; exact hp),
    closed_eq (j := { j with idleTimer := none }) _ (by rw [State.station_setStation_self]),
    State.station_setStation_self, setStation_setStation]

theorem happens_idleExpiry_settles (hr : s.resetLow = false) (hj : (s.station i).job = some j)
    (hk : j.idleTimer = some left) (hs : (s.station i).state = .running ∨ (s.station i).state = .held)
    (hp : (s.station i).path = []) (hc : c = j.endRequest.getD .idleTimeout) :
    Happens (.idleTimerExpiry i) s [.accounts, .tokens, .stations, .readers] fun t =>
      (t.station i).state = .idle ∧ (t.station i).job = none ∧ (t.station i).sessionToken = none ∧
        ((t.station i).lastJob.bind LastJob.endCause) = some c ∧
        ShownOn i (.goodbye (settlementCharge j).1) s t ∧
        ∃ m, KeepsAllBut [.stations] s m ∧ KeepsOtherStations i s m ∧
          (m.station i).job = some { j with endRequest := some c, idleTimer := none } ∧
          SettledFrom m i .idle t := by
  have hx := congrArg s.event (idleExpiry_settles hj hk hs hp)
  rw [← hc] at hx
  obtain ⟨hkept, hothers, hself⟩ := setStation_frame s i
    { s.station i with state := .closing, job := some { j with endRequest := some c, idleTimer := none } }
  have hboard : (s.setStation i { s.station i with
    state := .closing, job := some { j with endRequest := some c, idleTimer := none } }).board = s.board := rfl
  generalize s.setStation i _ = m at hx hkept hothers hself hboard
  obtain ⟨-, hsettled, hshown, b, hstation⟩ := settle_after (dest := .idle) hboard
    (keepsAllBut_mono hkept (by decide)) (by rw [hself]) (by decide)
  have hfrom := settledFrom_answered m i .idle (m.settle i .idle).link
  refine happens_of_event hr hx hsettled ?_
  rw [State.station_drive, hstation]
  exact ⟨rfl, rfl, rfl, rfl, hshown, m, hkept, hothers, by rw [hself], hfrom⟩

/-- Settles O49: the jam entry, the permit condition without its delay, and the end request in its two ways. -/
theorem stationTimersExpire : Obligations.StationTimersExpire := by
  refine fun s i hr => ⟨fun j k hd hj => happens_drainExpiry hr hd hj, happens_permitDelayExpiry hr,
    fun j k cause hj hk hs hc => ⟨fun hp => ?_, fun hp => happens_idleExpiry_settles hr hj hk hs hp hc⟩⟩
  rw [hc]
  exact happens_idleExpiry_drains hr hj hk hs hp

end Sys2Proof.Machine
end

section
/-! SUPPORT. The disputed sheets of a jam voided, and the jam timeout (O50). -/

namespace Sys2Proof.Machine

variable {s m v : State} {i : StationId} {k : Job}

/-! ### A jam at its end (R130, R132) -/

/-- The station once its disputed sheets are voided and its jam is over. -/
def Station.unjammed (st : Station) : Station := { st with disputed := [], jamTimer := none, jamCause := none }

theorem sparesJob_unjammed : SparesJob Station.unjammed := fun _ _ => rfl

/-- How CLEAR JAM and the jam timeout begin. -/
theorem voidDisputed_unjammed (hv : v = (s.station i).disputed.foldl (State.voidSheet i) s) :
    ((s.voidDisputed i).modifyStation i fun st => { st with jamTimer := none, jamCause := none }) =
      v.modifyStation i Station.unjammed := by
  subst hv
  exact modifyStation_setStation _ i _ _

/-! ### The jam timeout (R132) -/

theorem jamTimedOut_eq (hv : v = (s.station i).disputed.foldl (State.voidSheet i) s)
    (hm : m = (v.modifyStation i Station.unjammed).recordEnd i .jamTimeout) :
    s.jamTimedOut i =
      ((m.settle i .outOfService).modifyAlarms i fun f => { f with outOfService := true }).placeDisplay i
        .outOfService := by
  rw [hm, ← voidDisputed_unjammed hv]
  rfl

/-- A settlement after which the station stands OUT_OF_SERVICE with its alarm and display. -/
theorem settledOut_facts (hboard : m.board = s.board) (hm : KeepsAllBut [.accounts, .stations] s m)
    {st : Station} (hself : m.station i = st) (hk : st.job = some k) {u : State}
    (hu : u = ((m.settle i .outOfService).modifyAlarms i fun f =>
      { f with outOfService := true }).placeDisplay i .outOfService) :
    KeepsAllBut [.accounts, .tokens, .stations, .readers] s u ∧ SettledFrom m i .outOfService u.drive ∧
      (u.drive.station i).undriven =
        ({ (m.settle i .outOfService).station i with
            alarms := { st.alarms with outOfService := true } } : Station).undriven ∧
      (∃ balanceAfter, (u.drive.station i).undriven =
        ({ st with
            state := .outOfService, sessionToken := none, job := none
            lastJob := some (k.lastRecord balanceAfter)
            alarms := { st.alarms with outOfService := true } } : Station).undriven) ∧
      ShownOn i .outOfService s u.drive := by
  subst hself hu
  obtain ⟨hb, hkept, hshown, b, hstation⟩ := settle_after (dest := .outOfService) hboard hm hk (by decide)
  obtain ⟨-, -, -, -, -, -, -, hbus, -⟩ := board_eq hb
  unfold SettledFrom
  generalize m.settle i .outOfService = q at hkept hshown hstation hbus ⊢
  have hout : (q.modifyAlarms i fun f => { f with outOfService := true }) =
      q.setStation i { q.station i with alarms := { (q.station i).alarms with outOfService := true } } := rfl
  rw [hout]
  obtain ⟨hset, hothers, hreaders, hself, -⟩ := setStation_placeDisplay_frame q i
    { q.station i with alarms := { (q.station i).alarms with outOfService := true } } .outOfService
  refine ⟨keepsAllBut_trans hkept (keepsAllBut_mono hset (by decide)),
    ⟨rfl, rfl, keepsOtherStations_drive hothers, hreaders⟩, ?_, ⟨b, ?_⟩, ?_⟩
  · rw [State.drive_undriven, hself, hstation]
  · rw [State.drive_undriven, hself, hstation]
  · exact shownOn_placeDisplay_again (t := q.setStation i _) hshown hbus

/-- Settles O50: the voids, the cause recorded, the settlement, then alarm and display. -/
theorem jamTimeoutTakesStationOut : Obligations.JamTimeoutTakesStationOut := by
  intro s i j left v hr hj ht hv
  obtain ⟨k, hk, ⟨haccrued, hfields, hsheets, -⟩, hm, hboard, hkept, hself⟩ :=
    voidSheets_recordEnd_facts .jamTimeout sparesJob_unjammed hj hv rfl
  have hx : exec (.jamTimeout i) s = s.event (s.jamTimedOut i) := congrArg s.event (if_neg (by simp [ht]))
  rw [jamTimedOut_eq hv rfl] at hx
  generalize (v.modifyStation i Station.unjammed).recordEnd i .jamTimeout = m at hx hm hboard hkept hself
  obtain ⟨hsettled, hfrom, hout, hlast, hshown⟩ := settledOut_facts hboard hkept hself rfl rfl
  exact ⟨k, m, hk, hm, haccrued, hfields, hsheets,
    happens_of_event hr hx hsettled ⟨hfrom, hout, hlast, hshown⟩⟩

end Sys2Proof.Machine
end

section
/-! SUPPORT. RESET STATION by station state (O41). -/

namespace Sys2Proof.Machine

variable {s m v : State} {i : StationId} {j k : Job} {a : Account} {n : Nat}

/-- The station once both its lists are voided and its drain and jam timers are stopped. -/
def Station.emptied (st : Station) : Station :=
  { st with path := [], disputed := [], drainTimer := none, jamTimer := none, jamCause := none }

theorem sparesJob_emptied : SparesJob Station.emptied := fun _ _ => rfl

/-- How RESET STATION begins: the disputed sheets voided, then those of the path (R136). -/
theorem voidPath_emptied (hj : (s.station i).job = some j)
    (hv : v = ((s.station i).disputed ++ (s.station i).path).foldl (State.voidSheet i) s) :
    ((s.modifyStation i fun st =>
        { st with drainTimer := none, jamTimer := none, jamCause := none }).voidDisputed i).voidPath i =
      v.modifyStation i Station.emptied := by
  rw [List.foldl_append] at hv
  obtain ⟨-, -, -, k, hk, -⟩ := voidSheets_job hj (s.station i).disputed rfl
  unfold State.voidDisputed
  rw [State.station_modifyStation_self]
  dsimp only
  rw [voidSheets_modifyStation fun _ _ => rfl]
  generalize (s.station i).disputed.foldl (State.voidSheet i) s = w at hk hv
  have hpath : (w.station i).path = (s.station i).path := by rw [hk]
  unfold State.voidPath
  rw [State.station_modifyStation_self, State.station_modifyStation_self]
  dsimp only
  rw [voidSheets_modifyStation fun _ _ => rfl, voidSheets_modifyStation fun _ _ => rfl, hpath, ← hv,
    modifyStation_eq v, modifyStation_setStation, modifyStation_setStation]
  rfl

theorem resetJob_eq (hj : (s.station i).job = some j)
    (hv : v = ((s.station i).disputed ++ (s.station i).path).foldl (State.voidSheet i) s)
    (hm : m = (v.modifyStation i Station.emptied).recordEnd i .stationReset) :
    s.resetJob i = m.settle i .idle := by
  rw [hm, ← voidPath_emptied hj hv]
  rfl

/-! ### The work by station state -/

theorem resetStationWork_free (hs : (s.station i).state ∈ [StationState.idle, .disabled, .outOfService]) :
    resetStationWork i.val s = unchanged (answer .ok (be 1 (s.station i).state.code)) s := by
  refine (withStation_val i _).trans ?_
  rw [← stateByte_eq]
  simp only [List.mem_cons, List.not_mem_nil, or_false] at hs
  rcases hs with h | h | h <;> simp only [h]

/-- The walk-up of an OPENING station is cancelled as END JOB cancels it. -/
theorem resetStationWork_opening (hs : (s.station i).state = .opening) :
    resetStationWork i.val s = endJobWork i.val s := by
  refine (withStation_val i _).trans (Eq.trans ?_ (withStation_val i _).symm)
  simp only [hs]

/-- With an open job: a settlement, the sheets voided counted, and its charge. -/
theorem resetStationWork_job (hs : (s.station i).state ∈ [StationState.running, .held, .closing, .jammed])
    (he : s.resetJob i = m.settle i .idle) (hk : (m.station i).job = some k)
    (hn : (s.station i).disputed.length + (s.station i).path.length = n) (hle : n ≤ 8) :
    resetStationWork i.val s =
      (m.settle i .idle, answer .ok ([1#8, BitVec.ofNat 8 n] ++ beCents (settlementCharge k).1)) := by
  obtain ⟨hstate, hcharge, -⟩ := settled_results hk
  have hat : resetStationWork i.val s = s.resetJobAt i := by
    refine (withStation_val i _).trans ?_
    simp only [List.mem_cons, List.not_mem_nil, or_false] at hs
    rcases hs with h | h | h | h <;> simp only [h]
  rw [hat]
  unfold State.resetJobAt
  dsimp only
  rw [he, hstate, hcharge, hn, count_byte (by omega)]
  rfl

/-! ### The answers -/

/-- A cancelled walk-up stays cancelled as the response is placed and the pins are driven. -/
theorem walkupEnded_answered {u : State} {d : Display} (h : WalkupEnded s u a i d) (l : Link) :
    WalkupEnded s ({ u with link := l } : State).drive a i d := by
  obtain ⟨hgone, haccounts, htokens, hwau, hothers, hreaders, hself, hshown⟩ := h
  exact ⟨hgone, haccounts, htokens, hwau, fun k hk => (undriven_answered rfl l).trans (hothers k hk), hreaders,
    (undriven_answered rfl l).trans hself, hshown⟩

theorem answers_resetStation_cancelled (hr : s.ready (.resetStation i.val)) (hs : (s.station i).state = .opening)
    (ha : s.walkupOf i = some a) :
    Answers (.resetStation i.val) s .ok [1#8] [.accounts, .tokens, .stations, .readers, .walkup] fun t =>
      (t.station i).undriven = ({ s.station i with state := .idle, sessionToken := none } : Station).undriven ∧
        KeepsOtherStations i s t ∧ t.account a.number = none ∧ ShownOn i (.goodbye 0) s t ∧
        KeepsOtherReaders i s t ∧
        (s.account a.number = some a → a.payer = none → WalkupEnded s t a i (.goodbye 0)) := by
  obtain ⟨hkeeps, hothers, hreaders, hgone, hstation, hshown, hended⟩ := endWalkup_facts s a i (.goodbye 0)
  obtain ⟨-, hreset, hlink, -⟩ := board_eq (board_endWalkup s a i (.goodbye 0))
  exact answers_of_result hr rfl ((resetStationWork_opening hs).trans (endJobWork_opening hs ha)) hlink hreset hkeeps
    fun l => ⟨undriven_answered hstation l, fun k hk => (undriven_answered rfl l).trans (hothers k hk), hgone, hshown,
      hreaders, fun hfound hpayer => walkupEnded_answered (hended hfound hpayer) l⟩

/-- Settles O41: nothing in a free station, the cancelled walk-up of END JOB in OPENING, the settlement elsewhere. -/
theorem resetStationByState : Obligations.ResetStationByState := by
  intro s i hr
  refine ⟨fun hs => answers_of_unchanged hr rfl (resetStationWork_free hs), fun a hs ha => ?_,
    fun j v sheets hs hj hn hsheets hv => ?_⟩
  · exact answers_resetStation_cancelled hr hs ha
  · rw [hsheets] at hv
    obtain ⟨k, hk, ⟨haccrued, hfields, hcount, -⟩, hm, hboard, hkept, hself⟩ :=
      voidSheets_recordEnd_facts .stationReset sparesJob_emptied hj hv rfl
    have he := resetJob_eq hj hv rfl
    generalize (v.modifyStation i Station.emptied).recordEnd i .stationReset = m at he hm hboard hkept hself
    have hlength : (s.station i).disputed.length + (s.station i).path.length = sheets.length := by
      rw [hsheets, List.length_append]
    subst hsheets
    exact ⟨k, m, hk, hm, haccrued, hfields, hcount,
      answers_settled hr rfl (resetStationWork_job hs he (congrArg Station.job hself) hlength (by omega)) hboard
        hkept hself rfl⟩

end Sys2Proof.Machine
end

section
/-! SUPPORT. CLEAR JAM: a job with an end request settled, any other resumed by the cover test (O40). -/

namespace Sys2Proof.Machine

variable {s m v : State} {i : StationId} {j k : Job} {c : EndCause} {n : Nat}

/-! ### The resumption (R130 step 5) -/

theorem enterRunning_eq (hj : (s.station i).job = some j) :
    s.enterRunning i =
      (s.setStation i { s.station i with state := .running }).placeDisplay i (.charge (toCents j.accrued)) := by
  have hshown : ((s.station i).job.map fun j => toCents j.accrued).getD 0 = toCents j.accrued := by
    rw [hj, Option.map_some, Option.getD_some]
  unfold State.enterRunning State.placeCharge
  rw [State.station_enter_self]
  dsimp only
  rw [hshown]
  rfl

/-- The idle timer starts anew at a station that has just entered RUNNING or HELD (R71). -/
theorem restartIdle_entered {x : StationState} (d : Display) (hx : x = .running ∨ x = .held) :
    ((s.setStation i { s.station i with state := x }).placeDisplay i d).restartIdle i =
      (s.setStation i { s.station i with
        state := x
        job := (s.station i).job.map fun y =>
          { y with idleTimer := some (s.globals.idleTimeout * 10000) } }).placeDisplay i d := by
  rw [restartIdle_eq, State.station_placeDisplay, State.station_setStation_self, if_pos hx,
    setStation_placeDisplay, setStation_setStation]
  rfl

/-- What the cover test of a clear station with job `k` sends it to: RUNNING with CHARGE or HELD with
STOPPED_NO_CREDIT, the idle timer anew. -/
def State.resumed (m : State) (i : StationId) (k : Job) : State :=
  ((m.coverTest i).1.setStation i { (m.coverTest i).1.station i with
    state := if (m.coverTest i).2 then .running else .held
    job := ((m.coverTest i).1.station i).job.map fun x =>
      { x with idleTimer := some (m.globals.idleTimeout * 10000) } }).placeDisplay i
    (if (m.coverTest i).2 then .charge (toCents k.accrued) else .stoppedNoCredit (toCents k.headroom))

theorem resumeAfterJam_eq (hk : (m.station i).job = some k) : m.resumeAfterJam i = m.resumed i k := by
  have hglobals : (m.coverTest i).1.globals = m.globals := keepsAllBut_coverTest m i .globals (by decide)
  obtain ⟨raised, hself⟩ := station_coverTest m i
  unfold State.resumeAfterJam State.resumed
  rw [← hglobals]
  cases hc : (m.coverTest i).2 with
  | true =>
    have hjob : ((m.coverTest i).1.station i).job = some { k with hold := k.hold + raised } := by
      rw [hself, hk, Option.map_some]
    rw [if_pos rfl, if_pos rfl, if_pos rfl, enterRunning_eq hjob]
    exact restartIdle_entered _ (.inl rfl)
  | false =>
    rw [if_neg (by decide), if_neg (by decide), if_neg (by decide), coverTest_failed hc, enterHeld_eq hk]
    exact restartIdle_entered _ (.inr rfl)

/-! ### The clear (R130) -/

/-- The voids counted on the display, then the end of a job that is asked to end, or its resumption. -/
theorem jamClear_cases (hv : v = (s.station i).disputed.foldl (State.voidSheet i) s)
    (hm : m = v.modifyStation i Station.unjammed) (hk : (m.station i).job = some k) :
    s.jamClear i =
      if k.endRequest = none then (m.placeDisplay i (.jamCleared (s.station i).disputed.length)).resumeAfterJam i
      else (m.placeDisplay i (.jamCleared (s.station i).disputed.length)).enterClosing i := by
  unfold State.jamClear
  rw [voidDisputed_unjammed hv, ← hm]
  dsimp only
  rw [State.station_placeDisplay, hk]
  rfl

/-- The station with job `k` as it enters CLOSING, the idle timer stopped (R70). -/
def State.closingWith (m : State) (i : StationId) (k : Job) : State :=
  m.setStation i { m.station i with state := .closing, job := some { k with idleTimer := none } }

theorem closingWith_frame (m : State) (i : StationId) (k : Job) :
    KeepsAllBut [.stations] m (m.closingWith i k) ∧
      (m.closingWith i k).station i =
        { m.station i with state := .closing, job := some { k with idleTimer := none } } := by
  obtain ⟨hset, -, hself⟩ := setStation_frame m i _
  exact ⟨hset, hself⟩

/-- On an empty path the job settles at once (R70). -/
theorem enterClosing_settles (hk : (m.station i).job = some k) (hp : (m.station i).path = []) :
    m.enterClosing i = (m.closingWith i k).settle i .idle := by
  have hclosing : (m.enter i .closing).modifyJob i (fun j => { j with idleTimer := none }) = m.closingWith i k := by
    rw [modifyJob_eq (j := k) _ (by rw [State.station_enter_self]; exact hk), State.station_enter_self]
    exact setStation_setStation m i _ _
  unfold State.enterClosing
  dsimp only
  rw [hclosing]
  unfold State.closingWith
  rw [State.station_setStation_self]
  exact if_pos (by rw [hp]; rfl)

theorem jamClear_settles (hv : v = (s.station i).disputed.foldl (State.voidSheet i) s)
    (hm : m = v.modifyStation i Station.unjammed) (hk : (m.station i).job = some k)
    (he : k.endRequest = some c) (hp : (m.station i).path = []) :
    s.jamClear i = (m.closingWith i k).settle i .idle := by
  rw [jamClear_cases hv hm hk, if_neg (by simp [he]),
    enterClosing_settles (k := k) (by rw [State.station_placeDisplay]; exact hk)
      (by rw [State.station_placeDisplay]; exact hp)]
  unfold State.closingWith
  rw [setStation_placeDisplay, State.station_placeDisplay]
  exact settle_placeDisplay _ i _ (by rw [State.station_setStation_self])

theorem jamClear_resumes (hv : v = (s.station i).disputed.foldl (State.voidSheet i) s)
    (hm : m = v.modifyStation i Station.unjammed) (hk : (m.station i).job = some k) (he : k.endRequest = none) :
    s.jamClear i = m.resumed i k := by
  rw [jamClear_cases hv hm hk, if_pos he,
    resumeAfterJam_eq (k := k) (by rw [State.station_placeDisplay]; exact hk)]
  unfold State.resumed
  rw [coverTest_placeDisplay, setStation_placeDisplay, placeDisplay_placeDisplay]
  rfl

/-! ### The work and its answers (R129) -/

theorem clearJamWork_elsewhere (hs : (s.station i).state ≠ .jammed) :
    clearJamWork i.val s = unchanged (bare .refusedState) s :=
  (withStation_val i _).trans (if_neg hs)

theorem clearJamWork_jammed (hs : (s.station i).state = .jammed) :
    clearJamWork i.val s =
      (s.jamClear i, answer .ok ((s.jamClear i).clearResults i (s.station i).disputed.length)) :=
  (withStation_val i _).trans (if_pos hs)

theorem clearResults_settled (hk : (m.station i).job = some k) (hn : n ≤ 8) :
    (m.settle i .idle).clearResults i n = [BitVec.ofNat 8 n, 1#8] ++ beCents (settlementCharge k).1 := by
  obtain ⟨hstate, hcharge, hjob⟩ := settled_results hk
  unfold State.clearResults
  rw [hstate, hcharge, hjob, count_byte (by omega)]
  rfl

theorem clearResults_resumed {st : Station} (hst : m.station i = st) (hj : st.job = some j) (hn : n ≤ 8) :
    m.clearResults i n = [BitVec.ofNat 8 n, BitVec.ofNat 8 st.state.code] := by
  have hcode : count 1 st.state.code = [BitVec.ofNat 8 st.state.code] := by cases st.state <;> rfl
  unfold State.clearResults State.stateByte
  rw [hst, hj, hcode, count_byte (by omega)]
  rfl

theorem answers_clearJam_settled (hr : s.ready (.clearJam i.val)) (hs : (s.station i).state = .jammed)
    (hp : (s.station i).path = []) (hn : (s.station i).disputed.length ≤ 8)
    (hv : v = (s.station i).disputed.foldl (State.voidSheet i) s) (hm : m = v.modifyStation i Station.unjammed)
    (hboard : m.board = s.board) (hkept : KeepsAllBut [.accounts, .stations] s m)
    (hself : m.station i = { (s.station i).unjammed with job := some k }) (he : k.endRequest = some c)
    {closing : State} (hclosing : closing = m.closingWith i k) :
    Answers (.clearJam i.val) s .ok
      ([BitVec.ofNat 8 (s.station i).disputed.length, 1#8] ++ beCents (settlementCharge k).1)
      [.accounts, .tokens, .stations, .readers] fun t =>
      SettledFrom closing i .idle t ∧
        (t.station i).undriven = ((closing.settle i .idle).station i).undriven ∧
        (∃ balanceAfter, (t.station i).undriven =
          ({ s.station i with
              state := .idle, sessionToken := none, job := none, disputed := []
              lastJob := some (k.lastRecord balanceAfter), jamTimer := none, jamCause := none } :
            Station).undriven) ∧
        ShownOn i (.goodbye (settlementCharge k).1) s t := by
  have hk : (m.station i).job = some k := congrArg Station.job hself
  have hpath : (m.station i).path = [] := (congrArg Station.path hself).trans hp
  have hw := clearJamWork_jammed hs
  obtain ⟨hset, hstation⟩ := closingWith_frame m i k
  rw [jamClear_settles hv hm hk he hpath, clearResults_settled (congrArg Station.job hstation) hn, ← hclosing] at hw
  rw [hself, ← hclosing] at hstation
  rw [← hclosing] at hset
  exact answers_settled (k := { k with idleTimer := none }) hr rfl hw (hclosing ▸ hboard)
    (keepsAllBut_trans hkept (keepsAllBut_mono hset (by decide))) hstation rfl

theorem answers_clearJam_resumed (hr : s.ready (.clearJam i.val)) (hs : (s.station i).state = .jammed)
    (hn : (s.station i).disputed.length ≤ 8) (hv : v = (s.station i).disputed.foldl (State.voidSheet i) s)
    (hm : m = v.modifyStation i Station.unjammed) (hkept : KeepsAllBut [.accounts, .stations] s m)
    (hothers : KeepsOtherStations i s m) (hk : (m.station i).job = some k) (he : k.endRequest = none)
    {x : StationState} (hx : x = if (m.coverTest i).2 then StationState.running else .held) :
    Answers (.clearJam i.val) s .ok
      [BitVec.ofNat 8 (s.station i).disputed.length, BitVec.ofNat 8 x.code]
      [.accounts, .stations, .readers] fun t =>
      KeepsOtherStations i s t ∧ KeepsOtherReaders i s t ∧ t.accounts = (m.coverTest i).1.accounts ∧
        (t.station i).undriven =
          ({ (m.coverTest i).1.station i with
              state := x
              job := ((m.coverTest i).1.station i).job.map fun y =>
                { y with idleTimer := some (s.globals.idleTimeout * 10000) } } : Station).undriven ∧
        (x = .held → ShownOn i (.stoppedNoCredit (toCents k.headroom)) s t) ∧
        (x = .running → ShownOn i (.charge (toCents k.accrued)) s t) := by
  have hglobals : m.globals = s.globals := hkept .globals (by decide)
  have hclear := jamClear_resumes hv hm hk he
  unfold State.resumed at hclear
  rw [hglobals, ← hx] at hclear
  obtain ⟨-, hreset, hlink, -⟩ := board_eq (board_jamClear s i)
  have hcover := keepsAllBut_trans hkept (keepsAllBut_coverTest m i)
  have hapart : KeepsOtherStations i s (m.coverTest i).1 :=
    keepsOtherStations_trans hothers fun n h => congrArg _ (station_coverTest_other m h)
  obtain ⟨raised, htested⟩ := station_coverTest m i
  have hw := clearJamWork_jammed hs
  have hjob : ((m.coverTest i).1.station i).job = some { k with hold := k.hold + raised } := by
    rw [htested, hk, Option.map_some]
  generalize (m.coverTest i).2 = covered at hx hclear
  generalize (m.coverTest i).1 = q at hclear hcover hapart hjob ⊢
  obtain ⟨hset, hstations, hreaders, hself, hshown⟩ := setStation_placeDisplay_frame q i
    { q.station i with
      state := x
      job := (q.station i).job.map fun y => { y with idleTimer := some (s.globals.idleTimeout * 10000) } }
    (if covered then .charge (toCents k.accrued) else .stoppedNoCredit (toCents k.headroom))
  have haccounts : (s.jamClear i).accounts = q.accounts := by rw [hclear]; rfl
  rw [← hclear] at hset hstations hreaders hself hshown
  rw [clearResults_resumed hself (by rw [hjob]; rfl) hn] at hw
  have hsilent : ∀ n, q.reader n = s.reader n := hcover .readers (by decide)
  have hseen := shownOn_of_before hshown (hsilent i) (hcover .bus (by decide))
  refine answers_of_result hr rfl hw hlink hreset
    (keepsAllBut_trans (keepsAllBut_mono hcover (by decide)) (keepsAllBut_mono hset (by decide))) fun l =>
    ⟨fun n h => (undriven_answered rfl l).trans ((hstations n h).trans (hapart n h)),
      fun n h => (hreaders n h).trans (hsilent n), haccounts, undriven_answered hself l, fun h => ?_, fun h => ?_⟩
  · cases covered with
    | true => exact absurd (hx.symm.trans h) (by decide)
    | false => exact hseen
  · cases covered with
    | true => exact hseen
    | false => exact absurd (hx.symm.trans h) (by decide)

/-- Settles O40: the state after the voids, then the settlement of a job asked to end, or the cover test. -/
theorem clearJamVoidsAndResumes : Obligations.ClearJamVoidsAndResumes := by
  intro s i hr
  refine ⟨fun hs => refuses_of_work hr rfl (clearJamWork_elsewhere hs), fun j v hs hj hp hn hv => ?_⟩
  obtain ⟨hboard, hkept, hothers, k, hk, hvoided, hself⟩ := voidSheets_modifyStation_facts sparesJob_unjammed hj hv
  have hend := hvoided.endRequest
  obtain ⟨haccrued, hfields, hsheets, himpressions⟩ := hvoided
  have haccount : ∀ n, (v.modifyStation i Station.unjammed).account n = _ :=
    fun n => (congrArg (State.account · n) hv).trans (account_voidSheets i _ s j hj n)
  refine ⟨k, v.modifyStation i Station.unjammed, hk, rfl, haccrued, hfields, hsheets, himpressions,
    fun n h => (haccount n).trans (if_neg (by simpa using h)), fun b hb => ?_, fun cause closing he hc => ?_,
    fun he x hx => ?_⟩
  · rw [haccount, if_pos rfl, hb, Option.map_some]
  · exact answers_clearJam_settled hr hs hp hn hv rfl hboard hkept hself (hend.trans he) hc
  · exact answers_clearJam_resumed hr hs hn hv rfl hkept hothers (congrArg Station.job hself) (hend.trans he) hx

end Sys2Proof.Machine
end

section
/-! SUPPORT. The reader commands: a number outside the hall, an answer whose work changes one reader record, and the
bytes of READ READER (O34, O52). -/

namespace Sys2Proof.Machine

variable {s u : State} {i : StationId} {n x w y z : Nat} {c : Instr} {status : Status} {results : List Byte}
  {body : State → State × Response}

/-! ### Answers from a state that only its pins set apart -/

/-- A work that leaves every part as it was, pins apart, is an answer that changes nothing. -/
theorem answers_of_kept (hr : s.ready c) (hx : exec c s = s.hostCommand c body) (hk : KeepsAllBut [] s u)
    (hb : body s = (u, answer status results)) : Answers c s status results [] fun _ => True :=
  answers_of_work hr hx (by rw [hb]) (by rw [hb]; exact hk .link (by simp)) (by rw [hb]; exact hk .reset (by simp))
    (by rw [hb]; exact hk) fun _ => trivial

theorem keepsAllBut_modifyReader (s : State) (i : StationId) (f : Reader → Reader) :
    KeepsAllBut [.readers] s (s.modifyReader i f) := by
  intro p hp; cases p <;> first | rfl | exact fun _ => rfl | exact absurd (by decide) hp

theorem keepsOtherReaders_modifyReader (s : State) (i : StationId) (f : Reader → Reader) :
    KeepsOtherReaders i s (s.modifyReader i f) := fun k hk => by rw [State.reader_modifyReader, if_neg hk]

/-- An answer whose work changes the record of reader `i` alone. -/
theorem answers_modifyReader {f : Reader → Reader} (hr : s.ready c) (hx : exec c s = s.hostCommand c body)
    (hk : KeepsAllBut [] s u) (hb : body s = (u.modifyReader i f, answer status results)) :
    Answers c s status results [.readers] fun t => t.reader i = f (s.reader i) ∧ KeepsOtherReaders i s t := by
  have hreader : ∀ k, u.reader k = s.reader k := hk .readers (by simp)
  refine answers_of_work hr hx (by rw [hb]) (by rw [hb]; exact hk .link (by simp))
    (by rw [hb]; exact hk .reset (by simp)) ?_ fun l => ?_ <;> rw [hb]
  · exact keepsAllBut_trans (keepsAllBut_mono hk (by simp)) (keepsAllBut_modifyReader u i f)
  · exact ⟨(State.reader_modifyReader_self u i f).trans (by rw [hreader]),
      fun k h => (keepsOtherReaders_modifyReader u i f k h).trans (hreader k)⟩

/-! ### Numbers outside the hall (section 4.4, R148) -/

theorem stationOf_outside (h : 16 ≤ n) : stationOf n = none := dif_neg (by omega)

theorem withStation_outside (h : 16 ≤ n) (body : StationId → State → State × Response) (s : State) :
    withStation n body s = (s, answer .invalid []) := by
  unfold withStation
  rw [stationOf_outside h]
  rfl

theorem readStationResponse_outside (h : 16 ≤ n) (s : State) : s.readStationResponse n = answer .invalid [] := by
  unfold State.readStationResponse
  rw [stationOf_outside h]
  rfl

/-- Settles O34: each command looks up its number first; a reading one does so in the state with its pins driven. -/
theorem numbersOutsideTheHallAreInvalid : Obligations.NumbersOutsideTheHallAreInvalid := by
  intro s x n letter w y z v f c hx hc hr
  rcases hc with hc | ⟨ho, hc⟩
  · simp only [List.mem_cons, List.not_mem_nil, or_false] at hc
    rcases hc with rfl | rfl | rfl | rfl | rfl | rfl | rfl | rfl | rfl | rfl | rfl
    all_goals exact refuses_of_work hr rfl (withStation_outside hx _ s)
  · have hmade := makeOwedRetries_of_none ho
    simp only [List.mem_cons, List.not_mem_nil, or_false] at hc
    rcases hc with rfl | rfl | rfl
    · exact answers_of_reading hr rfl ho (readStationResponse_outside hx s.drive)
    · exact answers_of_kept (body := fun s => alarmsWork x s.makeOwedRetries) hr rfl (keepsAllBut_drive s)
        ((congrArg (alarmsWork x) hmade).trans (withStation_outside hx _ s.drive))
    · exact answers_of_kept (body := fun s => readReaderWork x s.makeOwedRetries) hr rfl (keepsAllBut_drive s)
        ((congrArg (readReaderWork x) hmade).trans (withStation_outside hx _ s.drive))

/-! ### CONFIGURE READER and PRESET READER COUNTERS (R148, R151) -/

theorem configureReaderWork_invalid (h : 2 ≤ x) :
    configureReaderWork i.val x s = unchanged (bare .invalid) s := by
  refine (withStation_val i _).trans ?_
  have hs : strictOf x = none := by
    unfold strictOf
    split <;> first | omega | rfl
  rw [hs]

theorem configureReaderWork_strict (h : x < 2) :
    configureReaderWork i.val x s =
      (s.modifyReader i fun r => { r with strictHeader := x == 0 }, answer .ok (be 1 x)) := by
  refine (withStation_val i _).trans ?_
  interval_cases x <;> rfl

theorem counterInRange_iff (n : Nat) : counterInRange n = true ↔ n ≤ 255 := decide_eq_true_iff

theorem presetReaderCountersWork_invalid (h : 255 < w ∨ 255 < x ∨ 255 < y ∨ 255 < z) :
    presetReaderCountersWork i.val w x y z s = unchanged (bare .invalid) s := by
  refine (withStation_val i _).trans (if_neg ?_)
  simp only [Bool.and_eq_true, counterInRange_iff]
  omega

theorem counterBytes_inRange {r : Reader} (h : r.inRange) :
    r.counterBytes = be 1 r.hdrCorrected ++ be 1 r.hdrBad ++ be 1 r.crcBad ++ be 1 r.noAnswer := by
  obtain ⟨-, hcorrected, hbad, hcrc, hnone⟩ := h
  unfold Reader.counterBytes
  rw [count_eq_be hcorrected, count_eq_be hbad, count_eq_be hcrc, count_eq_be hnone]

theorem presetReaderCountersWork_preset (hw : w ≤ 255) (hx : x ≤ 255) (hy : y ≤ 255) (hz : z ≤ 255)
    (h : (s.reader i).inRange) :
    presetReaderCountersWork i.val w x y z s =
      (s.modifyReader i fun r => r.preset w x y z,
        answer .ok (be 1 (s.reader i).hdrCorrected ++ be 1 (s.reader i).hdrBad ++ be 1 (s.reader i).crcBad ++
          be 1 (s.reader i).noAnswer)) := by
  refine (withStation_val i _).trans ((if_pos ?_).trans (by rw [counterBytes_inRange h]))
  simp only [Bool.and_eq_true, counterInRange_iff]
  exact ⟨⟨⟨hw, hx⟩, hy⟩, hz⟩

/-! ### READ READER (R160; logs 21, 22) -/

theorem count_one (n : Nat) : count 1 n = be 1 (min n 255) := rfl

/-- The presence flag and the payload of a pending display, zeros where there is none (log 22). -/
theorem displaySlot_bytes {d : Option Display} {bytes : List Byte} (hn : d = none → bytes = List.replicate 7 0#8)
    (hd : ∀ m, d = some m → bytes = 1#8 :: displayPayload m) :
    flag d.isSome ++ d.elim (be 6 0) displayPayload = bytes := by
  cases d with
  | none => rw [hn rfl]; rfl
  | some m => rw [hd m rfl]; rfl

/-- The presence flag and the index of the broadcast slot, zeros where it is empty (log 22). -/
theorem broadcastSlot_bytes {b : Option Nat} {bytes : List Byte} (hn : b = none → bytes = [0#8, 0#8])
    (hb : ∀ m, b = some m → bytes = 1#8 :: be 1 (min m 255)) : flag b.isSome ++ count 1 (b.getD 0) = bytes := by
  cases b with
  | none => rw [hn rfl]; rfl
  | some m => rw [hb m rfl]; rfl

theorem count_alarms (lost saturated : Bool) :
    count 1 (maskOf [lost, saturated]) =
      [BitVec.ofNat 8 ((if lost then 1 else 0) + (if saturated then 2 else 0))] := by
  revert lost saturated
  decide

theorem LinkState.code_byte (l : LinkState) : count 1 l.code = [if l = .inService then 0#8 else 1#8] := by
  cases l <;> rfl

theorem flag_byte (b : Bool) : flag b = [if b then 1#8 else 0#8] := by cases b <;> rfl

theorem strict_byte (b : Bool) : count 1 (if b then 0 else 1) = [if b then 0#8 else 1#8] := by cases b <;> rfl

/-- The results of READ READER, the pending display by its two cases. -/
theorem readerBytes_eq {r : Reader} (hr : s.reader i = r) :
    s.readerBytes i =
      flag r.polled ++ count 1 r.link.code ++ count 1 r.consecutive ++ count 1 r.hdrCorrected ++
        count 1 r.hdrBad ++ count 1 r.crcBad ++ count 1 r.noAnswer ++
        count 1 (if r.strictHeader then 0 else 1) ++ flag r.display.isSome ++
        r.display.elim (be 6 0) displayPayload ++ count 1 (maskOf [r.linkLost, r.counterSaturated]) ++
        flag s.bus.broadcast.isSome ++ count 1 (s.bus.broadcast.getD 0) := by
  unfold State.readerBytes
  rw [hr]
  dsimp only
  cases r.display <;> rfl

theorem readerBytes_spelled {r : Reader} {display broadcast : List Byte} (hr : r = s.reader i)
    (hdn : r.display = none → display = List.replicate 7 0#8)
    (hd : ∀ d, r.display = some d → display = 1#8 :: displayPayload d)
    (hbn : s.bus.broadcast = none → broadcast = [0#8, 0#8])
    (hb : ∀ x, s.bus.broadcast = some x → broadcast = 1#8 :: be 1 (min x 255)) :
    s.readerBytes i =
      [if r.polled then 1#8 else 0#8, if r.link = .inService then 0#8 else 1#8] ++
        be 1 (min r.consecutive 255) ++ be 1 (min r.hdrCorrected 255) ++ be 1 (min r.hdrBad 255) ++
        be 1 (min r.crcBad 255) ++ be 1 (min r.noAnswer 255) ++ [if r.strictHeader then 0#8 else 1#8] ++
        display ++
        [BitVec.ofNat 8 ((if r.linkLost then 1 else 0) + (if r.counterSaturated then 2 else 0))] ++
        broadcast := by
  have hdisplay := displaySlot_bytes hdn hd
  have hbroadcast := broadcastSlot_bytes hbn hb
  rw [readerBytes_eq hr.symm, flag_byte r.polled, LinkState.code_byte, strict_byte, count_alarms, ← hdisplay,
    ← hbroadcast]
  simp only [count_one, List.append_assoc, List.cons_append, List.nil_append]

theorem readReaderWork_val (s : State) (i : StationId) :
    readReaderWork i.val s = (s.modifyReader i Reader.alarmsRead, answer .ok (s.readerBytes i)) :=
  withStation_val i _

/-- The payloads of the display messages that carry a figure, and of those that carry none (Table 4-4, R195). -/
theorem displayPayload_spelled (a c : Nat) :
    displayPayload (.welcome a) = 0#8 :: be 4 a ++ [0#8] ∧
    displayPayload (.charge a) = 1#8 :: be 4 a ++ [0#8] ∧
    displayPayload (.stoppedNoCredit a) = 2#8 :: be 4 a ++ [0#8] ∧
    displayPayload (.jam c) = [3#8, 0#8, 0#8, 0#8, 0#8] ++ be 1 c ∧
    displayPayload (.jamCleared c) = [4#8, 0#8, 0#8, 0#8, 0#8] ++ be 1 c ∧
    displayPayload (.goodbye a) = 13#8 :: be 4 a ++ [0#8] ∧
    [Display.declined, .noResponse, .unknownCard, .accountBlocked, .stationBusy, .cardInUse,
        .walkupUnavailable, .authorising, .outOfService].map displayPayload =
      ([5, 6, 7, 8, 9, 10, 11, 12, 14] : List Byte).map fun code => [code, 0#8, 0#8, 0#8, 0#8, 0#8] := by
  have hzero : be 4 0 = [0#8, 0#8, 0#8, 0#8] := by decide
  refine ⟨rfl, rfl, rfl, ?_, ?_, rfl, by decide⟩
  all_goals
    unfold displayPayload displayFields
    rw [hzero]
    rfl

/-! ### SEND SHOP MESSAGE (R157) -/

theorem keepsAllBut_bus (s : State) (b : Bus) : KeepsAllBut [.bus] s { s with bus := b } := by
  intro p hp; cases p <;> first | rfl | exact fun _ => rfl | exact absurd (by decide) hp

theorem sendShopMessageWork_placed (h : x ≤ 15) :
    sendShopMessageWork x s =
      ({ s with bus := { s.bus with broadcast := some x } },
        answer .ok [if s.bus.broadcast = none then 0#8 else 1#8]) := by
  refine (if_neg (by omega)).trans ?_
  rw [flag_byte]
  cases s.bus.broadcast <;> rfl

/-! ### The obligation -/

/-- Settles O52: each command by its work, READ READER with its record spelled. -/
theorem readerAndMessageCommands : Obligations.ReaderAndMessageCommands := by
  refine ⟨fun s i x hr => ⟨fun h => refuses_of_work hr rfl (configureReaderWork_invalid h), fun h => ?_⟩,
    fun s i r display broadcast ho hr he hdn hd hbn hb => ?_,
    displayPayload_spelled,
    fun s i w x y z hr => ⟨fun h => refuses_of_work hr rfl (presetReaderCountersWork_invalid h),
      fun hw hx hy hz h => ?_⟩,
    fun s x hr => ⟨fun h => refuses_of_work hr rfl (if_pos h), fun h => ?_⟩⟩
  · exact answers_modifyReader hr rfl (keepsAllBut_refl [] s) (configureReaderWork_strict h)
  · rw [← readerBytes_spelled he hdn hd hbn hb, he]
    exact answers_modifyReader (body := fun s => readReaderWork i.val s.makeOwedRetries) hr rfl (keepsAllBut_drive s)
      ((congrArg (readReaderWork i.val) (makeOwedRetries_of_none ho)).trans (readReaderWork_val s.drive i))
  · exact answers_modifyReader hr rfl (keepsAllBut_refl [] s) (presetReaderCountersWork_preset hw hx hy hz h)
  · exact answers_of_result hr rfl (sendShopMessageWork_placed h) rfl rfl (keepsAllBut_bus s _) fun _ => rfl

end Sys2Proof.Machine
end

section
/-! SUPPORT. The events of the reader bus: what each leaves of the readers and of the bus (O53, O54). -/

namespace Sys2Proof.Machine

variable {s u : State} {i : StationId} {c : Instr} {b : Bus} {f : Reader → Reader} {rest : List StationId}

/-! ### Events at the bus and one reader -/

/-- An event that does nothing. -/
theorem happens_nothing (hr : s.resetLow = false) (hx : exec c s = s.event u) (hu : u = s) :
    Happens c s [] fun _ => True :=
  happens_of_event hr hx (hu ▸ keepsAllBut_refl [] u) trivial

/-- An event that changes the bus alone. -/
theorem happens_bus (hr : s.resetLow = false) (hx : exec c s = s.event u) (hu : u = { s with bus := b }) :
    Happens c s [.bus] fun t => t.bus = b := by
  subst hu
  exact happens_of_event hr hx (keepsAllBut_bus s b) rfl

/-- An event that changes the bus and the record of reader `i`. -/
theorem happens_readerAndBus (hr : s.resetLow = false) (hx : exec c s = s.event u)
    (hu : u = { s.modifyReader i f with bus := b }) :
    Happens c s [.readers, .bus] fun t =>
      t.bus = b ∧ t.reader i = f (s.reader i) ∧ KeepsOtherReaders i s t := by
  subst hu
  exact happens_of_event hr hx
    (keepsAllBut_trans (keepsAllBut_mono (keepsAllBut_modifyReader s i f) (by simp))
      (keepsAllBut_mono (keepsAllBut_bus _ b) (by simp)))
    ⟨rfl, State.reader_modifyReader_self s i f, keepsOtherReaders_modifyReader s i f⟩

theorem restOrNext_eq (l : List StationId) : restOrNext l = if l = [] then .atRest else .betweenSlots := by
  cases l <;> rfl

/-! ### Poll periods (R141, R154, R158) -/

theorem contains_pollList (s : State) (i : StationId) :
    s.pollList.contains i = ((s.station i).state != .disabled) := by
  rw [Bool.eq_iff_iff, List.contains_iff_mem, State.pollList, List.mem_filter]
  exact and_iff_right (mem_allStations i)

/-- A reader at a period start is polled exactly when its station is not DISABLED (R141). -/
theorem reader_startPeriod (s : State) (i : StationId) :
    s.startPeriod.reader i = (s.reader i).atPeriodStart ((s.station i).state != .disabled) := by
  rw [← contains_pollList]
  exact mapSixteen_get _ s.readers i

theorem keepsAllBut_startPeriod (s : State) : KeepsAllBut [.readers, .bus] s s.startPeriod := by
  intro p hp; cases p <;> first | rfl | exact fun _ => rfl | exact absurd (by decide) hp

/-- A reader reset and then taken into a new period is LOST and empty, and polled as listed (R158). -/
theorem Reader.atPeriodStart_busReset (r : Reader) (listed : Bool) :
    r.busReset.atPeriodStart listed =
      { r with polled := listed, link := .lost, consecutive := 0, display := none, displayReplaced := false } := by
  obtain ⟨polled⟩ := r
  cases listed <;> cases polled <;> rfl

theorem reader_resetBus (s : State) (i : StationId) :
    s.resetBus.reader i =
      { s.reader i with
        polled := (s.station i).state != .disabled, link := .lost, consecutive := 0
        display := none, displayReplaced := false } := by
  refine (reader_startPeriod _ i).trans ?_
  rw [← Reader.atPeriodStart_busReset]
  exact congrArg (Reader.atPeriodStart · _) (mapSixteen_get _ s.readers i)

theorem keepsAllBut_resetBus (s : State) : KeepsAllBut [.readers, .bus] s s.resetBus := by
  intro p hp; cases p <;> first | rfl | exact fun _ => rfl | exact absurd (by decide) hp

theorem bus_resetBus (s : State) :
    s.resetBus.bus =
      { phase := restOrNext s.pollList, clockHeld := false, toServe := s.pollList
        periodTimer := some (s.globals.pollPeriod * 10), broadcast := none } := rfl

theorem startPeriodIfDue_due (hp : s.bus.phase = .atRest) (ht : s.bus.periodTimer = none) :
    s.startPeriodIfDue = s.startPeriod := if_pos (by simp [State.periodDue, hp, ht])

/-! ### Slots begin (R142, R156) -/

theorem nextSlot_held (h : s.bus.clockHeld = true) : s.nextSlot = s := by
  unfold State.nextSlot
  split
  · next hc => exact absurd (h.symm.trans hc) (by decide)
  · rfl

theorem nextSlot_next (hp : s.bus.phase = .betweenSlots) (hs : s.bus.toServe = i :: rest)
    (hc : s.bus.clockHeld = false) : s.nextSlot = s.beginSlot i rest := by
  unfold State.nextSlot
  rw [hp, hs, hc]

theorem beginSlot_display {d : Display} (hl : (s.reader i).link = .inService) (hd : (s.reader i).display = some d) :
    s.beginSlot i rest =
      { s.modifyReader i fun r => { r with displayReplaced := false } with
        bus := { s.bus with phase := .displaying i d, toServe := rest } } := by
  unfold State.beginSlot
  rw [hl, hd]

theorem beginSlot_poll (h : (s.reader i).link = .lost ∨ (s.reader i).display = none) :
    s.beginSlot i rest = { s with bus := { s.bus with phase := .polling i, toServe := rest } } := by
  unfold State.beginSlot
  split
  · next hl hd => exact absurd h (by simp [hl, hd])
  · rfl

/-- Settles O53: the period start reader by reader, the slot by the link state and the waiting message. -/
theorem pollPeriodsAndSlotsBegin : Obligations.PollPeriodsAndSlotsBegin := by
  rintro s list hr rfl
  refine ⟨fun hready => ?_, fun hp ht => ?_, happens_bus hr rfl rfl, fun hc => ?_, fun i rest hp hs hc =>
    ⟨fun d hl hd => ?_, fun h => ?_⟩⟩
  · refine answers_of_result (t := s.resetBus) (body := fun s => (s.resetBus, bare .ok)) hready rfl rfl rfl rfl
      (keepsAllBut_resetBus s) fun l => ⟨?_, reader_resetBus s⟩
    exact (bus_resetBus s).trans (by rw [restOrNext_eq]; rfl)
  · have hx : exec .pollPeriodStart s = s.event s.startPeriod := congrArg s.event (startPeriodIfDue_due hp ht)
    refine happens_of_event hr hx (keepsAllBut_startPeriod s)
      ⟨fun i => ?_, rfl, rfl, rfl, rfl, fun x hb => ?_, fun hb => ?_⟩
    · rw [State.reader_drive, reader_startPeriod]
      refine ⟨fun h => ?_, fun h hq => ?_, fun h hq => ?_⟩
      · rw [bne_iff_ne.2 h]; rfl
      · rw [h]; unfold Reader.atPeriodStart; rw [hq]; rfl
      · rw [h]; unfold Reader.atPeriodStart; rw [hq]; rfl
    · show s.startPeriod.bus.phase = _
      unfold State.startPeriod
      rw [hb]
    · rw [← restOrNext_eq]
      show s.startPeriod.bus.phase = _
      unfold State.startPeriod
      rw [hb]
      rfl
  · exact happens_nothing hr rfl (nextSlot_held hc)
  · refine (happens_readerAndBus hr rfl ((nextSlot_next hp hs hc).trans (beginSlot_display hl hd))).imp ?_
    rintro t ⟨hbus, hself, hothers⟩
    exact ⟨hbus, hself, hothers, by rw [hbus]; rfl⟩
  · refine (happens_bus hr rfl ((nextSlot_next hp hs hc).trans (beginSlot_poll h))).imp ?_
    intro t hbus
    exact ⟨hbus, by rw [hbus]; rfl⟩

/-! ### Transfers end (R142 to R144, R149, R152, R156) -/

/-- The outcome NO_ANSWER on a record: counted in either link state, the third in a row in service takes the reader
to LOST (R149, R152). -/
theorem Reader.judged_noAnswer (r : Reader) :
    r.judged false [.noAnswer] =
      { r with
        noAnswer := min (r.noAnswer + 1) 255
        counterSaturated := r.counterSaturated || decide (255 ≤ r.noAnswer)
        link := if r.link = .inService ∧ r.consecutive < 2 then .inService else .lost
        consecutive := if r.link = .inService ∧ r.consecutive < 2 then r.consecutive + 1 else 0
        linkLost := r.linkLost || decide (r.link = .inService ∧ 2 ≤ r.consecutive) } := by
  have hcount : r.countFaults [.noAnswer] =
      { r with
        noAnswer := min (r.noAnswer + 1) 255
        counterSaturated := r.counterSaturated || decide (255 ≤ r.noAnswer) } := if_pos (.inr rfl)
  unfold Reader.judged
  rw [hcount]
  unfold Reader.applyOutcome
  cases r.link
  · by_cases hc : r.consecutive < 2
    · simp [hc]
    · simp [hc, Nat.le_of_not_lt hc]
  · simp

theorem broadcastEnd_free {x : Nat} (hp : s.bus.phase = .broadcasting x) (hc : s.bus.clockHeld = false) :
    s.broadcastEnd = { s with bus := { s.bus with phase := restOrNext s.bus.toServe } } := by
  unfold State.broadcastEnd
  rw [hp, hc]

theorem broadcastEnd_held (hc : s.bus.clockHeld = true) : s.broadcastEnd = s := by
  unfold State.broadcastEnd
  split
  · next h => exact absurd (hc.symm.trans h) (by decide)
  · rfl

theorem displayEnd_displaying {d : Display} (hp : s.bus.phase = .displaying i d) (delivered : Bool) :
    s.displayEnd delivered =
      { s.modifyReader i fun r => r.afterDisplay delivered with bus := { s.bus with phase := .polling i } } := by
  unfold State.displayEnd
  rw [hp]

theorem Reader.afterDisplay_eq (r : Reader) (delivered : Bool) :
    r.afterDisplay delivered =
      if delivered = true ∧ r.displayReplaced = false then { r with display := none } else r := by
  unfold Reader.afterDisplay
  cases delivered <;> cases r.displayReplaced <;> rfl

theorem pollEnd_acknowledged (hp : s.bus.phase = .polling i) :
    s.pollEnd true = { s with bus := { s.bus with phase := .reading i s.globals.answerLimit } } := by
  unfold State.pollEnd
  rw [hp]
  rfl

theorem pollEnd_unacknowledged (hp : s.bus.phase = .polling i) :
    s.pollEnd false =
      { s.modifyReader i fun r => r.judged false [.noAnswer] with
        bus := { s.bus with phase := restOrNext s.bus.toServe } } := by
  unfold State.pollEnd
  rw [hp]
  rfl

theorem limitReached_reading {limit : Nat} (hp : s.bus.phase = .reading i limit) :
    s.limitReached =
      { s.modifyReader i fun r => r.judged false [.noAnswer] with
        bus := { s.bus with phase := restOrNext s.bus.toServe, clockHeld := true } } := by
  unfold State.limitReached
  rw [hp]
  rfl

/-- Settles O54: each end in its phase, NO_ANSWER on the record where the answer fails to come. -/
theorem transfersEndByTheirOutcome : Obligations.TransfersEndByTheirOutcome := by
  rintro s i after unanswered hr rfl rfl
  rw [← restOrNext_eq, ← Reader.judged_noAnswer]
  refine ⟨fun x hp => ⟨fun hc => ?_, fun hc => ?_⟩, fun d delivered hp => ?_, fun hp => ⟨?_, ?_⟩,
    fun limit hp => ?_, happens_bus hr rfl rfl⟩
  · exact happens_bus hr rfl (broadcastEnd_free hp hc)
  · exact happens_nothing hr rfl (broadcastEnd_held hc)
  · refine (happens_readerAndBus hr rfl (displayEnd_displaying hp delivered)).imp ?_
    rintro t ⟨hbus, hself, hothers⟩
    exact ⟨hbus, hothers, hself.trans (Reader.afterDisplay_eq _ delivered)⟩
  · exact happens_bus hr rfl (pollEnd_acknowledged hp)
  · exact happens_readerAndBus hr rfl (pollEnd_unacknowledged hp)
  · exact happens_readerAndBus hr rfl (limitReached_reading hp)

end Sys2Proof.Machine
end

section
/-! SUPPORT. ANSWER_RECEIVED: the outcome of an answer on the reader record, and the state in which the station takes
the event (O56). -/

namespace Sys2Proof.Machine

variable {s : State} {i : StationId} {r : Reader} {good : Bool} {cs : List ErrorCounter}

/-! ### The outcome on the record (R149, R150, R152) -/

theorem countFault_link (c : ErrorCounter) (r : Reader) :
    (r.countFault c).link = r.link ∧ (r.countFault c).consecutive = r.consecutive ∧
      (r.countFault c).linkLost = r.linkLost := by
  unfold Reader.countFault
  split
  · cases c <;> exact ⟨rfl, rfl, rfl⟩
  · exact ⟨rfl, rfl, rfl⟩

/-- Counting faults leaves the link state, its count and LINK_LOST. -/
theorem countFaults_link (cs : List ErrorCounter) (r : Reader) :
    (r.countFaults cs).link = r.link ∧ (r.countFaults cs).consecutive = r.consecutive ∧
      (r.countFaults cs).linkLost = r.linkLost := by
  induction cs generalizing r with
  | nil => exact ⟨rfl, rfl, rfl⟩
  | cons c cs ih =>
    obtain ⟨hlink, hcount, hlost⟩ := ih (r.countFault c)
    obtain ⟨hlink₁, hcount₁, hlost₁⟩ := countFault_link c r
    exact ⟨hlink.trans hlink₁, hcount.trans hcount₁, hlost.trans hlost₁⟩

/-- The outcome changes the link state, its count and LINK_LOST alone. -/
theorem Reader.applyOutcome_frame (r : Reader) (good : Bool) :
    r.applyOutcome good =
      { r with
        link := (r.applyOutcome good).link, consecutive := (r.applyOutcome good).consecutive
        linkLost := (r.applyOutcome good).linkLost } := by
  unfold Reader.applyOutcome
  (repeat' split) <;> rfl

theorem applyOutcome_inService_good (h : r.link = .inService) : r.applyOutcome true = { r with consecutive := 0 } := by
  unfold Reader.applyOutcome
  rw [h]

theorem applyOutcome_inService_bad (h : r.link = .inService) (hc : r.consecutive < 2) :
    r.applyOutcome false = { r with consecutive := r.consecutive + 1 } := by
  unfold Reader.applyOutcome
  rw [h]
  exact if_pos hc

theorem applyOutcome_inService_third (h : r.link = .inService) (hc : 2 ≤ r.consecutive) :
    r.applyOutcome false = { r with link := .lost, consecutive := 0, linkLost := true } := by
  unfold Reader.applyOutcome
  rw [h]
  exact if_neg (Nat.not_lt.2 hc)

theorem applyOutcome_lost_bad (h : r.link = .lost) : r.applyOutcome false = { r with consecutive := 0 } := by
  unfold Reader.applyOutcome
  rw [h]

theorem applyOutcome_lost_good (h : r.link = .lost) (hc : r.consecutive < 2) :
    r.applyOutcome true = { r with consecutive := r.consecutive + 1 } := by
  unfold Reader.applyOutcome
  rw [h]
  exact if_pos hc

theorem applyOutcome_lost_third (h : r.link = .lost) (hc : 2 ≤ r.consecutive) :
    r.applyOutcome true = { r with link := .inService, consecutive := 0 } := by
  unfold Reader.applyOutcome
  rw [h]
  exact if_neg (Nat.not_lt.2 hc)

/-- Under LOST an outcome never touches LINK_LOST (R152). -/
theorem linkLost_applyOutcome_lost (h : r.link = .lost) (good : Bool) :
    (r.applyOutcome good).linkLost = r.linkLost := by
  cases good with
  | false => rw [applyOutcome_lost_bad h]
  | true =>
    rcases Nat.lt_or_ge r.consecutive 2 with hc | hc
    · rw [applyOutcome_lost_good h hc]
    · rw [applyOutcome_lost_third h hc]

/-- In service every fault stands on its counter, which stops at 255, and COUNTER_SATURATED tells of one counted
beyond (R149, R150). -/
theorem judged_inService_counters (h : r.link = .inService) (hr : r.inRange) (hn : .noAnswer ∉ cs) (good : Bool) :
    r.judged good cs =
      { r with
        link := (r.judged good cs).link, consecutive := (r.judged good cs).consecutive
        linkLost := (r.judged good cs).linkLost
        hdrCorrected := min (r.hdrCorrected + cs.count .hdrCorrected) 255
        hdrBad := min (r.hdrBad + cs.count .hdrBad) 255
        crcBad := min (r.crcBad + cs.count .crcBad) 255
        counterSaturated :=
          r.counterSaturated || decide (255 < r.hdrCorrected + cs.count .hdrCorrected) ||
            decide (255 < r.hdrBad + cs.count .hdrBad) || decide (255 < r.crcBad + cs.count .crcBad) } := by
  have hframe := Reader.applyOutcome_frame (r.countFaults cs) good
  rw [countFaults_eq cs hn r h hr] at hframe
  unfold Reader.judged
  rw [countFaults_eq cs hn r h hr]
  exact hframe

/-- Under LOST no fault is counted (R149). -/
theorem judged_lost_counters (h : r.link = .lost) (hn : .noAnswer ∉ cs) (good : Bool) :
    r.judged good cs =
      { r with link := (r.judged good cs).link, consecutive := (r.judged good cs).consecutive } := by
  have hframe := Reader.applyOutcome_frame r good
  rw [linkLost_applyOutcome_lost h good] at hframe
  unfold Reader.judged
  rw [countFaults_of_lost cs hn r h]
  exact hframe

/-! ### The event handed on (R146, R153) -/

/-- The outcome of a judgement applied to reader `i`. -/
def State.withOutcome (s : State) (i : StationId) (j : Judgement) : State :=
  s.modifyReader i fun r => r.judged j.good j.faults

theorem takeAnswer_event {frame : List Byte} {j : Judgement} {e : ReaderEvent}
    (hj : j = judgeAnswer i (s.reader i).strictHeader frame) (hg : j.good = true) (he : j.event = some e)
    (hl : ((s.withOutcome i j).reader i).link = .inService) :
    s.takeAnswer i frame = (s.withOutcome i j).readerEvent i e := by
  subst hj
  unfold State.withOutcome at *
  unfold State.takeAnswer
  dsimp only
  split
  · next e' _ he' _ =>
    rw [he] at he'
    cases he'
    rfl
  · next h => exact absurd hl (h e hg he)

theorem takeAnswer_silent {frame : List Byte} {j : Judgement}
    (hj : j = judgeAnswer i (s.reader i).strictHeader frame)
    (h : j.good = false ∨ j.event = none ∨ ((s.withOutcome i j).reader i).link = .lost) :
    s.takeAnswer i frame = s.withOutcome i j := by
  subst hj
  unfold State.withOutcome at *
  unfold State.takeAnswer
  dsimp only
  split
  · next hg he hl =>
    rcases h with h | h | h
    · exact absurd (h.symm.trans hg) (by decide)
    · exact absurd (h.symm.trans he) (by simp)
    · exact absurd (h.symm.trans hl) (by decide)
  · rfl

/-- Taking an answer leaves the bus. -/
theorem bus_takeAnswer (s : State) (i : StationId) (frame : List Byte) : (s.takeAnswer i frame).bus = s.bus := by
  have hboard : (s.takeAnswer i frame).board = s.board := by
    unfold State.takeAnswer
    dsimp only
    split
    · rw [board_readerEvent, board_modifyReader]
    · rw [board_modifyReader]
  obtain ⟨-, -, -, -, -, -, -, hbus, -⟩ := board_eq hboard
  exact hbus

theorem answerTaken_reading {limit : Nat} (hp : s.bus.phase = .reading i limit) (frame : List Byte) :
    s.answerTaken frame = (s.takeAnswer i frame).endSlot := by
  unfold State.answerTaken
  rw [hp]

theorem keepsAllBut_endedSlot (s : State) : KeepsAllBut [.bus] s s.endSlot.drive := fun p hp =>
  agrees_drive (keepsAllBut_bus s _ p hp)

/-- Settles O56: the outcome on the record by link state and count, then the event in the state it leaves. -/
theorem answerOutcomeIsApplied : Obligations.AnswerOutcomeIsApplied := by
  intro s i limit frame j hr hp hj
  have hn : .noAnswer ∉ j.faults := hj ▸ noAnswer_not_mem_judgeAnswer i _ frame
  have hself : (s.withOutcome i j).reader i = (s.reader i).judged j.good j.faults :=
    State.reader_modifyReader_self s i _
  have hexec : exec (.answerReceived frame) s = .next (s.takeAnswer i frame).endSlot.drive := by
    refine (congrArg s.event (answerTaken_reading hp frame)).trans ?_
    unfold State.event
    rw [hr]
    rfl
  obtain ⟨hlink, hcount, hlost⟩ := countFaults_link j.faults (s.reader i)
  refine ⟨s.withOutcome i j, _, hexec, drive_pinsLaw _, keepsAllBut_modifyReader s i _,
    keepsOtherReaders_modifyReader s i _, hself, ?_, fun e hg he hl => ?_, fun h => ?_, ?_⟩
  · rw [← restOrNext_eq, ← bus_takeAnswer s i frame]
    rfl
  · rw [takeAnswer_event hj hg he hl]
    exact keepsAllBut_endedSlot _
  · rw [takeAnswer_silent hj h]
    exact keepsAllBut_endedSlot _
  rw [hself]
  refine ⟨fun h hg => ?_, fun h hg => ⟨fun hc => ?_, fun hc => ?_⟩, fun h hg => ?_,
    fun h hg => ⟨fun hc => ?_, fun hc => ?_⟩, fun h hrange corrected bad crc => ?counters,
    fun h hg => ?_, fun h => judged_lost_counters h hn j.good⟩
  case counters =>
    rintro rfl rfl rfl
    exact judged_inService_counters h hrange hn j.good
  all_goals
    rw [hg]
    unfold Reader.judged
    rw [← hlink] at h
  · rw [applyOutcome_inService_good h]; exact ⟨h, rfl⟩
  · rw [applyOutcome_inService_bad h (hcount ▸ hc), hcount]; exact ⟨h, rfl, hlost⟩
  · rw [applyOutcome_inService_third h (hcount ▸ hc)]; exact ⟨rfl, rfl, rfl⟩
  · rw [applyOutcome_lost_bad h]; exact ⟨h, rfl⟩
  · rw [applyOutcome_lost_good h (hcount ▸ hc), hcount]; exact ⟨h, rfl⟩
  · rw [applyOutcome_lost_third h (hcount ▸ hc)]; exact ⟨rfl, rfl⟩
  · rw [applyOutcome_inService_good h]; exact hlost

end Sys2Proof.Machine
end

section
/-! SUPPORT. The header check of R195: the parities spelled bit by bit, their linearity, the check byte read back, and
the finding for a header as sent, for one with a bit flipped, and by syndrome and parity (O55). -/

namespace Sys2Proof.Machine

variable {header received : BitVec 16} {check : Byte}

/-! ### Parities (R195) -/

theorem foldl_xor (l : List Bool) (b : Bool) : l.foldl xor b = xor b (parity l) := by
  unfold parity
  induction l generalizing b with
  | nil => simp
  | cons a l ih => rw [List.foldl_cons, List.foldl_cons, ih, ih (xor false a), Bool.false_xor, Bool.xor_assoc]

theorem parity_cons (a : Bool) (l : List Bool) : parity (a :: l) = xor a (parity l) := by
  show l.foldl xor (xor false a) = _
  rw [foldl_xor, Bool.false_xor]

/-- The parity of an exclusive-or is the exclusive-or of the parities. -/
theorem parity_map_xor {α : Type} (f g : α → Bool) (l : List α) :
    parity (l.map fun x => xor (f x) (g x)) = xor (parity (l.map f)) (parity (l.map g)) := by
  induction l with
  | nil => rfl
  | cons a l ih =>
    rw [List.map_cons, List.map_cons, List.map_cons, parity_cons, parity_cons, parity_cons, ih, Bool.xor_assoc,
      Bool.xor_assoc, Bool.xor_left_comm (g a)]

theorem checkBit_eq (header : BitVec 16) (k : Nat) :
    checkBit header k = parity (codePositions.zipIdx.map fun p => p.1.testBit k && header.getLsbD (15 - p.2)) := by
  unfold checkBit numberedBits
  rw [List.map_map]
  rfl

theorem headerParity_eq (header : BitVec 16) :
    headerParity header = parity (codePositions.zipIdx.map fun p => header.getLsbD (15 - p.2)) := by
  unfold headerParity numberedBits
  rw [List.map_map]
  rfl

theorem checkBit_xor (a b : BitVec 16) (k : Nat) : checkBit (a ^^^ b) k = xor (checkBit a k) (checkBit b k) := by
  simp only [checkBit_eq, BitVec.getLsbD_xor, Bool.and_xor_distrib_left, parity_map_xor]

theorem headerParity_xor (a b : BitVec 16) :
    headerParity (a ^^^ b) = xor (headerParity a) (headerParity b) := by
  simp only [headerParity_eq, BitVec.getLsbD_xor, parity_map_xor]

/-- The five check bits, each over the header bits whose code position has its bit set (R195). -/
theorem checkBit_spelled (received : BitVec 16) :
    checkBit received 0 = ([15, 14, 12, 11, 9, 7, 5, 4, 2, 0].foldl (fun b n => xor b (received.getLsbD n)) false) ∧
    checkBit received 1 = ([15, 13, 12, 10, 9, 6, 5, 3, 2].foldl (fun b n => xor b (received.getLsbD n)) false) ∧
    checkBit received 2 = ([14, 13, 12, 8, 7, 6, 5, 1, 0].foldl (fun b n => xor b (received.getLsbD n)) false) ∧
    checkBit received 3 = ([11, 10, 9, 8, 7, 6, 5].foldl (fun b n => xor b (received.getLsbD n)) false) ∧
    checkBit received 4 = ([4, 3, 2, 1, 0].foldl (fun b n => xor b (received.getLsbD n)) false) := by
  refine ⟨?_, ?_, ?_, ?_, ?_⟩
  all_goals
    simp [checkBit, numberedBits, codePositions, parity, Nat.testBit, Nat.shiftRight_eq_div_pow]

theorem headerParity_spelled (received : BitVec 16) :
    headerParity received =
      [15, 14, 13, 12, 11, 10, 9, 8, 7, 6, 5, 4, 3, 2, 1, 0].foldl (fun b n => xor b (received.getLsbD n)) false := rfl

/-! ### The check byte read back -/

/-- The bits of a byte made of five check bits and the overall parity. -/
theorem checkByte_bits : ∀ c0 c1 c2 c3 c4 p : Bool,
    let byte := BitVec.ofNat 8 (ofFive c0 c1 c2 c3 c4 + 32 * p.toNat)
    byte.getLsbD 0 = c0 ∧ byte.getLsbD 1 = c1 ∧ byte.getLsbD 2 = c2 ∧ byte.getLsbD 3 = c3 ∧
      byte.getLsbD 4 = c4 ∧ byte.getLsbD 5 = p := by
  decide

/-- Against the check byte of another header, the syndrome is that of the difference (R195). -/
theorem syndrome_xor (header e : BitVec 16) :
    syndrome (header ^^^ e) (headerCheckByte header) =
      ofFive (checkBit e 0) (checkBit e 1) (checkBit e 2) (checkBit e 3) (checkBit e 4) := by
  obtain ⟨h0, h1, h2, h3, h4, -⟩ := checkByte_bits (checkBit header 0) (checkBit header 1) (checkBit header 2)
    (checkBit header 3) (checkBit header 4) (parity [headerParity header, checkBit header 0, checkBit header 1,
      checkBit header 2, checkBit header 3, checkBit header 4])
  unfold syndrome headerCheckByte
  dsimp only at h0 h1 h2 h3 h4 ⊢
  rw [h0, h1, h2, h3, h4]
  simp only [checkBit_xor, ← Bool.xor_assoc, Bool.xor_self, Bool.false_xor]

/-- Against the check byte of another header, the overall parity tells that of the difference (R195). -/
theorem parityGood_xor (header e : BitVec 16) :
    parityGood (header ^^^ e) (headerCheckByte header) = !headerParity e := by
  obtain ⟨h0, h1, h2, h3, h4, h5⟩ := checkByte_bits (checkBit header 0) (checkBit header 1) (checkBit header 2)
    (checkBit header 3) (checkBit header 4) (parity [headerParity header, checkBit header 0, checkBit header 1,
      checkBit header 2, checkBit header 3, checkBit header 4])
  unfold parityGood headerCheckByte
  dsimp only at h0 h1 h2 h3 h4 h5 ⊢
  rw [h0, h1, h2, h3, h4, h5, headerParity_xor]
  simp only [parity_cons]
  cases headerParity header <;> cases headerParity e <;> simp

/-! ### Code positions -/

/-- The code position of header bit `n`, counted from bit 7 of byte 0 (R195). -/
def codePosition (n : Fin 16) : Nat := codePositions[n.val]'n.isLt

theorem findIdx_codePosition : ∀ n : Fin 16, codePositions.findIdx? (· == codePosition n) = some n.val := by
  decide

theorem flipAt_codePosition (header : BitVec 16) (n : Fin 16) :
    flipAt header (codePosition n) = header ^^^ (1#16 <<< (15 - n.val)) := by
  unfold flipAt
  rw [findIdx_codePosition n]

theorem flipAt_checkPosition {p : Nat} (h : p ∈ [0, 1, 2, 4, 8, 16]) (header : BitVec 16) :
    flipAt header p = header := by
  have hnone : ∀ p ∈ [0, 1, 2, 4, 8, 16], codePositions.findIdx? (· == p) = none := by decide
  unfold flipAt
  rw [hnone p h]

/-- A single flipped bit has its code position as syndrome, and an odd parity. -/
theorem oneBit_checks : ∀ n : Fin 16,
    let e := 1#16 <<< (15 - n.val)
    ofFive (checkBit e 0) (checkBit e 1) (checkBit e 2) (checkBit e 3) (checkBit e 4) = codePosition n ∧
      headerParity e = true ∧ codePosition n ≤ 21 := by
  decide

theorem noBit_checks :
    ofFive (checkBit 0#16 0) (checkBit 0#16 1) (checkBit 0#16 2) (checkBit 0#16 3) (checkBit 0#16 4) = 0 ∧
      headerParity 0#16 = false := by
  decide

/-! ### The finding (R145, R195) -/

theorem headerCheck_clean (hp : parityGood received check = true) (hs : syndrome received check = 0) :
    headerCheck received check = (.clean, received) :=
  (if_pos hp).trans (if_pos hs)

theorem headerCheck_corrected (hp : parityGood received check = false) (hs : syndrome received check ≤ 21) :
    headerCheck received check = (.corrected, flipAt received (syndrome received check)) := by
  refine (if_neg (by simp [hp])).trans ?_
  by_cases h : syndrome received check = 0
  · rw [if_pos h, h, flipAt_checkPosition (by simp)]
  · rw [if_neg h, if_pos hs]

theorem headerCheck_uncorrectable
    (h : (if parityGood received check then decide (syndrome received check ≠ 0)
      else decide (21 < syndrome received check)) = true) :
    headerCheck received check = (.uncorrectable, received) := by
  unfold headerCheck
  dsimp only
  split at h <;> simp only [decide_eq_true_eq] at h
  · next hp => rw [if_pos hp, if_neg h]
  · next hp => rw [if_neg hp, if_neg (by omega), if_neg (by omega)]

theorem headerCheck_sent (header : BitVec 16) : headerCheck header (headerCheckByte header) = (.clean, header) := by
  obtain ⟨hnone, heven⟩ := noBit_checks
  have hs := syndrome_xor header 0#16
  have hp := parityGood_xor header 0#16
  rw [hnone, BitVec.xor_zero] at hs
  rw [heven, BitVec.xor_zero] at hp
  exact headerCheck_clean hp hs

theorem headerCheck_flipped (header : BitVec 16) (bit : Fin 16) :
    headerCheck (header ^^^ (1#16 <<< bit.val)) (headerCheckByte header) = (.corrected, header) := by
  obtain ⟨hone, hodd, hle⟩ := oneBit_checks bit.rev
  have hbit : 15 - bit.rev.val = bit.val := by rw [Fin.val_rev]; omega
  rw [hbit] at hone hodd
  have hs := (syndrome_xor header (1#16 <<< bit.val)).trans hone
  have hp : parityGood _ _ = false := (parityGood_xor header (1#16 <<< bit.val)).trans (by rw [hodd]; rfl)
  rw [headerCheck_corrected hp (hs ▸ hle), hs, flipAt_codePosition, hbit, BitVec.xor_assoc, BitVec.xor_self,
    BitVec.xor_zero]

end Sys2Proof.Machine
end

section
/-! SUPPORT. The content check of an answer: the fields of its header, the events its payload spells, header faults and
payload faults; and from finding, CRC and content the judgement (O55). -/

namespace Sys2Proof.Machine

variable {i : StationId} {strict : Bool} {h header received : BitVec 16} {check : Byte} {payload : List Byte}
  {event : Option ReaderEvent} {found : List ErrorCounter} {f : Finding}

/-! ### Bytes read as numbers (R188) -/

theorem beNat_append_byte (l : List Byte) (b : Byte) : beNat (l ++ [b]) = beNat l * 256 + b.toNat := by
  unfold beNat
  rw [List.foldl_append]
  rfl

theorem beNat_be (k n : Nat) : beNat (be k n) = n % 256 ^ k := by
  induction k generalizing n with
  | zero => simp [be, beNat, Nat.mod_one]
  | succ k ih =>
    have hb : (BitVec.ofNat 8 n).toNat = n % 256 := rfl
    rw [be, beNat_append_byte, ih, hb, pow_succ', Nat.mod_mul]
    ring

theorem be_beNat (l : List Byte) : be l.length (beNat l) = l := by
  induction l using List.reverseRecOn with
  | nil => rfl
  | append_singleton l b ih =>
    have hb := b.isLt
    have hlow : BitVec.ofNat 8 (beNat l * 256 + b.toNat) = b := BitVec.eq_of_toNat_eq (by simp; omega)
    have hhigh : (beNat l * 256 + b.toNat) / 256 = beNat l := by omega
    rw [List.length_append, List.length_singleton, be, beNat_append_byte, hhigh, hlow, ih]

theorem beNat_lt (l : List Byte) : beNat l < 256 ^ l.length := by
  have hmod := beNat_be l.length (beNat l)
  rw [be_beNat] at hmod
  exact hmod ▸ Nat.mod_lt _ (by positivity)

/-- The eight bytes of a payload spell the all-zero token only when all are zero. -/
theorem tokenAt_eq_zero_iff (hl : 8 ≤ payload.length) :
    tokenAt payload 0 = 0#64 ↔ payload.take 8 = List.replicate 8 0#8 := by
  have hlen : (payload.take 8).length = 8 := by rw [List.length_take]; omega
  have hlt := beNat_lt (payload.take 8)
  rw [hlen] at hlt
  have hnat : tokenAt payload 0 = 0#64 ↔ beNat (payload.take 8) = 0 := by
    rw [← BitVec.toNat_inj]
    show beNat (payload.take 8) % 2 ^ 64 = 0 ↔ _
    rw [Nat.mod_eq_of_lt (by omega)]
  rw [hnat]
  refine ⟨fun hz => ?_, fun hz => by rw [hz]; rfl⟩
  have hback := be_beNat (payload.take 8)
  rw [hlen, hz] at hback
  rw [← hback]
  decide

/-- The payload of a CARD answer, read back (R195). -/
theorem card_fields (k : Token) (a b : Byte) :
    tokenAt (be 8 k.toNat ++ [a, b]) 0 = k ∧ numberAt (be 8 k.toNat ++ [a, b]) 8 1 = a.toNat ∧
      numberAt (be 8 k.toNat ++ [a, b]) 9 1 = b.toNat := by
  have hlen := length_be 8 k.toNat
  have htoken : slice (be 8 k.toNat ++ [a, b]) 0 8 = be 8 k.toNat := slice_middle [] _ _ 0 8 rfl hlen
  have hkind : slice (be 8 k.toNat ++ [a, b]) 8 1 = [a] := by
    simpa using slice_middle (be 8 k.toNat) [a] [b] 8 1 hlen rfl
  have hstyle : slice (be 8 k.toNat ++ [a, b]) 9 1 = [b] := by
    simpa using slice_middle (be 8 k.toNat ++ [a]) [b] [] 9 1 (by rw [List.length_append, hlen]; rfl) rfl
  refine ⟨?_, ?_, ?_⟩
  · refine BitVec.eq_of_toNat_eq ?_
    show beNat (slice _ 0 8) % 2 ^ 64 = _
    rw [htoken, beNat_be]
    exact (congrArg (· % 2 ^ 64) (Nat.mod_eq_of_lt k.isLt)).trans (Nat.mod_eq_of_lt k.isLt)
  · show beNat (slice _ 8 1) = _
    rw [hkind]
    simp [beNat]
  · show beNat (slice _ 9 1) = _
    rw [hstyle]
    simp [beNat]

/-! ### Header faults (R147, R195) -/

theorem readerPayload_iff (type length : Nat) :
    readerPayload type = some length ↔ (type, length) ∈ [((4 : Nat), (0 : Nat)), (5, 10), (6, 0), (7, 1)] := by
  unfold readerPayload
  split <;> simp_all [eq_comm]

theorem headerFault_iff (i : StationId) (h : BitVec 16) :
    headerFault i h = true ↔ headerAddress h ≠ i.val ∨ headerSpare h ≠ 0 ∨
      (headerType h, headerLength h) ∉ [((4 : Nat), (0 : Nat)), (5, 10), (6, 0), (7, 1)] := by
  rw [← readerPayload_iff]
  unfold headerFault
  simp only [Bool.or_eq_true, bne_iff_ne]
  tauto

/-! ### What a payload spells (R147, R195) -/

theorem payloadEvent_idle (ht : headerType h = 4) (payload : List Byte) : payloadEvent h payload = some none := by
  unfold payloadEvent
  rw [ht]
  rfl

theorem payloadEvent_cardOut (ht : headerType h = 6) (payload : List Byte) :
    payloadEvent h payload = some (some .cardOut) := by
  unfold payloadEvent
  rw [ht]
  rfl

theorem payloadEvent_endKey (ht : headerType h = 7) (hl : headerLength h = 1) :
    payloadEvent h [0#8] = some (some (.key .endKey)) := by
  unfold payloadEvent
  rw [ht, hl]
  rfl

theorem payloadEvent_cancelKey (ht : headerType h = 7) (hl : headerLength h = 1) :
    payloadEvent h [1#8] = some (some (.key .cancel)) := by
  unfold payloadEvent
  rw [ht, hl]
  rfl

theorem payloadEvent_card (ht : headerType h = 5) (hl : headerLength h = 10) {k : Token} (hk : k ≠ 0#64)
    (kind : CardKind) (style : SessionStyle) :
    payloadEvent h (be 8 k.toNat ++ [if kind = .shop then 0#8 else 1#8, if style = .tap then 0#8 else 1#8]) =
      some (some (.card k kind style)) := by
  obtain ⟨htoken, hkind, hstyle⟩ :=
    card_fields k (if kind = .shop then 0#8 else 1#8) (if style = .tap then 0#8 else 1#8)
  have hz : (k == 0#64) = false := beq_false_of_ne hk
  unfold payloadEvent
  rw [ht, hl]
  dsimp only
  rw [htoken, hkind, hstyle, hz]
  cases kind <;> cases style <;> rfl

/-- A payload fault of a CARD answer: the all-zero token, or a kind or style that there is not (R147). -/
theorem payloadEvent_card_isNone (ht : headerType h = 5) (hl : headerLength h = 10) (payload : List Byte) :
    (payloadEvent h payload).isNone = true ↔
      tokenAt payload 0 = 0#64 ∨ 1 < numberAt payload 8 1 ∨ 1 < numberAt payload 9 1 := by
  unfold payloadEvent
  rw [ht, hl]
  dsimp only
  by_cases hz : tokenAt payload 0 = 0#64
  · simp [hz]
  · rw [beq_false_of_ne hz]
    rcases numberAt payload 8 1 with _ | _ | n <;> rcases numberAt payload 9 1 with _ | _ | m <;> simp [hz]

/-- A payload fault of a KEY answer: a key other than END and CANCEL (R147). -/
theorem payloadEvent_key_isNone (ht : headerType h = 7) (hl : headerLength h = 1) (payload : List Byte) :
    (payloadEvent h payload).isNone = true ↔ 1 < numberAt payload 0 1 := by
  unfold payloadEvent
  rw [ht, hl]
  dsimp only
  rcases numberAt payload 0 1 with _ | _ | n <;> simp

/-- Other types and lengths carry no payload that could be at fault (R147). -/
theorem payloadEvent_other_isNone (hcard : ¬(headerType h = 5 ∧ headerLength h = 10))
    (hkey : ¬(headerType h = 7 ∧ headerLength h = 1)) (payload : List Byte) :
    (payloadEvent h payload).isNone = false := by
  unfold payloadEvent
  split
  · next ht hl => exact absurd ⟨ht, hl⟩ hcard
  · rfl
  · next ht hl => exact absurd ⟨ht, hl⟩ hkey
  · rfl

theorem payloadEvent_isNone_iff (hp : headerLength h = 10 → 8 ≤ payload.length) :
    (payloadEvent h payload).isNone = true ↔
      (headerType h = 5 ∧ headerLength h = 10 ∧
        (payload.take 8 = List.replicate 8 0#8 ∨ 1 < numberAt payload 8 1 ∨ 1 < numberAt payload 9 1)) ∨
      (headerType h = 7 ∧ headerLength h = 1 ∧ 1 < numberAt payload 0 1) := by
  by_cases hcard : headerType h = 5 ∧ headerLength h = 10
  · obtain ⟨ht, hl⟩ := hcard
    rw [payloadEvent_card_isNone ht hl, tokenAt_eq_zero_iff (hp hl), ht, hl]
    simp
  · by_cases hkey : headerType h = 7 ∧ headerLength h = 1
    · obtain ⟨ht, hl⟩ := hkey
      rw [payloadEvent_key_isNone ht hl, ht, hl]
      simp
    · rw [payloadEvent_other_isNone hcard hkey]
      simp only [Bool.false_eq_true, false_iff, not_or]
      exact ⟨fun ⟨ht, hl, _⟩ => hcard ⟨ht, hl⟩, fun ⟨ht, hl, _⟩ => hkey ⟨ht, hl⟩⟩

/-! ### The content check (R147) -/

theorem contentCheck_good (hh : headerFault i h = false) (hp : payloadEvent h payload = some event)
    (found : List ErrorCounter) :
    contentCheck i h payload found = { good := true, faults := found, event := event } := by
  unfold contentCheck
  rw [hh, hp]
  simp

theorem contentCheck_faulty {hf pf : Bool} (hh : headerFault i h = hf) (hp : (payloadEvent h payload).isNone = pf)
    (hor : hf = true ∨ pf = true) (found : List ErrorCounter) :
    contentCheck i h payload found =
      { good := false
        faults := found ++ (if hf then [.hdrBad] else []) ++ (if pf then [.crcBad] else [])
        event := none } := by
  subst hh hp
  unfold contentCheck
  rcases hor with h' | h'
  · simp [h']
  · cases hpe : payloadEvent h payload with
    | none => simp
    | some e => rw [hpe] at h'; cases h'

/-! ### Well-made answers (Table 7-3) -/

/-- Type, payload and event of an answer that a reader sends (Table 7-3, R195). -/
def WellMade (type : Nat) (payload : List Byte) (event : Option ReaderEvent) : Prop :=
  (type = 4 ∧ payload = [] ∧ event = none) ∨
    (∃ (k : Token) (kind : CardKind) (style : SessionStyle), type = 5 ∧ k ≠ 0#64 ∧
      payload = be 8 k.toNat ++ [if kind = .shop then 0#8 else 1#8, if style = .tap then 0#8 else 1#8] ∧
      event = some (.card k kind style)) ∨
    (type = 6 ∧ payload = [] ∧ event = some .cardOut) ∨
    (type = 7 ∧ payload = [0#8] ∧ event = some (.key .endKey)) ∨
    (type = 7 ∧ payload = [1#8] ∧ event = some (.key .cancel))

/-- The fields of a header as the reader makes it (R195). -/
theorem header_fields {type length : Nat} (ht : type < 8) (hl : length < 32)
    (hh : h = BitVec.ofNat 16 (i.val * 2048 + type * 256 + length)) :
    headerAddress h = i.val ∧ headerType h = type ∧ headerSpare h = 0 ∧ headerLength h = length := by
  have hi := i.isLt
  have hn : h.toNat = i.val * 2048 + type * 256 + length := by
    rw [hh, BitVec.toNat_ofNat]
    omega
  unfold headerAddress headerType headerSpare headerLength
  rw [hn]
  omega

/-- The length that a well-made answer's type asks for is the length it has. -/
theorem WellMade.readerPayload {type : Nat} (hw : WellMade type payload event) :
    readerPayload type = some payload.length := by
  rcases hw with ⟨rfl, rfl, -⟩ | ⟨k, kind, style, rfl, -, rfl, -⟩ | ⟨rfl, rfl, -⟩ |
    ⟨rfl, rfl, -⟩ | ⟨rfl, rfl, -⟩
  case inr.inl => rw [List.length_append, length_be]; rfl
  all_goals rfl

theorem WellMade.payloadEvent (hw : WellMade (headerType h) payload event) (hl : headerLength h = payload.length) :
    payloadEvent h payload = some event := by
  rcases hw with ⟨ht, -, rfl⟩ | ⟨k, kind, style, ht, hk, rfl, rfl⟩ | ⟨ht, -, rfl⟩ |
    ⟨ht, rfl, rfl⟩ | ⟨ht, rfl, rfl⟩
  · exact payloadEvent_idle ht payload
  · rw [List.length_append, length_be] at hl
    exact payloadEvent_card ht hl hk kind style
  · exact payloadEvent_cardOut ht payload
  · exact payloadEvent_endKey ht hl
  · exact payloadEvent_cancelKey ht hl

/-- A well-made answer under its own header has no fault, and its event (R147). -/
theorem WellMade.contentCheck {type : Nat} (hw : WellMade type payload event)
    (hh : h = BitVec.ofNat 16 (i.val * 2048 + type * 256 + payload.length)) (found : List ErrorCounter) :
    headerLength h = payload.length ∧
      contentCheck i h payload found = { good := true, faults := found, event := event } := by
  have hpay := hw.readerPayload
  have hmem := (readerPayload_iff _ _).1 hpay
  simp only [List.mem_cons, Prod.mk.injEq, List.not_mem_nil, or_false] at hmem
  obtain ⟨haddress, htype, hspare, hlength⟩ := header_fields (i := i) (by omega) (by omega) hh
  have hfault : headerFault i h = false := by
    unfold headerFault
    rw [haddress, htype, hspare, hlength, hpay]
    simp
  exact ⟨hlength, contentCheck_good hfault (WellMade.payloadEvent (htype ▸ hw) hlength) found⟩

/-! ### The judgement (R145 to R147) -/

/-- An UNCORRECTABLE header under strict-header ON is BAD whatever follows (R146). -/
theorem judgeAnswer_of_strict (hc : headerCheck received check = (.uncorrectable, header)) (rest : List Byte) :
    judgeAnswer i true (be 2 received.toNat ++ [check] ++ rest) =
      { good := false, faults := [.hdrBad], event := none } := by
  obtain ⟨hreceived, hcheck⟩ := header_of_frame received check rest
  unfold judgeAnswer
  simp only [hreceived, hcheck, hc]
  rfl

/-- A whole frame whose CRC is right is judged by its content, one whose CRC is wrong is BAD (R146). -/
theorem judgeAnswer_of_crc (hc : headerCheck received check = (f, header))
    (hl : payload.length = payloadLength f header) (hs : ¬(f = .uncorrectable ∧ strict)) (rest : List Byte)
    (crc : BitVec 16) :
    (crc = crc16 (be 2 header.toNat ++ payload) →
      judgeAnswer i strict (be 2 received.toNat ++ [check] ++ payload ++ be 2 crc.toNat ++ rest) =
        contentCheck i header payload (findingFaults f)) ∧
    (crc ≠ crc16 (be 2 header.toNat ++ payload) →
      judgeAnswer i strict (be 2 received.toNat ++ [check] ++ payload ++ be 2 crc.toNat ++ rest) =
        { good := false, faults := findingFaults f ++ [.crcBad], event := none }) := by
  rw [judgeAnswer_of_finding i strict received header check f hc payload rest crc hl hs]
  exact ⟨fun h => if_pos h.symm, fun h => if_neg (Ne.symm h)⟩

/-- The judgement of a well-made answer, by the header and check byte it comes with: with its own CRC GOOD with its
event, with any other BAD. -/
theorem judgeAnswer_wellMade {type : Nat} (hw : WellMade type payload event)
    (hh : header = BitVec.ofNat 16 (i.val * 2048 + type * 256 + payload.length))
    (hc : headerCheck received check = (f, header)) (hf : f ≠ .uncorrectable) :
    judgeAnswer i strict
        (be 2 received.toNat ++ [check] ++ payload ++ crcBytes (be 2 header.toNat ++ payload)) =
      { good := true, faults := findingFaults f, event := event } ∧
    ∀ crc : BitVec 16, crc ≠ crc16 (be 2 header.toNat ++ payload) →
      judgeAnswer i strict (be 2 received.toNat ++ [check] ++ payload ++ be 2 crc.toNat) =
        { good := false, faults := findingFaults f ++ [.crcBad], event := none } := by
  obtain ⟨hlength, hcontent⟩ := hw.contentCheck hh (findingFaults f)
  have hpay : payload.length = payloadLength f header := by
    cases f with
    | uncorrectable => exact absurd rfl hf
    | _ => exact hlength.symm
  have hjudge := fun crc => judgeAnswer_of_crc (i := i) (strict := strict) hc hpay (fun hs => hf hs.1) [] crc
  simp only [List.append_nil] at hjudge
  exact ⟨((hjudge _).1 rfl).trans hcontent, fun crc hne => (hjudge crc).2 hne⟩

/-- What the header check finds, by syndrome and parity: the finding, the fault it counts, how much payload is read,
and that judging goes on (R145, R146, R195). -/
theorem headerCheck_finding {syn : Nat} {even uncorrectable : Bool} (hsyn : syndrome received check = syn)
    (heven : parityGood received check = even)
    (hunc : uncorrectable = if even then decide (syn ≠ 0) else decide (21 < syn))
    (hcases : (even = true ∧ syn = 0 ∧ header = received ∧ found = []) ∨
      (even = false ∧ syn ∈ [0, 1, 2, 4, 8, 16] ∧ header = received ∧ found = [.hdrCorrected]) ∨
      (even = false ∧ ∃ n : Fin 16, codePositions[n]? = some syn ∧
        header = received ^^^ (1#16 <<< (15 - n.val)) ∧ found = [.hdrCorrected]) ∨
      (uncorrectable = true ∧ strict = false ∧ header = received ∧ found = [.hdrBad])) :
    ∃ f, headerCheck received check = (f, header) ∧ findingFaults f = found ∧
      payloadLength f header = (if uncorrectable then min (headerLength header) 16 else headerLength header) ∧
      ¬(f = .uncorrectable ∧ strict = true) := by
  rcases hcases with ⟨rfl, rfl, rfl, rfl⟩ | ⟨rfl, hmem, rfl, rfl⟩ | ⟨rfl, n, hn, rfl, rfl⟩ |
    ⟨rfl, rfl, rfl, rfl⟩
  · exact ⟨.clean, headerCheck_clean heven hsyn, rfl, by rw [hunc]; rfl, by simp⟩
  · have hle : syn ≤ 21 := by
      simp only [List.mem_cons, List.not_mem_nil, or_false] at hmem
      omega
    refine ⟨.corrected, ?_, rfl, ?_, by simp⟩
    · rw [headerCheck_corrected heven (hsyn ▸ hle), hsyn, flipAt_checkPosition hmem]
    · rw [hunc, if_neg (by simp; omega)]
      rfl
  · have hpos : codePosition n = syn := Option.some.inj ((List.getElem?_eq_getElem n.isLt).symm.trans hn)
    obtain ⟨-, -, hbound⟩ := oneBit_checks n
    have hle : syn ≤ 21 := hpos ▸ hbound
    refine ⟨.corrected, ?_, rfl, ?_, by simp⟩
    · rw [headerCheck_corrected heven (hsyn ▸ hle), hsyn, ← hpos, flipAt_codePosition]
    · rw [hunc, if_neg (by simp; omega)]
      rfl
  · exact ⟨.uncorrectable, headerCheck_uncorrectable (by rw [hsyn, heven]; exact hunc.symm), rfl, rfl, by simp⟩

/-! ### Syndrome and parity bit by bit (R195) -/

section Spelled

variable {odd : List Nat → Bool}
  (hodd : ∀ places, odd places = places.foldl (fun b n => xor b (received.getLsbD n)) false)

include hodd

theorem syndrome_spelled : syndrome received check =
    (xor (check.getLsbD 0) (odd [15, 14, 12, 11, 9, 7, 5, 4, 2, 0])).toNat +
      2 * (xor (check.getLsbD 1) (odd [15, 13, 12, 10, 9, 6, 5, 3, 2])).toNat +
      4 * (xor (check.getLsbD 2) (odd [14, 13, 12, 8, 7, 6, 5, 1, 0])).toNat +
      8 * (xor (check.getLsbD 3) (odd [11, 10, 9, 8, 7, 6, 5])).toNat +
      16 * (xor (check.getLsbD 4) (odd [4, 3, 2, 1, 0])).toNat := by
  obtain ⟨h0, h1, h2, h3, h4⟩ := checkBit_spelled received
  unfold syndrome
  dsimp only
  rw [h0, h1, h2, h3, h4]
  simp only [← hodd]
  rfl

theorem parityGood_spelled : parityGood received check =
    (check.getLsbD 5 == [0, 1, 2, 3, 4].foldl (fun b n => xor b (check.getLsbD n))
      (odd [15, 14, 13, 12, 11, 10, 9, 8, 7, 6, 5, 4, 3, 2, 1, 0])) := by
  unfold parityGood
  rw [headerParity_spelled, ← hodd]
  simp [parity]

end Spelled

/-! ### The obligation -/

/-- The length of an answer without header fault is the one of its type (Table 7-3). -/
theorem headerLength_of_type {type length : Nat} (hh : headerFault i h = false) (ht : headerType h = type)
    (hr : readerPayload type = some length) : headerLength h = length := by
  unfold headerFault at hh
  simp only [Bool.or_eq_false_iff, bne_eq_false_iff_eq] at hh
  obtain ⟨⟨-, hpayload⟩, -⟩ := hh
  rw [ht, hr] at hpayload
  exact (Option.some.inj hpayload).symm

/-- The event of an answer without fault, by its type and payload (Table 7-3, R195). -/
theorem payloadEvent_byType (hh : headerFault i h = false) (hp : payloadEvent h payload = some event) :
    (headerType h = 4 → event = none) ∧
    (∀ (k : Token) (kind : CardKind) (style : SessionStyle), headerType h = 5 →
      payload = be 8 k.toNat ++ [if kind = .shop then 0#8 else 1#8, if style = .tap then 0#8 else 1#8] →
      event = some (.card k kind style)) ∧
    (headerType h = 6 → event = some .cardOut) ∧
    (headerType h = 7 → payload = [0#8] → event = some (.key .endKey)) ∧
    (headerType h = 7 → payload = [1#8] → event = some (.key .cancel)) := by
  have heq : ∀ {e}, payloadEvent h payload = some e → event = e := fun he => Option.some.inj (hp.symm.trans he)
  refine ⟨fun ht => heq (payloadEvent_idle ht payload), fun k kind style ht hpay => ?_,
    fun ht => heq (payloadEvent_cardOut ht payload), fun ht hpay => ?_, fun ht hpay => ?_⟩
  · have hl := headerLength_of_type hh ht rfl
    have htoken : tokenAt payload 0 = k := by rw [hpay]; exact (card_fields k _ _).1
    have hk : k ≠ 0#64 := fun hk => by
      have hnone := (payloadEvent_card_isNone ht hl payload).2 (.inl (htoken.trans hk))
      rw [hp] at hnone
      cases hnone
    subst hpay
    exact heq (payloadEvent_card ht hl hk kind style)
  · subst hpay
    exact heq (payloadEvent_endKey ht (headerLength_of_type hh ht rfl))
  · subst hpay
    exact heq (payloadEvent_cancelKey ht (headerLength_of_type hh ht rfl))

/-- Settles O55: the header check finds the header sent, as sent or with a bit flipped; a frame at large is judged
by its finding, its CRC and the two kinds of fault of its content. -/
theorem answersAreJudgedByTheirFrame : Obligations.AnswersAreJudgedByTheirFrame := by
  refine ⟨fun i strict type payload event hw header frame hh hframe => ?_,
    fun i strict received check odd syn even uncorrectable hodd hsyn heven hunc => ?_⟩
  · obtain ⟨hgood, hbad⟩ := judgeAnswer_wellMade (strict := strict) hw hh (headerCheck_sent header) (by decide)
    exact ⟨hframe ▸ hgood,
      fun bit => (judgeAnswer_wellMade hw hh (headerCheck_flipped header bit) (by decide)).1, hbad⟩
  have hs : syndrome received check = syn := (syndrome_spelled hodd).trans hsyn.symm
  have he : parityGood received check = even := (parityGood_spelled hodd).trans heven.symm
  refine ⟨fun hu hstrict rest => ?_, fun header found hcases payload rest crc address type spare length
    haddress htype hspare hlength hread frame hframe => ?_⟩
  · rw [hstrict]
    exact judgeAnswer_of_strict (headerCheck_uncorrectable (by rw [hs, he]; exact hunc.symm.trans hu)) rest
  obtain ⟨f, hc, rfl, hpay, hgo⟩ := headerCheck_finding hs he hunc hcases
  subst haddress htype hspare hlength hframe
  obtain ⟨hright, hwrong⟩ := judgeAnswer_of_crc (i := i) hc (hread.trans hpay.symm) hgo rest crc
  refine ⟨hwrong, fun hcrc headerFaulty payloadFaulty hhf hpf => ?_⟩
  have hlong : headerLength header = 10 → 8 ≤ payload.length := fun h => by
    have hten : header.toNat % 32 = 10 := h
    rw [hread, hten]
    cases uncorrectable <;> decide
  have hhead : headerFault i header = headerFaulty := Bool.eq_iff_iff.2 ((headerFault_iff i header).trans hhf.symm)
  have hload : (payloadEvent header payload).isNone = payloadFaulty :=
    Bool.eq_iff_iff.2 ((payloadEvent_isNone_iff hlong).trans hpf.symm)
  rw [hright hcrc]
  refine ⟨fun hor => contentCheck_faulty hhead hload hor _, ?_⟩
  rintro rfl rfl
  obtain ⟨event, hevent⟩ := Option.isSome_iff_exists.1 (Option.isNone_eq_false_iff.1 hload)
  rw [contentCheck_good hhead hevent]
  exact ⟨rfl, rfl, payloadEvent_byType hhead hevent⟩

end Sys2Proof.Machine
end

section
/-! SUPPORT. The walk-ups by the host and by their timer: a walk-up ended without a job as an answer and as an event,
TAKE AUTH REQUEST, and AUTH RESULT by its checks and its two outcomes (O51, O59). -/

namespace Sys2Proof.Machine

variable {s u : State} {a : Account} {w : Walkup} {i : StationId} {d : Display} {c : Instr}
  {ref outcome grant given : Nat} {granted : Option Int}

/-! ### A walk-up ended without a job (R173) -/

/-- Driving the pins alone leaves an ended walk-up ended. -/
theorem walkupEnded_drive (h : WalkupEnded s u a i d) : WalkupEnded s u.drive a i d :=
  walkupEnded_answered h u.link

/-- A host command whose work ends the walk-up. -/
theorem answers_walkupEnded {status : Status} {results : List Byte} {body : State → State × Response}
    (hr : s.ready c) (hx : exec c s = s.hostCommand c body) (hb : body s = (u, answer status results))
    (hboard : u.board = s.board) (hk : KeepsAllBut [.accounts, .tokens, .stations, .readers, .walkup] s u)
    (he : WalkupEnded s u a i d) :
    Answers c s status results [.accounts, .tokens, .stations, .readers, .walkup] fun t => WalkupEnded s t a i d := by
  obtain ⟨-, hreset, hlink, -⟩ := board_eq hboard
  exact answers_of_result hr hx hb hlink hreset hk (walkupEnded_answered he)

theorem authExpiry_eq {n k : Nat} (ha : s.account n = some a) (hp : a.isPending = true) (hw : a.walkup = some w)
    (ht : w.authTimer = some k) : s.authExpiry n = s.endWalkup a w.station .noResponse := by
  unfold State.authExpiry
  simp only [ha, hp, hw, ht, Option.isNone_some, Bool.false_eq_true, if_false]

theorem isPending_of (hk : a.kind = .transient) (hs : a.state = .pending) : a.isPending = true := by
  rw [Account.isPending, hk, hs]
  rfl

/-- Settles O51: the ending of the walk-up by `endWalkup_facts`, with the display of the timer. -/
theorem authExpiryRemovesTheRecord : Obligations.AuthExpiryRemovesTheRecord := by
  intro s n k a w hr ha hk hs hw ht hp
  obtain rfl := State.account_number s ha
  obtain ⟨hkeeps, -, -, -, -, -, hended⟩ := endWalkup_facts s a w.station .noResponse
  have hx := congrArg s.event (authExpiry_eq ha (isPending_of hk hs) hw ht)
  exact happens_of_event hr hx hkeeps (walkupEnded_drive (hended ha hp))

/-! ### TAKE AUTH REQUEST (R169) -/

/-- The results spelled, for figures that their fields carry. -/
theorem requestBytes_spelled {k : Token} {left : Nat} (hw : a.walkup = some w) (hk : a.tokens = [k])
    (ht : w.authTimer = some left) (hn : a.number ≤ 65535) (href : w.authRef ≤ 65535) (hl : left ≤ 600000) :
    a.requestBytes = be 2 w.authRef ++ be 1 w.station.val ++ be 8 k.toNat ++ beCents w.requested ++
      be 2 a.number ++ be 4 (max 1 ((left + 9) / 10)) := by
  have hleft : timerLeftMs (a.walkup.bind Walkup.authTimer) = max 1 ((left + 9) / 10) := by
    rw [hw, Option.bind_some, ht]
    rfl
  unfold Account.requestBytes
  rw [hleft, hw, hk]
  simp only [absentAs0, Option.map_some, Option.getD_some, List.head?_cons, tokenBytes]
  rw [count_eq_be (k := 1) (by omega), count_eq_be href, count_eq_be hn, count_eq_be (k := 4) (by omega)]

theorem takeAuthRequestWork_empty (h : s.wau.waiting = []) :
    takeAuthRequestWork s = unchanged (bare .notFound) s := by
  unfold takeAuthRequestWork
  rw [h]

/-- The oldest request is taken off the list, its record TAKEN. -/
theorem takeAuthRequestWork_oldest {n : Nat} {rest : List Nat} (h : s.wau.waiting = n :: rest)
    (ha : s.account n = some a) : takeAuthRequestWork s =
      ((s.setWalkupUnit { s.wau with waiting := rest }).modifyAccount n Account.asTaken,
        answer .ok a.requestBytes) := by
  unfold takeAuthRequestWork
  rw [h]
  dsimp only
  rw [ha, Option.map_some, Option.getD_some]

theorem keepsAllBut_setWalkupUnit (s : State) (x : WalkupUnit) : KeepsAllBut [.walkup] s (s.setWalkupUnit x) := by
  intro p hp
  cases p with
  | walkup => exact absurd (by decide) hp
  | stations => exact fun _ => rfl
  | readers => exact fun _ => rfl
  | _ => rfl

theorem answers_taken {n : Nat} {rest : List Nat} (hr : s.ready .takeAuthRequest) (h : s.wau.waiting = n :: rest)
    (ha : s.account n = some a) (hw : a.walkup = some w) :
    Answers .takeAuthRequest s .ok a.requestBytes [.accounts, .walkup] fun t =>
      t.wau = { s.wau with waiting := rest } ∧ KeepsOtherAccounts [n] s t ∧
        t.account n = some { a with walkup := some { w with requestState := some .taken } } := by
  have htaken : a.asTaken = { a with walkup := some { w with requestState := some .taken } } := by
    rw [Account.asTaken, hw]
    rfl
  refine answers_of_result hr rfl (takeAuthRequestWork_oldest h ha) rfl rfl ?_ fun l =>
    ⟨rfl, keepsOtherAccounts_modifyAccount (s.setWalkupUnit _) n fun _ => rfl, htaken ▸ ?_⟩
  · exact keepsAllBut_trans (keepsAllBut_mono (keepsAllBut_setWalkupUnit s _) (by decide))
      (keepsAllBut_mono (keepsAllBut_modifyAccount _ n _) (by decide))
  · exact account_modifyAccount_self (s := s.setWalkupUnit _) ha fun _ => rfl

/-! ### AUTH RESULT: the checks of R170 -/

theorem authOutcome_malformed
    (h : ref = 0 ∨ 2 ≤ outcome ∨ (outcome = 0 ∧ granted = none) ∨
      (outcome = 0 ∧ ∃ g, granted = some g ∧ (g < 0 ∨ 1000000 < g))) :
    authOutcome ref outcome granted = none := by
  unfold authOutcome
  simp only [Config.grantTop]
  split
  · next g =>
    refine if_neg fun hgood => ?_
    rcases h with h | h | ⟨-, h⟩ | ⟨-, x, h, hx⟩
    · exact hgood.1 h
    · omega
    · cases h
    · cases h
      omega
  · refine if_neg fun hgood => ?_
    omega
  · rfl

theorem authOutcome_declined (href : ref ≠ 0) : authOutcome ref 1 granted = some .declined := if_pos href

theorem authOutcome_approved (href : ref ≠ 0) (hg : given ≤ 1000000) :
    authOutcome ref 0 (some (given : Int)) = some (.approved given) := by
  have hgood : ref ≠ 0 ∧ (0 : Int) ≤ given ∧ (given : Int) ≤ Config.grantTop := by
    rw [Config.grantTop]
    omega
  exact if_pos hgood

/-- A well-made result names its outcome. -/
theorem authOutcome_isSome (href : ref ≠ 0)
    (h : outcome = 1 ∨ (outcome = 0 ∧ ∃ g, granted = some g ∧ 0 ≤ g ∧ g ≤ 1000000)) :
    ∃ result, authOutcome ref outcome granted = some result := by
  rcases h with rfl | ⟨rfl, g, rfl, h0, h1⟩
  · exact ⟨_, authOutcome_declined href⟩
  · lift g to Nat using h0
    exact ⟨_, authOutcome_approved href (by omega)⟩

/-- With no TAKEN record of this reference, none is found. -/
theorem takenRecord_none (h : ∀ a ∈ s.accounts, a.kind = .transient → a.state = .pending →
    ∀ w, a.walkup = some w → w.authRef = ref → w.requestState ≠ some .taken) : s.takenRecord ref = none := by
  refine Option.eq_none_iff_forall_ne_some.2 fun ⟨a, w⟩ hfound => ?_
  obtain ⟨hm, hp, hw, ht, href⟩ := takenRecord_some hfound
  simp only [Account.isPending, Bool.and_eq_true, beq_iff_eq] at hp
  exact h a hm hp.1 hp.2 w hw href ht

theorem authResultWork_malformed (h : authOutcome ref outcome granted = none) :
    authResultWork ref outcome granted s = unchanged (bare .invalid) s := by
  unfold authResultWork
  rw [h]

theorem authResultWork_noRecord {result : AuthOutcome} (h : authOutcome ref outcome granted = some result)
    (hf : s.takenRecord ref = none) : authResultWork ref outcome granted s = unchanged (bare .noRequest) s := by
  unfold authResultWork
  rw [h, hf]

theorem authResultWork_declined (href : ref ≠ 0) (hf : s.takenRecord ref = some (a, w)) :
    authResultWork ref 1 granted s = s.declineResult a w := by
  unfold authResultWork
  rw [authOutcome_declined href, hf]

theorem authResultWork_approved (href : ref ≠ 0) (hg : given ≤ 1000000) (hf : s.takenRecord ref = some (a, w)) :
    authResultWork ref 0 (some (given : Int)) s = s.approveResult a w given := by
  unfold authResultWork
  rw [authOutcome_approved href hg, hf]

/-- The station number as the results carry it. -/
theorem count_station (i : StationId) : count 1 i.val = be 1 i.val := count_eq_be (by omega)

/-- A DECLINED result (R171). -/
theorem answers_declined (hr : s.ready (.authResult ref 1 granted)) (href : ref ≠ 0)
    (hf : s.takenRecord ref = some (a, w)) (ha : s.account a.number = some a) (hp : a.payer = none) :
    Answers (.authResult ref 1 granted) s .ok (be 1 w.station.val)
      [.accounts, .tokens, .stations, .readers, .walkup] fun t => WalkupEnded s t a w.station .declined := by
  obtain ⟨hkeeps, -, -, -, -, -, hended⟩ := endWalkup_facts s a w.station .declined
  have hwork := authResultWork_declined (granted := granted) href hf
  rw [State.declineResult, count_station] at hwork
  exact answers_walkupEnded hr rfl hwork (board_endWalkup s a _ _) hkeeps (hended ha hp)

/-! ### AUTH RESULT: the grant and the opening checks (R172, Table 3-2) -/

/-- The state with the grant on its record (R172 step 2). -/
def State.grantOn (s : State) (a : Account) (grant : Nat) : State :=
  s.modifyAccount a.number fun x => x.withGrant grant

theorem account_grantOn (ha : s.account a.number = some a) (grant : Nat) :
    (s.grantOn a grant).account a.number = some (a.withGrant grant) :=
  account_modifyAccount_self ha fun _ => rfl

theorem keepsOtherAccounts_grantOn (s : State) (a : Account) (grant : Nat) :
    KeepsOtherAccounts [a.number] s (s.grantOn a grant) :=
  keepsOtherAccounts_modifyAccount s a.number fun _ => rfl

theorem keepsAllBut_grantOn (s : State) (a : Account) (grant : Nat) :
    KeepsAllBut [.accounts] s (s.grantOn a grant) :=
  keepsAllBut_modifyAccount s a.number _

theorem tariffOf_grantOn (s : State) (a : Account) (grant : Nat) (i : StationId) :
    (s.grantOn a grant).tariffOf i = s.tariffOf i := rfl

theorem billingNumber_withGrant (hp : a.payer = none) : (a.withGrant grant).billingNumber = a.number := by
  rw [Account.billingNumber, show (a.withGrant grant).payer = none from hp]
  rfl

/-- The grant is all that the record has available (R8). -/
theorem available_withGrant (hp : a.payer = none) (hl : a.creditLimit = 0) (hh : a.held = 0) :
    s.available (a.withGrant grant) = grant := by
  rw [available_own (u := a.withGrant grant) hp]
  simp [Account.withGrant, hl, hh]

theorem openingHold_withGrant (hk : a.kind = .transient) : s.openingHold i (a.withGrant grant) = grant :=
  if_pos hk

theorem inApproval_withGrant (hk : a.kind = .transient) (hs : a.state = .pending) (hw : a.walkup = some w)
    (ht : w.requestState = some .taken) : (a.withGrant grant).inApproval = true := by
  simp [Account.inApproval, Account.withGrant, hk, hs, hw, ht]

/-- For a TAKEN record of an OPENING station with a tariff, the threshold is the one check left. -/
theorem openingCheck_withGrant (ha : s.account a.number = some a) (hp : a.payer = none)
    (hk : a.kind = .transient) (hs : a.state = .pending) (hl : a.creditLimit = 0) (hh : a.held = 0)
    (hw : a.walkup = some w) (ht : w.requestState = some .taken) (ho : (s.station i).state = .opening)
    (hd : (s.tariffOf i).isDefined = true) :
    (s.grantOn a grant).openingCheck i (a.withGrant grant) true =
      if grant < (s.tariffOf i).startThreshold then some 5 else none := by
  have hbilling : (s.grantOn a grant).billingAccount (a.withGrant grant) = some (a.withGrant grant) := by
    rw [State.billingAccount, billingNumber_withGrant hp, account_grantOn ha]
  have hbarred : (a.withGrant grant).isBarred = false := by
    rw [Account.isBarred, show (a.withGrant grant).state = .pending from hs]
    rfl
  have hstation : ((s.grantOn a grant).station i).state = .opening := ho
  unfold State.openingCheck
  rw [if_neg (by simp [hstation]), tariffOf_grantOn, if_neg (by simp [hd]),
    if_neg (by simp [inApproval_withGrant hk hs hw ht]), hbilling, Option.any_some, hbarred, if_neg (by decide),
    available_withGrant hp hl hh]
  simp only [Nat.cast_lt]

theorem approveResult_noTariff (hg : grant = min given w.requested)
    (hd : (s.tariffOf w.station).isDefined = false) :
    s.approveResult a w given = (s.grantOn a grant).unusedResult (a.withGrant grant) w grant := by
  subst hg
  exact if_pos (by rw [← State.grantOn, tariffOf_grantOn, hd]; rfl)

theorem approveResult_refused {check : Nat} (hg : grant = min given w.requested)
    (hd : (s.tariffOf w.station).isDefined = true)
    (hc : (s.grantOn a grant).openingCheck w.station (a.withGrant grant) true = some check) :
    s.approveResult a w given = (s.grantOn a grant).unusedResult (a.withGrant grant) w grant := by
  subst hg
  refine (if_neg (by rw [← State.grantOn, tariffOf_grantOn, hd]; decide)).trans ?_
  rw [← State.grantOn, hc]

theorem approveResult_opens (hg : grant = min given w.requested) (hd : (s.tariffOf w.station).isDefined = true)
    (hc : (s.grantOn a grant).openingCheck w.station (a.withGrant grant) true = none)
    (hk : a.kind = .transient) :
    s.approveResult a w given =
      ((s.grantOn a grant).openWalkup w.station (a.withGrant grant),
        answer (if w.requested < given then .clamped else .ok)
          (count 1 w.station.val ++ count 2 a.number ++ beCents grant)) := by
  subst hg
  refine (if_neg (by rw [← State.grantOn, tariffOf_grantOn, hd]; decide)).trans ?_
  rw [← State.grantOn, hc, openingHold_withGrant hk]

/-! ### An approval that opens no job (R171) -/

/-- The grant on the record leaves no trace of its own when the walk-up ends. -/
theorem endWalkup_grantOn_facts (ha : s.account a.number = some a) (hp : a.payer = none) (grant : Nat)
    (i : StationId) (d : Display) :
    KeepsAllBut [.accounts, .tokens, .stations, .readers, .walkup] s
        ((s.grantOn a grant).endWalkup (a.withGrant grant) i d) ∧
      WalkupEnded s ((s.grantOn a grant).endWalkup (a.withGrant grant) i d) a i d := by
  obtain ⟨hkeeps, -, -, -, -, -, hended⟩ := endWalkup_facts (s.grantOn a grant) (a.withGrant grant) i d
  obtain ⟨hgone, haccounts, hrest⟩ := hended (account_grantOn ha grant) hp
  exact ⟨keepsAllBut_trans (keepsAllBut_mono (keepsAllBut_grantOn s a grant) (by decide)) hkeeps, hgone,
    keepsOtherAccounts_trans (keepsOtherAccounts_grantOn s a grant) haccounts, hrest⟩

theorem answers_unused (hr : s.ready (.authResult ref 0 (some (given : Int)))) (href : ref ≠ 0)
    (hle : given ≤ 1000000) (hf : s.takenRecord ref = some (a, w)) (ha : s.account a.number = some a)
    (hp : a.payer = none)
    (hu : s.approveResult a w given = (s.grantOn a grant).unusedResult (a.withGrant grant) w grant) :
    Answers (.authResult ref 0 (some (given : Int))) s .approvedUnused (be 1 w.station.val ++ beCents grant)
      [.accounts, .tokens, .stations, .readers, .walkup] fun t => WalkupEnded s t a w.station .declined := by
  obtain ⟨hkeeps, hended⟩ := endWalkup_grantOn_facts ha hp grant w.station .declined
  have hwork := (authResultWork_approved href hle hf).trans hu
  rw [State.unusedResult, count_station] at hwork
  exact answers_walkupEnded hr rfl hwork (board_endWalkup (s.grantOn a grant) _ _ _) hkeeps hended

/-! ### An approval that opens the job (R172) -/

/-- The record once its job is open: OPEN, with the grant as its balance and held. -/
theorem account_openWalkup (ha : s.account a.number = some a) (hp : a.payer = none) (hk : a.kind = .transient)
    (hh : a.held = 0) (hw : a.walkup = some w) :
    ((s.grantOn a grant).openWalkup i (a.withGrant grant)).account a.number =
      some { a with
        state := .opened, balance := grant, held := grant, openJobs := a.openJobs + 1
        walkup := some { w with granted := some grant, requestState := none, authTimer := none } } := by
  have hself : (a.withGrant grant).billingNumber = (a.withGrant grant).number := billingNumber_withGrant hp
  have hopened := account_openAt (s.grantOn a grant) i (a.withGrant grant) .reader a.number
  rw [account_grantOn ha, Option.map_some, hself, staked_alone, openingHold_withGrant hk] at hopened
  refine (account_modifyAccount_self (f := Account.asOpened) hopened fun _ => rfl).trans ?_
  simp [Account.asOpened, Account.withGrant, hh, hw]

theorem keepsOtherAccounts_openWalkup (hp : a.payer = none) :
    KeepsOtherAccounts [a.number] s ((s.grantOn a grant).openWalkup i (a.withGrant grant)) := by
  have hopened := keepsOtherAccounts_openAt (s.grantOn a grant) i (a.withGrant grant) .reader
  rw [billingNumber_withGrant hp] at hopened
  exact keepsOtherAccounts_trans (keepsOtherAccounts_grantOn s a grant)
    (keepsOtherAccounts_trans (keepsOtherAccounts_mono hopened (by simp [Account.withGrant]))
      (keepsOtherAccounts_modifyAccount _ a.number fun _ => rfl))

theorem keepsAllBut_openWalkup (s : State) (i : StationId) (b : Account) :
    KeepsAllBut [.accounts, .stations, .readers] s (s.openWalkup i b) :=
  keepsAllBut_trans (keepsAllBut_openAt s i b .reader) (keepsAllBut_mono (keepsAllBut_modifyAccount _ _ _) (by decide))

/-- The job of a walk-up (R40, R57): a CARD job billed to the record itself, at the walk-up schedule. -/
def Job.ofWalkup (j : Job) (s : State) (a : Account) (w : Walkup) (grant : Nat) : Prop :=
  j.user = a.number ∧ j.billing = a.number ∧ j.kind = .card ∧ j.openedBy = .reader ∧
    j.authRef = some w.authRef ∧ j.hold = grant ∧ j.accrued = 0 ∧
    j.snapshot.scheduleNumber = s.globals.walkupSchedule ∧
    j.snapshot.prices = (s.tariffOf w.station).prices ∧
    j.snapshot.schedule = s.schedules[s.globals.walkupSchedule]

theorem newJob_ofWalkup (hp : a.payer = none) (hk : a.kind = .transient) (hw : a.walkup = some w) :
    (s.newJob w.station (a.withGrant grant) .reader).ofWalkup s a w grant := by
  have hschedule : s.openingSchedule (a.withGrant grant) = s.globals.walkupSchedule := if_pos hk
  have hkind : (a.withGrant grant).kind = .transient := hk
  have hpayer : (a.withGrant grant).payer = none := hp
  have hwalkup : (a.withGrant grant).walkup = some { w with granted := some grant } := by
    simp [Account.withGrant, hw]
  rw [newJob_spelled .reader rfl hschedule, openingHold_withGrant hk, hkind, hpayer, hwalkup]
  exact ⟨rfl, rfl, rfl, rfl, rfl, rfl, rfl, rfl, rfl, rfl⟩

/-- The walk-up of record `a` at its station has become a job (R172): the record OPEN, WELCOME shown, the job
RUNNING, and all other accounts, stations and readers as they were. -/
def WalkupOpened (s t : State) (a : Account) (w : Walkup) (grant : Nat) : Prop :=
  KeepsOtherAccounts [a.number] s t ∧ KeepsOtherStations w.station s t ∧ KeepsOtherReaders w.station s t ∧
    t.account a.number =
      some { a with
        state := .opened, balance := grant, held := grant, openJobs := a.openJobs + 1
        walkup := some { w with granted := some grant, requestState := none, authTimer := none } } ∧
    ShownOn w.station (.welcome grant) s t ∧
    ∃ j : Job, (t.station w.station).undriven =
        ({ s.station w.station with state := .running, job := some j } : Station).undriven ∧
      j.ofWalkup s a w grant

/-- The opening of a granted record leaves the walk-up as a job, once it is answered. -/
theorem walkupOpened_openWalkup (ha : s.account a.number = some a) (hp : a.payer = none)
    (hk : a.kind = .transient) (hl : a.creditLimit = 0) (hh : a.held = 0) (hw : a.walkup = some w) (l : Link) :
    WalkupOpened s
      ({ (s.grantOn a grant).openWalkup w.station (a.withGrant grant) with link := l } : State).drive a w grant := by
  have hothers := keepsOtherStations_openAt (s.grantOn a grant) w.station (a.withGrant grant) .reader
  have hself := station_openAt (s.grantOn a grant) w.station w.station (a.withGrant grant) .reader
  have hshown := shownOn_openAt (s.grantOn a grant) w.station (a.withGrant grant) .reader
  rw [available_withGrant hp hl hh, Int.toNat_natCast] at hshown
  exact ⟨keepsOtherAccounts_openWalkup hp, fun k hk => (undriven_answered rfl l).trans (hothers k hk),
    keepsOtherReaders_openAt (s.grantOn a grant) w.station _ .reader, account_openWalkup ha hp hk hh hw, hshown,
    _, undriven_answered (hself.trans (if_pos rfl)) l, newJob_ofWalkup (s := s.grantOn a grant) hp hk hw⟩

theorem answers_walkupOpened (hr : s.ready (.authResult ref 0 (some (given : Int)))) (href : ref ≠ 0)
    (hle : given ≤ 1000000) (hf : s.takenRecord ref = some (a, w)) (ha : s.account a.number = some a)
    (hp : a.payer = none) (hk : a.kind = .transient) (hl : a.creditLimit = 0) (hh : a.held = 0)
    (ho : s.approveResult a w given =
      ((s.grantOn a grant).openWalkup w.station (a.withGrant grant),
        answer (if w.requested < given then .clamped else .ok)
          (count 1 w.station.val ++ count 2 a.number ++ beCents grant))) :
    Answers (.authResult ref 0 (some (given : Int))) s (if w.requested < given then .clamped else .ok)
      (be 1 w.station.val ++ be 2 (min a.number 65535) ++ beCents grant) [.accounts, .stations, .readers] fun t =>
      WalkupOpened s t a w grant := by
  obtain ⟨-, -, hw, -⟩ := takenRecord_some hf
  have hwork := (authResultWork_approved href hle hf).trans ho
  rw [count_station] at hwork
  obtain ⟨-, hreset, hlink, -⟩ := board_eq (board_openWalkup (s.grantOn a grant) w.station (a.withGrant grant))
  have hkeeps := keepsAllBut_trans (keepsAllBut_mono (keepsAllBut_grantOn s a grant) (by decide))
    (keepsAllBut_openWalkup _ w.station (a.withGrant grant))
  exact answers_of_result hr rfl hwork hlink hreset hkeeps (walkupOpened_openWalkup ha hp hk hl hh hw)

/-- Settles O59: TAKE AUTH REQUEST by the head of the WAITING list; AUTH RESULT by its two checks, then the outcome,
an approval by the tariff and the threshold. -/
theorem walkupRequestsAreTakenAndDecided : Obligations.WalkupRequestsAreTakenAndDecided := by
  refine ⟨fun s hr => ⟨fun h => refuses_of_work hr rfl (takeAuthRequestWork_empty h), ?_⟩,
    fun s ref outcome granted hr => ⟨fun h => ?_, fun href hmade hnone => ?_, ?_⟩⟩
  · intro n rest a w k left h ha hw hk ht hn href hl
    obtain rfl := State.account_number s ha
    exact requestBytes_spelled hw hk ht hn href hl ▸ answers_taken hr h ha hw
  · exact refuses_of_work hr rfl (authResultWork_malformed (authOutcome_malformed h))
  · obtain ⟨result, hresult⟩ := authOutcome_isSome href hmade
    exact refuses_of_work hr rfl (authResultWork_noRecord hresult (takenRecord_none hnone))
  · rintro a w i href hf rfl ha hp removed rfl
    obtain ⟨-, -, hw, ht, -⟩ := takenRecord_some hf
    refine ⟨?_, ?_⟩
    · rintro rfl
      exact answers_declined hr href hf ha hp
    rintro given grant rfl rfl hle hg hk hs hl hh ho
    have hcheck := openingCheck_withGrant (grant := grant) ha hp hk hs hl hh hw ht ho
    refine ⟨fun hunused => answers_unused hr href hle hf ha hp ?_, fun hd hstart => ?_⟩
    · cases hd : (s.tariffOf w.station).isDefined with
      | false => exact approveResult_noTariff hg hd
      | true =>
        have hshort : grant < (s.tariffOf w.station).startThreshold := by simpa [hd] using hunused
        exact approveResult_refused hg hd ((hcheck hd).trans (if_pos hshort))
    · exact answers_walkupOpened hr href hle hf ha hp hk hl hh
        (approveResult_opens hg hd ((hcheck hd).trans (if_neg (by omega))) hk)

end Sys2Proof.Machine
end

section
/-! SUPPORT. Which commands are host commands and which are events, and what either does in reset; the step at a queue,
every command's next state, DEVICE_RESET, a collision, and the reading commands (O1, O3, O15, O21, O28). -/

namespace Sys2Proof.Machine

variable {s : State} {c : Instr}

/-! ### Host commands and events -/

/-- A command that a message can carry is executed as a host command (R184). -/
theorem exec_hostCommand (s : State) (h : (encodeCommand c).isSome) :
    ∃ body, exec c s = s.hostCommand c body := by
  cases c
  case deviceReset | resetRelease | selectPeriodStart | selectPeriodEnd | retryOfHeldStations | lineLevelChange |
      filterTimerExpiry | permitDelayExpiry | idleTimerExpiry | drainTimerExpiry | jamTimeout | authTimerExpiry |
      pollPeriodStart | periodTimerExpiry | broadcastTransferEnd | slotStart | displayTransferEnd |
      pollTransferEnd | answerLimitExpiry | answerReceived | clockReleased => cases h
  case listAccounts n => exact ⟨fun s => (s, s.listAccountsResponse n), rfl⟩
  case findToken k => exact ⟨fun s => (s, s.findTokenResponse k), rfl⟩
  case readTariff l => exact ⟨fun s => (s, s.readTariffResponse l), rfl⟩
  case readSchedule n => exact ⟨fun s => (s, s.readScheduleResponse n), rfl⟩
  case readStationAlarms n => exact ⟨fun s => alarmsWork n s.makeOwedRetries, rfl⟩
  case readReader n => exact ⟨fun s => readReaderWork n s.makeOwedRetries, rfl⟩
  case resetReaderBus => exact ⟨fun s => (s.resetBus, bare .ok), rfl⟩
  all_goals exact ⟨_, rfl⟩

/-- Every other command but reset, its release and a level change takes place as an event. -/
theorem exec_event (s : State) (h : encodeCommand c = none) (hd : c ≠ .deviceReset) (hr : c ≠ .resetRelease)
    (hl : ∀ i l high, c ≠ .lineLevelChange i l high) : ∃ after, exec c s = s.event after := by
  cases c
  case deviceReset => exact absurd rfl hd
  case resetRelease => exact absurd rfl hr
  case lineLevelChange i l high => exact absurd rfl (hl i l high)
  case selectPeriodStart | selectPeriodEnd | retryOfHeldStations | filterTimerExpiry | permitDelayExpiry |
      idleTimerExpiry | drainTimerExpiry | jamTimeout | authTimerExpiry | pollPeriodStart | periodTimerExpiry |
      broadcastTransferEnd | slotStart | displayTransferEnd | pollTransferEnd | answerLimitExpiry |
      answerReceived | clockReleased => exact ⟨_, rfl⟩
  case setGlobals g => cases g <;> cases h
  case authResult r o g => cases g <;> cases h
  all_goals cases h

/-! ### The step and the next state -/

/-- Settles O1: the step at a queue is execution of its front, by definition. -/
theorem stepExecutesFrontOfQueue : Obligations.StepExecutesFrontOfQueue := fun _ _ _ => rfl

/-- Settles O3, from the ways a command can end. -/
theorem everyCommandReachesNextState : Obligations.EveryCommandReachesNextState := by
  intro c s
  rcases exec_ends c s with (h | ⟨u, h⟩) | ⟨_, i, l, high, h⟩ <;> exact ⟨_, h⟩

/-! ### DEVICE_RESET and the time until the release (R193, log 11) -/

theorem event_inReset (h : s.resetLow = true) (after : State) : s.event after = .next s := by
  simp [State.event, h]

theorem hostCommand_inReset (h : s.resetLow = true) (i : Instr) (body : State → State × Response) :
    s.hostCommand i body = .next s := if_pos h

theorem exec_inReset (h : s.resetLow = true) (hd : c ≠ .deviceReset) (hr : c ≠ .resetRelease)
    (hl : ∀ i l high, c ≠ .lineLevelChange i l high) : exec c s = .next s := by
  cases he : encodeCommand c with
  | some _ =>
    obtain ⟨body, hx⟩ := exec_hostCommand s (by rw [he]; rfl)
    rw [hx, hostCommand_inReset h]
  | none =>
    obtain ⟨after, hx⟩ := exec_event s he hd hr hl
    rw [hx, event_inReset h]

theorem PerInput.put_get {α : Type} (p : PerInput α) (l : InputLine) : p.put l (p.get l) = p := by
  cases l <;> rfl

/-- In reset a level change puts its level on its pin, also where the pin has it already (log 11). -/
theorem lineLevelChange_inReset (h : s.resetLow = true) (i : StationId) (l : InputLine) (high : Bool) :
    exec (.lineLevelChange i l high) s =
      .next (s.setStation i { s.station i with pins := (s.station i).pins.put l high }) := by
  show execLineLevelChange i l high s = _
  unfold execLineLevelChange
  split_ifs with hsame
  · rw [← hsame, PerInput.put_get, setStation_station]
  · rfl

/-- Settles O15: the state DEVICE_RESET leaves, written out; then what is noted in reset. -/
theorem deviceResetSilencesThePart : Obligations.DeviceResetSilencesThePart := by
  refine ⟨fun s => ⟨_, rfl, fun p hp => ?_, rfl, rfl, fun i => ?_⟩,
    fun s c h hd hr hl => exec_inReset h hd hr hl, fun s i l high h => lineLevelChange_inReset h i l high⟩
  · refine agrees_drive ?_
    cases p
    case reset | link => exact absurd (by decide) hp
    case stations | readers => exact fun _ => rfl
    all_goals rfl
  · rw [State.station_drive]
    rfl

/-! ### A command that meets RDY low (R184, R185; log 6) -/

/-- Settles O21: a host command that meets another message in hand sets the collision flag alone. -/
theorem commandDuringExecutionCollides : Obligations.CommandDuringExecutionCollides := by
  intro s i j hr hj hne he
  obtain ⟨body, hx⟩ := exec_hostCommand s he
  have hbusy : s.link.occupiedFor i = true := by simp [Link.occupiedFor, hj, hne]
  have hcollides : s.hostCommand i body = .next { s with link := { s.link with collision := true } }.drive := by
    simp [State.hostCommand, hr, hbusy]
  refine ⟨_, hx.trans hcollides, fun p hp => ?_, drive_pinsLaw _, hj, rfl, rfl, by simp [hj], rfl⟩
  exact agrees_drive (agrees_withLink _ (by simpa using hp) (keepsAllBut_refl [] s p (by simp)))

/-! ### The reading commands (R184, R199; log 7) -/

/-- The state in which every retry owed has been made. -/
def State.withRetriesMade (s : State) : State := { s.retryOwed.foldl State.retry s with retryOwed := [] }

theorem withRetriesMade_link (s : State) :
    s.withRetriesMade.resetLow = s.resetLow ∧ s.withRetriesMade.link = s.link := by
  obtain ⟨-, hreset, hlink, -⟩ := board_eq (board_foldl State.retry (fun s n => board_retry s n) s.retryOwed s)
  exact ⟨hreset, hlink⟩

/-- A reading command looks at the state in which every retry owed has been made, whatever it then reports and
clears. -/
theorem exec_reading (h : (∃ n, c = .readAccount n) ∨ (∃ n, c = .readStation n) ∨ (∃ n, c = .readStationAlarms n) ∨
    (∃ n, c = .readReader n) ∨ c = .statusSummary) :
    ∃ look : State → State × Response, (∀ u, (look u).1.retryOwed = u.retryOwed) ∧
      ∀ s, exec c s = s.hostCommand c fun s => look s.makeOwedRetries := by
  rcases h with ⟨n, rfl⟩ | ⟨n, rfl⟩ | ⟨n, rfl⟩ | ⟨n, rfl⟩ | rfl
  · exact ⟨fun u => (u, u.readAccountResponse n), fun _ => rfl, fun _ => rfl⟩
  · exact ⟨fun u => (u, u.readStationResponse n), fun _ => rfl, fun _ => rfl⟩
  · exact ⟨alarmsWork n, fun u => by unfold alarmsWork withStation; split <;> rfl, fun _ => rfl⟩
  · exact ⟨readReaderWork n, fun u => by unfold readReaderWork withStation; split <;> rfl, fun _ => rfl⟩
  · exact ⟨fun u => (u, answer .ok u.summaryBytes), fun _ => rfl, fun _ => rfl⟩

/-- Settles O28: the retries owed touch neither the reset line nor the link, so the command is ready in either
state, and in either it looks at the same one. -/
theorem readingCommandsSeeOwedRetries : Obligations.ReadingCommandsSeeOwedRetries := by
  intro s c hc hr
  obtain ⟨look, hlook, hx⟩ := exec_reading hc
  obtain ⟨hreset, hlink⟩ := withRetriesMade_link s
  have hready : s.withRetriesMade.ready c := by rwa [State.ready, hreset, hlink]
  have hs := (hx s).trans (hostCommand_ready hr _)
  have hmade := (hx s.withRetriesMade).trans (hostCommand_ready hready _)
  refine ⟨hs.trans hmade.symm, fun t ht => ?_⟩
  cases hs.symm.trans ht
  exact (hlook _).trans (makeOwedRetries_facts s).2.1

end Sys2Proof.Machine
end

section
/-! SUPPORT. The device-reset values: each record of the released part, its pins driven, and the standing laws of the
part after reset (O4, O16). -/

namespace Sys2Proof.Machine

/-! ### The records after a release (R193) -/

theorem station_released (s : State) (i : StationId) :
    s.released.station i = .afterReset (s.station i).pins := mapSixteen_get _ _ i

theorem reader_released (s : State) (i : StationId) : s.released.reader i = .afterReset := by
  show (Vector.replicate 16 Reader.afterReset)[i] = _
  simp

theorem tariff_released (s : State) (l : TariffLetter) : s.released.tariffs[l] = .undefined := by
  show (Vector.replicate 4 Tariff.undefined)[l] = _
  simp

theorem schedule_released (s : State) (n : Fin 4) : s.released.schedules[n] = .empty := by
  show (Vector.replicate 4 Schedule.empty)[n] = _
  simp

/-- No cause of ATTN stands after a release (R189). -/
theorem attnCause_released (s : State) : s.released.attnCause = false := by
  have hwaiting : s.released.wau.waiting = [] := rfl
  have haccounts : s.released.accounts = [] := rfl
  simp [State.attnCause, hwaiting, haccounts, station_released, reader_released, Station.afterReset,
    Reader.afterReset, StationAlarms.any, Reader.anyAlarm]

/-- A released station demands no PERMIT: it is DISABLED. -/
theorem station_released_drive (s : State) (i : StationId) :
    s.released.drive.station i = .afterReset (s.station i).pins := by
  rw [State.station_drive, station_released]
  rfl

theorem link_released_drive (s : State) : s.released.drive.link = s.released.link := by
  show { s.released.link with
    rdy := true, attn := !false && s.released.attnCause, misoDriven := false } = s.released.link
  rw [attnCause_released]
  rfl

/-- Settles O16: the released part by its records, the pins as they demand. -/
theorem resetReleaseGivesDeviceResetValues : Obligations.ResetReleaseGivesDeviceResetValues := fun s =>
  ⟨s.released.drive, rfl, rfl, rfl, link_released_drive s, rfl, rfl, rfl, tariff_released s, schedule_released s,
    rfl, rfl, rfl, rfl, reader_released s, station_released_drive s⟩

/-! ### The standing laws after reset -/

theorem station_reset (i : StationId) : State.reset.station i = .afterReset .allLow := by
  show (Vector.replicate 16 (Station.afterReset .allLow))[i] = _
  simp

/-- The part after device reset is what a release makes of itself. -/
theorem released_reset : State.reset.released.drive = State.reset := by
  have hstation (i : StationId) : State.reset.released.drive.station i = State.reset.station i := by
    rw [station_released_drive, station_reset]
    rfl
  have hstations : State.reset.released.drive.stations = State.reset.stations :=
    Vector.ext fun k hk => hstation ⟨k, hk⟩
  show { State.reset with
    link := State.reset.released.drive.link, stations := State.reset.released.drive.stations } = _
  rw [link_released_drive, hstations]
  rfl

theorem job_reset (i : StationId) : (State.reset.station i).job = none := by rw [station_reset]; rfl

theorem openJobs_reset : State.reset.openJobs = [] := by
  unfold State.openJobs
  rw [List.filterMap_eq_nil_iff]
  exact fun i _ => job_reset i

/-- What is asked of every record is met by an empty table. -/
theorem forall_accounts_reset {P : Account → Prop} : ∀ a ∈ State.reset.accounts, P a :=
  fun _ h => absurd h List.not_mem_nil

/-- What is asked of every open job is met where no station has one. -/
theorem forall_jobs_reset {P : StationId → Job → Prop} (i : StationId) (j : Job)
    (h : (State.reset.station i).job = some j) : P i j := by
  rw [job_reset] at h
  cases h

theorem pinsLaw_reset : PinsLaw .reset := released_reset ▸ drive_pinsLaw _

theorem lawful_reset (i : StationId) : (State.reset.station i).lawful := by
  rw [show State.reset.station i = State.reset.released.station i by
    rw [station_released, station_reset]; rfl]
  exact lawful_released .reset i

theorem membersLaw_reset : MembersLaw .reset :=
  ⟨.nil, forall_accounts_reset, forall_accounts_reset, forall_accounts_reset⟩

theorem withinCapacity_reset : WithinCapacity .reset := ⟨Nat.zero_le _, Nat.zero_le _, Nat.zero_le _⟩

theorem booksLaw_reset : BooksLaw .reset :=
  ⟨⟨.nil, lawful_reset, forall_accounts_reset, forall_accounts_reset⟩, membersLaw_reset, withinCapacity_reset,
    by rw [openJobs_reset]; exact List.forall_mem_nil _, forall_accounts_reset⟩

theorem tokenBooksLaw_reset : TokenBooksLaw .reset :=
  ⟨membersLaw_reset, withinCapacity_reset, ⟨.nil, List.forall_mem_nil _⟩, List.forall_mem_nil _,
    forall_accounts_reset⟩

theorem tariffsLaw_reset : TariffsLaw .reset := fun l => by
  rw [show State.reset.tariffs[l] = .undefined from tariff_released .reset l]
  rfl

theorem chargesLaw_reset : ChargesLaw .reset :=
  ⟨membersLaw_reset, tariffsLaw_reset, forall_jobs_reset, forall_jobs_reset⟩

theorem schedulesLaw_reset : SchedulesLaw .reset := fun n => by
  rw [show State.reset.schedules[n] = .empty from schedule_released .reset n]
  rfl

theorem readersLaw_reset : ReadersLaw .reset := fun i => by
  rw [show State.reset.reader i = .afterReset from reader_released .reset i]
  exact ⟨by decide, by decide, by decide, by decide, by decide⟩

theorem waitingLaw_reset : WaitingLaw .reset := by
  refine ⟨.nil, fun n => ⟨fun h => absurd h List.not_mem_nil, fun ⟨a, h, _⟩ => ?_⟩, fun i h => ?_,
    forall_accounts_reset, forall_accounts_reset⟩
  · exact absurd (State.account_mem _ h) List.not_mem_nil
  · rw [station_reset] at h
    cases h

theorem figuresLaw_reset : FiguresLaw .reset := by
  refine ⟨forall_accounts_reset, fun i => ?_⟩
  rw [station_reset]
  exact List.forall_mem_nil _

/-- Settles O4: after reset the tables are empty, no station has a job, and every record has its reset value. -/
theorem resetStateMeetsEveryLaw : Obligations.ResetStateMeetsEveryLaw :=
  ⟨pinsLaw_reset, booksLaw_reset, tokenBooksLaw_reset, chargesLaw_reset, forall_jobs_reset, schedulesLaw_reset,
    readersLaw_reset, waitingLaw_reset, figuresLaw_reset⟩

end Sys2Proof.Machine
end

section
/-! SUPPORT. SET GLOBALS: the bytes of the settings, which forms are taken and as what (O33). -/

namespace Sys2Proof.Machine

variable {s : State} {f : GlobalsForm}

/-- The settings in the widths of Table 9-4; a walk-up schedule, 0 to 3, stands in its byte as it is. -/
theorem globalsBytes_spelled (g : Globals) : globalsBytes g =
    be 2 (min g.idleTimeout 65535) ++ be 2 (min g.drainTimeout 65535) ++ be 2 (min g.jamTimeout 65535) ++
      be 2 (min g.authTimeout 65535) ++ beCents (g.preAuthAmount : Int) ++ be 1 g.walkupSchedule.val ++
      be 2 (min g.pollPeriod 65535) ++ be 1 (min g.answerLimit 255) := by
  have hschedule : count 1 g.walkupSchedule.val = be 1 g.walkupSchedule.val :=
    congrArg (be 1) (min_eq_left (by have := g.walkupSchedule.isLt; omega))
  unfold globalsBytes
  rw [hschedule]
  rfl

theorem clamp_toNat (x : Int) : clamp 100 50000 x.toNat = (max 100 (min x 50000)).toNat := by
  unfold clamp
  omega

theorem GlobalsForm.taken_absent (h : 3 < f.walkupSchedule) : f.taken = none := by
  unfold GlobalsForm.taken
  rw [fourOf_none h]

/-- A form whose schedule is 0 to 3 is taken with every other setting clamped (R191, Table 9-4). -/
theorem GlobalsForm.taken_of {w : Fin 4} (h : w.val = f.walkupSchedule) : f.taken = some
    { idleTimeout := max 10 (min f.idleTimeout 1800), drainTimeout := max 2 (min f.drainTimeout 60)
      jamTimeout := max 1 (min f.jamTimeout 60), authTimeout := max 5 (min f.authTimeout 60)
      preAuthAmount := (max 100 (min f.preAuthAmount 50000)).toNat, walkupSchedule := w
      pollPeriod := max 20 (min f.pollPeriod 250), answerLimit := max 1 (min f.answerLimit 25) } := by
  unfold GlobalsForm.taken
  rw [← h, fourOf_val, clamp_toNat]
  rfl

theorem setGlobalsWork_absent (h : f.taken = none) : setGlobalsWork (some f) s = unchanged (bare .invalid) s := by
  simp only [setGlobalsWork, h]

theorem setGlobalsWork_taken {g : Globals} (h : f.taken = some g) :
    setGlobalsWork (some f) s = ({ s with globals := g }, answer .ok (globalsBytes g)) := by
  simp only [setGlobalsWork, h]

theorem keepsAllBut_globals (s : State) (g : Globals) : KeepsAllBut [.globals] s { s with globals := g } := by
  intro p hp
  cases p
  case globals => exact absurd (by decide) hp
  case stations | readers => exact fun _ => rfl
  all_goals rfl

/-- Settles O33: the bytes of the settings; then the report, the form refused and the form taken. -/
theorem setGlobalsClampsAndReports : Obligations.SetGlobalsClampsAndReports := by
  refine ⟨globalsBytes_spelled, fun s f => ⟨fun hr => ?_, fun hr => ⟨fun h => ?_, ?_⟩⟩⟩
  · exact answers_of_unchanged hr rfl rfl
  · exact refuses_of_work hr rfl (setGlobalsWork_absent (GlobalsForm.taken_absent h))
  · rintro w hw g rfl
    exact answers_of_result hr rfl (setGlobalsWork_taken (GlobalsForm.taken_of hw)) rfl rfl
      (keepsAllBut_globals s _) fun _ => rfl

end Sys2Proof.Machine
end

section
/-! SUPPORT. Fields written and read back: numbers and cents figures at their places, each argument form, and from them
every host command (O19). -/

namespace Sys2Proof.Machine

variable {k n at_ len : Nat} {x : Int} {y : List Byte}

/-! ### A field at its place (R188, Table 9-2) -/

theorem slice_skip {a : List Byte} (h : a.length ≤ at_) : slice (a ++ y) at_ len = slice y (at_ - a.length) len := by
  unfold slice
  rw [List.drop_append, List.drop_eq_nil_of_le h, List.nil_append]

theorem slice_front {a : List Byte} (h : a.length = len) : slice (a ++ y) 0 len = a := by
  unfold slice
  rw [List.drop_zero, List.take_left' h]

theorem beNat_be_of_fits (h : fitsUnsigned k n = true) : beNat (be k n) = n := by
  rw [beNat_be]
  exact Nat.mod_eq_of_lt (of_decide_eq_true h)

theorem centsOf_beCents (h : fitsCents x = true) : centsOf (beCents x) = x := by
  simp only [fitsCents, Bool.and_eq_true, decide_eq_true_eq] at h
  unfold centsOf beCents
  rw [beNat_be]
  split <;> omega

@[simp] theorem numberAt_front (h : fitsUnsigned k n = true) (y : List Byte) : numberAt (be k n ++ y) 0 k = n := by
  unfold numberAt
  rw [slice_front (length_be k n), beNat_be_of_fits h]

@[simp] theorem numberAt_whole (h : fitsUnsigned k n = true) : numberAt (be k n) 0 k = n := by
  simpa using numberAt_front h []

@[simp] theorem numberAt_past (h : k ≤ at_) (n : Nat) (y : List Byte) (len : Nat) :
    numberAt (be k n ++ y) at_ len = numberAt y (at_ - k) len := by
  unfold numberAt
  rw [slice_skip (by rwa [length_be]), length_be]

@[simp] theorem numberAt_past_cents (h : 4 ≤ at_) (x : Int) (y : List Byte) (len : Nat) :
    numberAt (beCents x ++ y) at_ len = numberAt y (at_ - 4) len := numberAt_past h _ y len

@[simp] theorem centsAt_front (h : fitsCents x = true) (y : List Byte) : centsAt (beCents x ++ y) 0 = x := by
  unfold centsAt
  rw [slice_front (length_beCents x), centsOf_beCents h]

@[simp] theorem centsAt_whole (h : fitsCents x = true) : centsAt (beCents x) 0 = x := by
  simpa using centsAt_front h []

@[simp] theorem centsAt_past (h : k ≤ at_) (n : Nat) (y : List Byte) : centsAt (be k n ++ y) at_ = centsAt y (at_ - k) := by
  unfold centsAt
  rw [slice_skip (by rwa [length_be]), length_be]

@[simp] theorem centsAt_past_cents (h : 4 ≤ at_) (x : Int) (y : List Byte) :
    centsAt (beCents x ++ y) at_ = centsAt y (at_ - 4) := centsAt_past h _ y

/-- A mask of two bytes or of one, and a token, fit the fields that carry them. -/
@[simp] theorem fitsUnsigned_toNat (w : Nat) (b : BitVec w) (h : 2 ^ w = 256 ^ k) : fitsUnsigned k b.toNat = true :=
  decide_eq_true (h ▸ b.isLt)

theorem tokenAt_front (t : Token) (y : List Byte) : tokenAt (be 8 t.toNat ++ y) 0 = t := by
  unfold tokenAt
  rw [numberAt_front (fitsUnsigned_toNat 64 t rfl), BitVec.ofNat_toNat, BitVec.setWidth_eq]

theorem tokenAt_whole (t : Token) : tokenAt (be 8 t.toNat) 0 = t := by simpa using tokenAt_front t []

/-! ### The argument forms (R191, R197, R198) -/

/-- Eight class counts are their eight places. -/
theorem eight_places (v : Vector Nat 8) : v = #v[v[0], v[1], v[2], v[3], v[4], v[5], v[6], v[7]] := by
  refine Vector.ext fun k hk => ?_
  have : k = 0 ∨ k = 1 ∨ k = 2 ∨ k = 3 ∨ k = 4 ∨ k = 5 ∨ k = 6 ∨ k = 7 := by omega
  rcases this with rfl | rfl | rfl | rfl | rfl | rfl | rfl | rfl <;> rfl

theorem classCounts_bytes (v : Vector Nat 8) : v.toList.flatMap (be 3) =
    be 3 v[0] ++ be 3 v[1] ++ be 3 v[2] ++ be 3 v[3] ++ be 3 v[4] ++ be 3 v[5] ++ be 3 v[6] ++ be 3 v[7] := by
  conv_lhs => rw [eight_places v]
  simp

theorem readLoadForm_bytes {f : LoadForm} (h : f.fits = true) : readLoadForm (loadFormBytes f) = f := by
  simp only [LoadForm.fits, Bool.and_eq_true, and_assoc] at h
  obtain ⟨hnumber, hkind, hstate, hbalance, hlimit, hpayer, hcap, hschedule, hmeter, hcharges, hcounts⟩ := h
  have hcount (k : Nat) (hk : k < 8) : fitsUnsigned 3 f.classCounts[k] = true :=
    List.all_eq_true.1 hcounts _ (by simp)
  simp [readLoadForm, loadFormBytes, classCounts_bytes, ← eight_places, *]

theorem readUpdateForm_bytes {f : UpdateForm} (h : f.fits = true) : readUpdateForm (updateFormBytes f) = f := by
  simp only [UpdateForm.fits, Bool.and_eq_true, and_assoc] at h
  obtain ⟨hnumber, hlimit, hcap, hschedule, hpayer, hkind⟩ := h
  simp [readUpdateForm, updateFormBytes, *]

theorem readTariffForm_bytes {f : TariffForm} (l : Nat) (h : f.fits = true) :
    readTariffForm (tariffFormBytes l f) = f := by
  simp only [TariffForm.fits, CellPrice.fits, Bool.and_eq_true, and_assoc] at h
  obtain ⟨hsmFront, hsmBack, hscFront, hscBack, hlmFront, hlmBack, hlcFront, hlcBack, hstart, hminimum, hquantum⟩ := h
  simp [readTariffForm, tariffFormBytes, pricesBytes, *]

theorem readScheduleForm_bytes {f : ScheduleForm} (n : Nat) (h : f.fits = true) :
    readScheduleForm (scheduleFormBytes n f) = f := by
  simp only [ScheduleForm.fits, Bool.and_eq_true, and_assoc] at h
  obtain ⟨ht1, ht2, ht3, hd0, hd1, hd2, hd3⟩ := h
  simp [readScheduleForm, scheduleFormBytes, *]

theorem readGlobalsForm_bytes {f : GlobalsForm} (h : f.fits = true) : readGlobalsForm (globalsFormBytes f) = f := by
  simp only [GlobalsForm.fits, Bool.and_eq_true, and_assoc] at h
  obtain ⟨hidle, hdrain, hjam, hauth, hamount, hschedule, hpoll, hlimit⟩ := h
  simp [readGlobalsForm, globalsFormBytes, *]

theorem readConfigForm_bytes {f : ConfigForm} (st : Nat) (h : f.fits = true) :
    readConfigForm (be 1 st ++ configFormBytes f) = f := by
  simp only [ConfigForm.fits, Bool.and_eq_true, and_assoc] at h
  obtain ⟨hfilter, hdivisor, hmode, hsource, hclass, hpermit, htd, hallowed, hstyle⟩ := h
  simp [readConfigForm, configFormBytes, *]

theorem length_loadFormBytes (f : LoadForm) : (loadFormBytes f).length = 52 := by
  simp [loadFormBytes, classCounts_bytes, length_be, length_beCents]

theorem length_updateFormBytes (f : UpdateForm) : (updateFormBytes f).length = 16 := by
  simp [updateFormBytes, length_be, length_beCents]

theorem length_tariffFormBytes (l : Nat) (f : TariffForm) : (tariffFormBytes l f).length = 29 := by
  simp [tariffFormBytes, pricesBytes, length_be, length_beCents]

theorem length_scheduleFormBytes (n : Nat) (f : ScheduleForm) : (scheduleFormBytes n f).length = 19 := by
  simp [scheduleFormBytes, length_be]

theorem length_globalsFormBytes (f : GlobalsForm) : (globalsFormBytes f).length = 16 := by
  simp [globalsFormBytes, length_be, length_beCents]

theorem length_configFormBytes (f : ConfigForm) : (configFormBytes f).length = 13 := by
  simp [configFormBytes, length_be]

/-! ### Every host command (R188, Table 9-3) -/

variable {code : Nat} {args : List Byte} {i j : Instr}

/-- A code of one argument length, whose arguments have it, spells the command that its fields give. -/
theorem decode_fixed (hcode : decodeCommand code args = fixedLength args n j) (hlen : args.length = n) (hij : j = i) :
    decodeCommand code args = .command i := by
  rw [hcode, fixedLength, if_pos hlen, hij]

theorem decode_globals (h : args.length ≠ 0) :
    decodeCommand 0x34 args = fixedLength args 16 (.setGlobals (some (readGlobalsForm args))) := if_neg h

theorem decode_authResult (h : args.length = 3) :
    decodeCommand 0x61 args = .command (.authResult (numberAt args 0 2) (numberAt args 2 1) none) := if_pos h

theorem decode_authGrant (h : args.length ≠ 3) : decodeCommand 0x61 args =
    fixedLength args 7 (.authResult (numberAt args 0 2) (numberAt args 2 1) (some (centsAt args 3))) := if_neg h

/-- Settles O19: each command by the length and the fields of its arguments. -/
theorem decodeOfEncodeIsTheCommand : Obligations.DecodeOfEncodeIsTheCommand := by
  intro i code args hw he
  cases i
  case deviceReset | resetRelease | selectPeriodStart | selectPeriodEnd | retryOfHeldStations | lineLevelChange |
      filterTimerExpiry | permitDelayExpiry | idleTimerExpiry | drainTimerExpiry | jamTimeout | authTimerExpiry |
      pollPeriodStart | periodTimerExpiry | broadcastTransferEnd | slotStart | displayTransferEnd |
      pollTransferEnd | answerLimitExpiry | answerReceived | clockReleased => cases he
  case loadAccount f =>
    cases he
    exact decode_fixed rfl (length_loadFormBytes f) (by rw [readLoadForm_bytes hw])
  case updateAccount f =>
    cases he
    exact decode_fixed rfl (length_updateFormBytes f) (by rw [readUpdateForm_bytes hw])
  case credit n x | debit n x =>
    cases he
    obtain ⟨hn, hx⟩ := Bool.and_eq_true_iff.1 hw
    exact decode_fixed rfl rfl (by simp [hn, hx])
  case block n | unblock n | retireAccount n | closePeriod n | readAccount n | listAccounts n =>
    cases he
    exact decode_fixed rfl rfl (by rw [numberAt_whole hw])
  case bindToken t n =>
    cases he
    exact decode_fixed rfl rfl (by rw [tokenAt_front, numberAt_past (by decide), numberAt_whole hw])
  case unbindToken t | findToken t =>
    cases he
    exact decode_fixed rfl rfl (by rw [tokenAt_whole])
  case writeTariff l f =>
    cases he
    obtain ⟨hl, hf⟩ := Bool.and_eq_true_iff.1 hw
    have hletter : numberAt (tariffFormBytes l f) 0 1 = l := by simp [tariffFormBytes, hl]
    exact decode_fixed rfl (length_tariffFormBytes l f) (by rw [hletter, readTariffForm_bytes l hf])
  case writeSchedule n f =>
    cases he
    obtain ⟨hn, hf⟩ := Bool.and_eq_true_iff.1 hw
    have hnumber : numberAt (scheduleFormBytes n f) 0 1 = n := by simp [scheduleFormBytes, hn]
    exact decode_fixed rfl (length_scheduleFormBytes n f) (by rw [hnumber, readScheduleForm_bytes n hf])
  case setGlobals g =>
    cases g with
    | none => cases he; rfl
    | some f =>
      cases he
      have hlen := length_globalsFormBytes f
      have hform : readGlobalsForm (globalsFormBytes f) = f := readGlobalsForm_bytes hw
      exact decode_fixed (decode_globals (by omega)) hlen (by rw [hform])
  case configureStation st f =>
    cases he
    obtain ⟨hst, hf⟩ := Bool.and_eq_true_iff.1 hw
    exact decode_fixed rfl (by simp [length_be, length_configFormBytes])
      (by simp [readConfigForm_bytes st hf, hst])
  case readTariff x | readSchedule x | enableStation x | disableStation x | readStation x | readStationAlarms x |
      endJob x | clearJam x | resetStation x | returnToService x | readReader x | sendShopMessage x =>
    cases he
    exact decode_fixed rfl rfl (by rw [numberAt_whole hw])
  case setStationTariff x y | openJob x y | configureReader x y =>
    cases he
    obtain ⟨hx, hy⟩ := Bool.and_eq_true_iff.1 hw
    exact decode_fixed rfl rfl (by simp [hx, hy])
  case presetReaderCounters a w x y z =>
    cases he
    simp only [WellFormed, Bool.and_eq_true, and_assoc] at hw
    obtain ⟨ha, hw, hx, hy, hz⟩ := hw
    exact decode_fixed rfl rfl (by simp [ha, hw, hx, hy, hz])
  case resetReaderBus | takeAuthRequest | statusSummary => cases he; rfl
  case authResult r o g =>
    simp only [WellFormed, Bool.and_eq_true, and_assoc] at hw
    obtain ⟨hr, ho, hg⟩ := hw
    cases g with
    | none =>
      cases he
      exact (decode_authResult rfl).trans (by simp [hr, ho])
    | some x =>
      cases he
      have hx : fitsCents x = true := hg
      exact decode_fixed (decode_authGrant (by simp [length_be, length_beCents])) rfl (by simp [hr, ho, hx])

end Sys2Proof.Machine
end

section
/-! SUPPORT. Select periods: the response message spelled out, the fall of SELn, and what its rise leaves at the link, the
reading settled first (O17). -/

namespace Sys2Proof.Machine

variable {s : State} {l : Link} {p : SelectPeriod} {n : Nat} {mosi : List Byte} {code : Byte} {holds : State → Prop}

theorem keepsAllBut_link (s : State) (l : Link) : KeepsAllBut [.link] s { s with link := l } := fun p hp =>
  agrees_withLink l (by simpa using hp) (keepsAllBut_refl [] s p (by simp))

/-! ### The response message (Table 9-6, R194) -/

theorem crcBytes_spelled (bytes : List Byte) :
    crcBytes bytes = [(crc16 bytes).extractLsb' 8 8, (crc16 bytes).extractLsb' 0 8] := by
  generalize hc : crc16 bytes = c
  have hhigh : BitVec.ofNat 8 (c.toNat / 256) = c.extractLsb' 8 8 :=
    BitVec.eq_of_toNat_eq (by simp [Nat.shiftRight_eq_div_pow])
  have hlow : BitVec.ofNat 8 c.toNat = c.extractLsb' 0 8 := BitVec.eq_of_toNat_eq (by simp)
  unfold crcBytes
  rw [hc, ← hhigh, ← hlow]
  rfl

/-- The status codes of Table 9-1. -/
def statusCodes : List (Status × Byte) :=
  [(.ok, 0x00), (.clamped, 0x01), (.deferred, 0x02), (.badFrame, 0x03), (.unknownCommand, 0x04), (.invalid, 0x05),
    (.notFound, 0x06), (.exists_, 0x07), (.full, 0x08), (.busy, 0x09), (.refusedState, 0x0A), (.limit, 0x0B),
    (.noRequest, 0x0C), (.approvedUnused, 0x0D)]

theorem status_code : ∀ e ∈ statusCodes, BitVec.ofNat 8 e.1.code = e.2 := by decide

theorem message_spelled (r : Response) (collision : Bool) {body : List Byte}
    (hb : body = [BitVec.ofNat 8 r.status.code, if collision then 1#8 else 0#8,
      BitVec.ofNat 8 (r.results.length / 256), BitVec.ofNat 8 (r.results.length % 256)] ++ r.results) :
    r.message collision = body ++ [(crc16 body).extractLsb' 8 8, (crc16 body).extractLsb' 0 8] := by
  have hflag : BitVec.ofNat 8 collision.toNat = if collision then 1#8 else 0#8 := by cases collision <;> rfl
  have hlen : BitVec.ofNat 8 (r.results.length % 256) = BitVec.ofNat 8 r.results.length :=
    BitVec.eq_of_toNat_eq (by simp)
  rw [← crcBytes_spelled, hb, ← hflag, hlen]
  rfl

/-! ### The fall of SELn (R181, R185) -/

/-- The select period that a fall of SELn begins: the response that waits, with the collision flag as it stands. -/
def Link.periodBegun (l : Link) : SelectPeriod :=
  { shifting := l.response.map fun r => r.message l.collision
    showsCollision := l.response.isSome && l.collision
    live := l.response.isSome }

theorem selectStart_of (h : l.select = none) : l.selectStart = { l with select := some l.periodBegun } := by
  unfold Link.selectStart
  rw [h]
  rfl

theorem periodBegun_empty (h : l.response = none) :
    l.periodBegun = { shifting := none, showsCollision := false, live := false } := by
  simp [Link.periodBegun, h]

theorem periodBegun_response {r : Response} (h : l.response = some r) :
    l.periodBegun = { shifting := some (r.message l.collision), showsCollision := l.collision, live := true } := by
  simp [Link.periodBegun, h]

/-! ### The reading at the rise of SELn (R183) -/

theorem wasRead_iff : p.wasRead n = true ↔
    p.live = true ∧ ∃ bytes, p.shifting = some bytes ∧ bytes.length ≤ n := by
  unfold SelectPeriod.wasRead
  cases p.shifting <;> simp

theorem not_wasRead_iff : p.wasRead n = false ↔
    p.live = false ∨ p.shifting = none ∨ ∃ bytes, p.shifting = some bytes ∧ n < bytes.length := by
  unfold SelectPeriod.wasRead
  cases p.live <;> cases p.shifting <;> simp

theorem settleReading_read (h : p.wasRead n = true) : (l.settleReading p n).response = none ∧
    (l.settleReading p n).collision = (l.collision && !p.showsCollision) := by
  simp [Link.settleReading, h]

theorem settleReading_unread (h : p.wasRead n = false) : (l.settleReading p n).response = l.response ∧
    (l.settleReading p n).collision = l.collision := by
  simp [Link.settleReading, h]

/-- What the reading leaves in the buffer and of the collision flag, from its two cases. -/
theorem settleReading_eq {left : Option Response} {flag : Bool}
    (hread : p.live = true → (∃ bytes, p.shifting = some bytes ∧ bytes.length ≤ n) →
      left = none ∧ flag = (l.collision && !p.showsCollision))
    (hkept : p.live = false ∨ p.shifting = none ∨ (∃ bytes, p.shifting = some bytes ∧ n < bytes.length) →
      left = l.response ∧ flag = l.collision) :
    (l.settleReading p n).response = left ∧ (l.settleReading p n).collision = flag := by
  cases h : p.wasRead n with
  | true =>
    obtain ⟨hlive, hwhole⟩ := wasRead_iff.1 h
    obtain ⟨rfl, rfl⟩ := hread hlive hwhole
    exact settleReading_read h
  | false =>
    obtain ⟨rfl, rfl⟩ := hkept (not_wasRead_iff.1 h)
    exact settleReading_unread h

/-! ### The rise of SELn (R182 to R186) -/

/-- The period is over: MISO at high impedance, after the response and then FF (R181). -/
def PeriodEnds (p : SelectPeriod) (n : Nat) (t : State) : Prop :=
  t.link.select = none ∧ t.link.misoDriven = false ∧
    t.link.misoOut = ((p.shifting.getD []) ++ List.replicate n 0xFF#8).take n

/-- A rise of SELn that leaves the link `m` leaves nothing else, the pins driven. -/
theorem happens_selectEnd {m : Link} (hr : s.resetLow = false) (hp : s.link.select = some p)
    (hm : (s.link.settleReading p mosi.length).judge mosi = m) (hh : holds { s with link := m }.drive) :
    Happens (.selectPeriodEnd mosi) s [.link] holds := by
  have hend : s.link.selectEnd mosi = m := by
    unfold Link.selectEnd
    rw [hp]
    exact hm
  refine happens_of_event hr rfl (keepsAllBut_link s _) ?_
  rw [hend]
  exact hh

theorem judge_none (h : mosi = [] ∨ mosi.head? = some 0#8) : l.judge mosi = l := by
  have hc : carriesCommand mosi = false := by cases mosi <;> simp_all [carriesCommand]
  simp [Link.judge, hc]

theorem carriesCommand_cons (h : code ≠ 0#8) (rest : List Byte) : carriesCommand (code :: rest) = true := by
  simp [carriesCommand, h]

theorem judge_collides (hc : carriesCommand mosi = true) (hj : l.judged.isSome = true) :
    l.judge mosi = { l with collision := true } := by
  simp [Link.judge, hc, hj]

theorem judge_takes (hc : carriesCommand mosi = true) (hj : l.judged = none) :
    l.judge mosi = l.take (judgeMessage mosi) := by
  simp [Link.judge, hc, hj]

/-- Settles O17: the fall of SELn by the period it begins, the message by its bytes, and the rise without a command by
whether the response was read. -/
theorem selectPeriodShiftsAndReadsTheResponse : Obligations.SelectPeriodShiftsAndReadsTheResponse := by
  refine ⟨fun s hr h => happens_of_event hr rfl (keepsAllBut_link s _) ?_,
    fun r collision code body hcode hb => message_spelled r collision (by rw [status_code (_, code) hcode, hb]),
    fun s p mosi hr hp hm => happens_selectEnd hr hp (judge_none hm) ⟨rfl, rfl, ?_, rfl, fun bytes hs hl hn => ?_,
      fun hn => settleReading_unread (not_wasRead_iff.2 hn)⟩⟩
  · rw [selectStart_of h]
    exact ⟨rfl, rfl, rfl, rfl, by simp [hr], fun hn => congrArg some (periodBegun_empty hn),
      fun r hs => congrArg some (periodBegun_response hs)⟩
  · simp [Link.settleReading]
  · exact settleReading_read (wasRead_iff.2 ⟨hl, bytes, hs, hn⟩)

end Sys2Proof.Machine
end

section
/-! SUPPORT. The judging of a command message: its frame, the argument lengths that a code takes, and the findings of
R182 in their order (O18, O20). -/

namespace Sys2Proof.Machine

variable {s : State} {p : SelectPeriod} {n : Nat} {mosi a args tail : List Byte} {code : Byte} {crc : BitVec 16}

/-! ### The argument lengths of a code (R188, Table 9-3) -/

/-- What a code spells with arguments of length `n`, when it takes the lengths `ls`: a command for those, and
a wrong length for any other. -/
def TakesLengths (r : CommandReading) (ls : List Nat) (n : Nat) : Prop :=
  (n ∉ ls → r = .wrongLength) ∧ (n ∈ ls → ∃ i, r = .command i)

theorem fixedLength_takes (a : List Byte) (n : Nat) (i : Instr) :
    TakesLengths (fixedLength a n i) [n] a.length := by
  unfold fixedLength TakesLengths
  by_cases h : a.length = n <;> simp [h]

/-- A code of two lengths, each with its own form. -/
theorem twoLengths_take (a : List Byte) (m n : Nat) (i j : Instr) :
    TakesLengths (if a.length = m then .command i else fixedLength a n j) [m, n] a.length := by
  unfold fixedLength TakesLengths
  by_cases hm : a.length = m
  · simp [hm]
  · by_cases hn : a.length = n
    · subst hn
      simp [hm]
    · simp [hm, hn]

/-- Every code of Table 9-3 takes its argument lengths and no others. -/
theorem decodeCommand_takes (a : List Byte) :
    ∀ e ∈ argumentLengths, TakesLengths (decodeCommand e.1 a) e.2 a.length := by
  intro e he
  fin_cases he
  any_goals exact fixedLength_takes a _ _
  · exact twoLengths_take a 0 16 _ _
  · exact twoLengths_take a 3 7 _ _

theorem decodeCommand_unknown (h : ∀ e ∈ argumentLengths, e.1 ≠ n) : decodeCommand n a = .unknownCode := by
  unfold decodeCommand
  split
  case h_38 => rfl
  all_goals exact absurd h (by decide)

/-- The codes are bytes other than 00, and the lengths are those a message can have (R181, R188). -/
theorem argumentLengths_bounds : ∀ e ∈ argumentLengths, 0 < e.1 ∧ e.1 < 256 ∧ ∀ n ∈ e.2, n ≤ 60 := by decide

/-- Code and arguments that spell a command fit a message. -/
theorem bounds_of_command {c : Nat} {i : Instr} (h : decodeCommand c a = .command i) :
    0 < c ∧ c < 256 ∧ a.length ≤ 60 := by
  by_cases hc : ∀ e ∈ argumentLengths, e.1 ≠ c
  · rw [decodeCommand_unknown hc] at h
    cases h
  · push Not at hc
    obtain ⟨e, he, rfl⟩ := hc
    obtain ⟨hpos, hlt, hle⟩ := argumentLengths_bounds e he
    refine ⟨hpos, hlt, hle _ ?_⟩
    by_contra hn
    rw [(decodeCommand_takes a e he).1 hn] at h
    cases h

/-! ### The frame of a message (Table 9-5, R194) -/

/-- What a message has led to, once its code and arguments are read (R182 steps 4 and 5). -/
def verdictOf : CommandReading → Judged
  | .unknownCode => .refusal .unknownCommand
  | .wrongLength => .refusal .invalid
  | .command i => .command i

theorem judgeMessage_short (h : mosi.length < 2 ∨ 60 < numberAt mosi 1 1 ∨ mosi.length < 4 + numberAt mosi 1 1) :
    judgeMessage mosi = .refusal .badFrame := if_pos h

/-- A message with whole arguments and a CRC, whatever bytes follow: a wrong CRC is a bad frame, otherwise its
code and arguments decide. -/
theorem judgeMessage_framed (hl : args.length ≤ 60)
    (hm : mosi = code :: BitVec.ofNat 8 args.length :: args ++ be 2 crc.toNat ++ tail) :
    judgeMessage mosi =
      if crc16 (code :: BitVec.ofNat 8 args.length :: args) ≠ crc then .refusal .badFrame
      else verdictOf (decodeCommand code.toNat args) := by
  have hcode : numberAt mosi 0 1 = code.toNat := by
    rw [hm]
    simp [numberAt, slice, beNat]
  have hlen : numberAt mosi 1 1 = args.length := by
    rw [hm]
    simp [numberAt, slice, beNat]
    omega
  have hbody : slice mosi 0 (2 + args.length) = code :: BitVec.ofNat 8 args.length :: args := by
    rw [hm, List.append_assoc]
    exact slice_front (by simp; omega)
  have hargs : slice mosi 2 args.length = args := by
    rw [hm, List.append_assoc]
    exact slice_middle [code, BitVec.ofNat 8 args.length] args (be 2 crc.toNat ++ tail) 2 _ rfl rfl
  have hcrc : BitVec.ofNat 16 (numberAt mosi (2 + args.length) 2) = crc := by
    unfold numberAt
    rw [hm, slice_middle _ _ _ _ _ (by simp; omega) (length_be 2 _), beNat_be_of_fits (fitsUnsigned_toNat 16 crc rfl)]
    simp
  have hwhole : ¬(mosi.length < 2 ∨ 60 < args.length ∨ mosi.length < 4 + args.length) := by
    have : mosi.length = 4 + args.length + tail.length := by
      rw [hm]
      simp [length_be]
      omega
    omega
  unfold judgeMessage
  simp only [hcode, hlen, hbody, hargs, hcrc, if_neg hwhole]
  split_ifs
  · rfl
  · cases decodeCommand code.toNat args <;> rfl

/-! ### A message judged with RDY high (R182, R184, R186) -/

variable {j : Judged} {rest : List Byte}

/-- RDY falls for what the message has led to, and the unread response is discarded. -/
theorem happens_judged (hr : s.resetLow = false) (hp : s.link.select = some p) (hj : s.link.judged = none)
    (hc : code ≠ 0#8) (hm : judgeMessage (code :: rest) = j) :
    Happens (.selectPeriodEnd (code :: rest)) s [.link] fun t =>
      PeriodEnds p (code :: rest).length t ∧ t.link.judged = some j ∧ t.link.rdy = false ∧ t.link.response = none ∧
        t.link.collision = (s.link.settleReading p (code :: rest).length).collision :=
  happens_selectEnd hr hp (judge_takes (carriesCommand_cons hc rest) hj)
    ⟨⟨rfl, by simp [Link.take, Link.dropResponse, Link.settleReading], rfl⟩, by rw [hm]; rfl, by simp [Link.take],
      rfl, rfl⟩

/-- Settles O18: the reading settled first; then a collision, or what `judgeMessage` finds, in its order. -/
theorem commandMessageIsJudgedInOrder : Obligations.CommandMessageIsJudgedInOrder := by
  rintro s p mosi code rest left flag hr hp rfl hc hread hkept ends rfl refused rfl
  obtain ⟨hleft, hflag⟩ := settleReading_eq (l := s.link) hread hkept
  have judged {j : Judged} (hj : s.link.judged = none) (hm : judgeMessage (code :: rest) = j) :=
    hflag ▸ happens_judged hr hp hj hc hm
  refine ⟨fun hj => ?_, fun hj h => judged hj (judgeMessage_short h), fun args tail crc hj hl hm => ?_⟩
  · exact happens_selectEnd hr hp (judge_collides (carriesCommand_cons hc rest) hj)
      ⟨⟨rfl, by simp [Link.settleReading], rfl⟩, rfl, by simp [Link.settleReading, hj], hleft, rfl⟩
  have hframe := judgeMessage_framed hl hm
  refine ⟨fun hne => judged hj (hframe.trans (if_pos (Ne.symm hne))), ?_⟩
  rintro rfl
  rw [if_neg (not_not.2 rfl)] at hframe
  refine ⟨fun hunknown => ?_, fun e he hcode => ⟨fun hn => ?_, fun hn => ?_⟩⟩
  · exact judged hj (hframe.trans (by rw [decodeCommand_unknown hunknown]; rfl))
  · exact judged hj (hframe.trans (by rw [← hcode, (decodeCommand_takes args e he).1 hn]; rfl))
  · obtain ⟨i, hi⟩ := (decodeCommand_takes args e he).2 hn
    rw [hcode] at hi
    exact ⟨i, hi, judged hj (hframe.trans (by rw [hi]; rfl))⟩

/-- Settles O20: the message is framed as its code and arguments, which spell the command (O19). -/
theorem wellFormedMessageIsTaken : Obligations.WellFormedMessageIsTaken := by
  intro s p i code args tail hr hp hj hw he
  have hi := decodeOfEncodeIsTheCommand i code args hw he
  obtain ⟨hpos, hlt, hl⟩ := bounds_of_command hi
  have hcode : (BitVec.ofNat 8 code).toNat = code := Nat.mod_eq_of_lt hlt
  have hm : messageBytes code args ++ tail = BitVec.ofNat 8 code :: BitVec.ofNat 8 args.length :: args ++
      be 2 (crc16 (BitVec.ofNat 8 code :: BitVec.ofNat 8 args.length :: args)).toNat ++ tail := rfl
  have hjudge := judgeMessage_framed hl hm
  rw [if_neg (not_not.2 rfl), hcode, hi] at hjudge
  obtain ⟨t, hx, hk, hpins, ⟨hsel, -⟩, hjudged, hrdy, hresponse, -⟩ :=
    happens_judged hr hp hj (fun h => by rw [h] at hcode; simp at hcode; omega) hjudge
  exact ⟨t, hx, hk, hpins, hjudged, hrdy, hresponse, hsel⟩

end Sys2Proof.Machine
end

section
/-! SUPPORT. What the part does on an empty queue: the first timer that has run out, in the order of log 5, the bus
event that is due, and 0.1 ms of time (O2). -/

namespace Sys2Proof.Machine

variable {s : State} {i : StationId} {a : Account} {c : Instr} {timer : Station → Timer}

/-! ### The lowest station whose timer has run out (log 5) -/

theorem ranOut_iff (t : Timer) : ranOut t = true ↔ t = some 0 := beq_iff_eq

theorem ranOut_eq_false_iff (t : Timer) : ranOut t = false ↔ t ≠ some 0 := by
  rw [← Bool.not_eq_true, ranOut_iff]

/-- The lowest station at which this timer has run out. -/
def State.runOutAt (s : State) (timer : Station → Timer) : Option StationId := s.firstStation fun st => ranOut (timer st)

theorem below_of_mem_take : ∀ i : StationId, ∀ k ∈ allStations.take i.val, k < i := by decide

theorem runOutAt_lowest (h : timer (s.station i) = some 0) (hlow : ∀ k, k < i → timer (s.station k) ≠ some 0) :
    s.runOutAt timer = some i := by
  obtain ⟨rest, hsplit, -⟩ := allStations_split i
  refine List.find?_eq_some_iff_append.2 ⟨(ranOut_iff _).2 h, _, rest, hsplit, fun k hk => ?_⟩
  show (!ranOut (timer (s.station k))) = true
  rw [(ranOut_eq_false_iff _).2 (hlow k (below_of_mem_take i k hk))]
  rfl

theorem runOutAt_none (h : ∀ i, timer (s.station i) ≠ some 0) : s.runOutAt timer = none :=
  List.find?_eq_none.2 fun i _ => Bool.not_eq_true _ ▸ (ranOut_eq_false_iff _).2 (h i)

/-! ### Filter timers (R99) -/

/-- The first entry of a list that `pick` takes, when it takes none of those before. -/
theorem findSome_first {α β : Type} [DecidableEq α] {pick : α → Option β} {x : α} {y : β} {l : List α} (hx : x ∈ l)
    (hy : pick x = some y) (hn : ∀ z ∈ l.takeWhile (fun z => z != x), pick z = none) : l.findSome? pick = some y := by
  induction l with
  | nil => cases hx
  | cons z l ih =>
    by_cases hz : z = x
    · rw [hz, List.findSome?_cons_of_isSome (by rw [hy]; rfl), hy]
    · have hfirst : (z :: l).takeWhile (fun z => z != x) = z :: l.takeWhile (fun z => z != x) := by simp [hz]
      rw [hfirst, List.forall_mem_cons] at hn
      rw [List.findSome?_cons, hn.1]
      exact ih (List.mem_of_ne_of_mem (Ne.symm hz) hx) hn.2

theorem dueFilter_first {f : FilteredLine} (h : (s.station i).filterTimers.get f = some 0)
    (hlines : ∀ k, ∀ g ∈ [FilteredLine.ready, .feed, .exit, .jam].takeWhile fun x => x != f,
      (s.station k).filterTimers.get g ≠ some 0)
    (hlow : ∀ k, k < i → (s.station k).filterTimers.get f ≠ some 0) :
    s.dueFilter = some (.filterTimerExpiry i f) := by
  refine findSome_first (x := f) (by cases f <;> decide) ?_ fun g hg => ?_
  · exact congrArg (Option.map _) (runOutAt_lowest (timer := fun st => st.filterTimers.get f) h hlow)
  · exact congrArg (Option.map _) (runOutAt_none (timer := fun st => st.filterTimers.get g) fun k => hlines k g hg)

theorem dueFilter_none (h : ∀ i f, (s.station i).filterTimers.get f ≠ some 0) : s.dueFilter = none :=
  List.findSome?_eq_none_iff.2 fun f _ =>
    congrArg (Option.map _) (runOutAt_none (timer := fun st => st.filterTimers.get f) fun i => h i f)

/-! ### Station timers, authorisation timers, the bus (R114, R72, R122, R132, R174, R141) -/

/-- The station timers in their order (log 5). -/
theorem dueStation_eq (s : State) : s.dueStation = (s.dueFilter <|>
    (s.runOutAt Station.permitDelay).map Instr.permitDelayExpiry <|>
    (s.runOutAt fun st => st.job.bind Job.idleTimer).map Instr.idleTimerExpiry <|>
    (s.runOutAt Station.drainTimer).map Instr.drainTimerExpiry <|>
    (s.runOutAt Station.jamTimer).map Instr.jamTimeout) := rfl

/-- The table stands in ascending number, so the first record run out is the lowest. -/
theorem dueAuth_lowest (o : AccountsInOrder s) (ha : a ∈ s.accounts) (hp : a.isPending = true)
    (ht : a.walkup.bind Walkup.authTimer = some 0)
    (hlow : ∀ b ∈ s.accounts, b.isPending → b.walkup.bind Walkup.authTimer = some 0 → a.number ≤ b.number) :
    s.dueAuth = some (.authTimerExpiry a.number) := by
  have hpick (b : Account) : (b.isPending && ranOut (b.walkup.bind Walkup.authTimer)) = true ↔
      b.isPending = true ∧ b.walkup.bind Walkup.authTimer = some 0 := by
    rw [Bool.and_eq_true, ranOut_iff]
  have hfind : s.accounts.find? (fun b => b.isPending && ranOut (b.walkup.bind Walkup.authTimer)) = some a := by
    obtain ⟨as, bs, hsplit⟩ := List.append_of_mem ha
    refine List.find?_eq_some_iff_append.2 ⟨(hpick a).2 ⟨hp, ht⟩, as, bs, hsplit, fun b hb => ?_⟩
    rw [Bool.not_eq_true', ← Bool.not_eq_true, hpick]
    rintro ⟨hbp, hbt⟩
    have hle := hlow b (hsplit ▸ List.mem_append_left _ hb) hbp hbt
    have hlt : b.number < a.number := by
      have ho : (s.accounts.map Account.number).Pairwise (· < ·) := o
      rw [hsplit, List.map_append, List.pairwise_append] at ho
      exact ho.2.2 _ (List.mem_map_of_mem hb) _ (List.mem_map_of_mem List.mem_cons_self)
    omega
  unfold State.dueAuth
  rw [hfind]
  rfl

theorem dueAuth_none (h : ∀ a ∈ s.accounts, a.isPending → a.walkup.bind Walkup.authTimer ≠ some 0) :
    s.dueAuth = none := by
  have hfind : s.accounts.find? (fun b => b.isPending && ranOut (b.walkup.bind Walkup.authTimer)) = none :=
    List.find?_eq_none.2 fun a ha => by
      rw [Bool.and_eq_true, ranOut_iff]
      exact fun ⟨hp, ht⟩ => h a ha hp ht
  unfold State.dueAuth
  rw [hfind]
  rfl

theorem periodDue_iff : s.periodDue = true ↔ s.bus.phase = .atRest ∧ s.bus.periodTimer = none := by
  simp [State.periodDue]

theorem dueBus_timer (h : s.bus.periodTimer = some 0) : s.dueBus = some .periodTimerExpiry :=
  if_pos ((ranOut_iff _).2 h)

theorem dueBus_period (hrest : s.bus.phase = .atRest) (ht : s.bus.periodTimer = none) :
    s.dueBus = some .pollPeriodStart := by
  unfold State.dueBus
  rw [if_neg (by rw [ranOut_iff, ht]; exact nofun), if_pos (periodDue_iff.2 ⟨hrest, ht⟩)]

theorem dueBus_slot (hphase : s.bus.phase = .betweenSlots) (hserve : s.bus.toServe ≠ [])
    (hclock : s.bus.clockHeld = false) (ht : s.bus.periodTimer ≠ some 0) : s.dueBus = some .slotStart := by
  unfold State.dueBus
  rw [if_neg (by rwa [ranOut_iff]), if_neg (by rw [periodDue_iff, hphase]; exact nofun),
    if_pos ⟨hphase, hserve, hclock⟩]

theorem dueBus_none (ht : s.bus.periodTimer ≠ some 0)
    (hperiod : s.bus.phase ≠ .atRest ∨ s.bus.periodTimer ≠ none)
    (hslot : s.bus.phase ≠ .betweenSlots ∨ s.bus.toServe = [] ∨ s.bus.clockHeld = true) : s.dueBus = none := by
  unfold State.dueBus
  rw [if_neg (by rwa [ranOut_iff]), if_neg (by rw [periodDue_iff]; tauto), if_neg]
  rintro ⟨hphase, hserve, hclock⟩
  rcases hslot with h | h | h
  · exact h hphase
  · exact hserve h
  · rw [hclock] at h
    cases h

/-! ### The step on an empty queue (log 2) -/

/-- Nothing waits: an empty queue, no message in hand and no retry owed, out of reset. -/
structure State.Unoccupied (s : State) : Prop where
  queue : s.pending = []
  running : s.resetLow = false
  link : s.link.judged = none
  retries : s.retryOwed = []

theorem step_empty (h : s.pending = []) : step s = s.ownStep := by
  unfold step
  rw [h]

theorem dueRefusal_none (h : s.link.judged = none) : s.dueRefusal = none := by
  simp [State.dueRefusal, h]

theorem step_due (hq : s.pending = []) (hj : s.link.judged = none) (hd : s.dueEvent = some c) :
    step s = exec c s := by
  rw [step_empty hq, State.ownStep, dueRefusal_none hj, hd]

theorem dueEvent_retry {n : Nat} {rest : List Nat} (hr : s.resetLow = false) (hj : s.link.judged = none)
    (ho : s.retryOwed = n :: rest) : s.dueEvent = some (.retryOfHeldStations n) := by
  simp [State.dueEvent, hr, Link.executing, hj, ho]

namespace State.Unoccupied

theorem dueEvent (h : s.Unoccupied) : s.dueEvent = (s.dueStation <|> s.dueAuth <|> s.dueBus) := by
  simp [State.dueEvent, h.running, Link.executing, h.link, h.retries]

theorem step_station (h : s.Unoccupied) (hs : s.dueStation = some c) : step s = exec c s :=
  step_due h.queue h.link (by rw [h.dueEvent, hs]; rfl)

theorem step_auth (h : s.Unoccupied) (hs : s.dueStation = none) (ha : s.dueAuth = some c) : step s = exec c s :=
  step_due h.queue h.link (by rw [h.dueEvent, hs, ha]; rfl)

theorem step_bus (h : s.Unoccupied) (hs : s.dueStation = none) (ha : s.dueAuth = none) (hb : s.dueBus = some c) :
    step s = exec c s :=
  step_due h.queue h.link (by rw [h.dueEvent, hs, ha, hb]; rfl)

theorem step_tick (h : s.Unoccupied) (hs : s.dueStation = none) (ha : s.dueAuth = none) (hb : s.dueBus = none) :
    step s = .next s.tick := by
  have hd : s.dueEvent = none := by rw [h.dueEvent, hs, ha, hb]; rfl
  rw [step_empty h.queue, State.ownStep, dueRefusal_none h.link, hd]

end State.Unoccupied

theorem step_inReset (hq : s.pending = []) (h : s.resetLow = true) : step s = .next s := by
  have hrefusal : s.dueRefusal = none := if_pos h
  have hevent : s.dueEvent = none := if_pos h
  have htick : s.tick = s := if_pos h
  rw [step_empty hq, State.ownStep, hrefusal, hevent]
  exact congrArg _ htick

theorem step_refusal {status : Status} (hq : s.pending = []) (hr : s.resetLow = false)
    (hj : s.link.judged = some (.refusal status)) : step s = .next (s.placeRefusal status) := by
  have hrefusal : s.dueRefusal = some status := by simp [State.dueRefusal, hr, hj]
  rw [step_empty hq, State.ownStep, hrefusal]

/-- 0.1 ms out of reset: every running timer has so much less left, and the time base moves on. -/
theorem tick_running (h : s.resetLow = false) : s.tick =
    { s with
      stations := mapSixteen (fun _ st => st.count) s.stations
      accounts := s.accounts.map Account.count
      bus := { s.bus with periodTimer := Timer.count s.bus.periodTimer }
      subMs := if s.subMs + 1 < Config.stepsPerMs then s.subMs + 1 else 0 } :=
  if_neg (by rw [h]; exact Bool.false_ne_true)

theorem keepsAllBut_tick (h : s.resetLow = false) : KeepsAllBut [.accounts, .stations, .bus, .time] s s.tick := by
  rw [tick_running h]
  intro p hp
  cases p
  case accounts | stations | bus | time => exact absurd (by decide) hp
  case readers => exact fun _ => rfl
  all_goals rfl

theorem subMs_tick (h : s.resetLow = false) : s.tick.subMs = if s.subMs < 9 then s.subMs + 1 else 0 := by
  rw [tick_running h]
  simp only [Config.stepsPerMs, show s.subMs + 1 < 10 ↔ s.subMs < 9 by omega]

/-- Settles O2: what is in hand, then the owed retry; then the due events one kind after the other, none of a kind due
before the next is looked at. -/
theorem emptyQueueServesTakenCommandThenOwedRetry : Obligations.EmptyQueueServesTakenCommandThenOwedRetry := by
  refine ⟨fun s hq => ⟨step_inReset hq, fun hr c hj => (step_empty hq).trans (ownStep_of_command hr hj),
    fun hr status hj => ?_, fun hr hj n rest ho => step_due hq hj (dueEvent_retry hr hj ho)⟩,
    fun s hq hr hj ho => ?_⟩
  · obtain ⟨hanswer, hkeeps, hpins⟩ := placeRefusal_facts status hr
    exact ⟨_, step_refusal hq hr hj, hanswer, hkeeps, hpins, rfl, by rw [hanswer]⟩
  have hu : s.Unoccupied := ⟨hq, hr, hj, ho⟩
  have hstation := dueStation_eq s
  refine ⟨fun i f h hlines hlow => hu.step_station (by rw [hstation, dueFilter_first h hlines hlow]; rfl),
    fun hfilter => ?_⟩
  rw [dueFilter_none hfilter] at hstation
  refine ⟨fun i h hlow => hu.step_station (by rw [hstation, runOutAt_lowest h hlow]; rfl), fun hpermit => ?_⟩
  rw [runOutAt_none hpermit] at hstation
  refine ⟨fun i h hlow => hu.step_station (by rw [hstation, runOutAt_lowest h hlow]; rfl), fun hidle => ?_⟩
  rw [runOutAt_none hidle] at hstation
  refine ⟨fun i h hlow => hu.step_station (by rw [hstation, runOutAt_lowest h hlow]; rfl), fun hdrain => ?_⟩
  rw [runOutAt_none hdrain] at hstation
  refine ⟨fun i h hlow => hu.step_station (by rw [hstation, runOutAt_lowest h hlow]; rfl), fun hjam => ?_⟩
  rw [runOutAt_none hjam] at hstation
  refine ⟨fun o a ha hp ht hlow => hu.step_auth hstation (dueAuth_lowest o ha hp ht hlow), fun hauth => ?_⟩
  have hnoauth := dueAuth_none hauth
  refine ⟨fun ht => hu.step_bus hstation hnoauth (dueBus_timer ht),
    fun hrest ht => hu.step_bus hstation hnoauth (dueBus_period hrest ht),
    fun hphase hserve hclock ht => hu.step_bus hstation hnoauth (dueBus_slot hphase hserve hclock ht),
    fun ht hperiod hslot => ⟨s.tick, hu.step_tick hstation hnoauth (dueBus_none ht hperiod hslot),
      keepsAllBut_tick hr, ?_, ?_, subMs_tick hr, fun i => station_tick hr i⟩⟩
  · rw [tick_running hr]
    rfl
  · rw [tick_running hr]
    rfl

end Sys2Proof.Machine
end
